-- ==== Sys2Proof/Word.lean ====
section
/-! DEFINITION. The one word type of the links and of the journal: the byte (11.1). -/

namespace Sys2Proof

/-- One byte of a frame, a record or the stored profile. -/
abbrev Byte := BitVec 8

end Sys2Proof
end

