-- ==== Sys2Proof/Config.lean ====
section
/-! DEFINITION. The values the manual leaves open, as constants without a body: nothing about them can be proved,
so whatever is proved holds for every value of them. -/

namespace Sys2Proof.Config

/-- R116: the value RS delivers at its n-th demand since the model's start (notes/assumptions/6.md). -/
opaque randomValue : Nat → BitVec 32

/-- R184: whether byte `i` of the stored profile holds the new value after the n-th save that a reset cut short
(notes/assumptions/7.md). -/
opaque tornSaveTaken : Nat → Nat → Bool

/-- R71 needs t1; this is the t1 used for a probe (by its number) that is closed by an ECHO before its PROBE has left
(notes/assumptions/8.md). -/
opaque unsentProbeTime : Nat → BitVec 64

/-- R76: the twin B of Equation 3 when the recorded status carries none, by the tick of the evaluation
(notes/assumptions/9.md). -/
opaque absentTwinBound : Nat → BitVec 32

/-- The instant stored where a T_min or T_end of R117, R127 or R131 falls outside its 64-bit field, by the exact sum
(notes/assumptions/10.md). -/
opaque overflowInstant : Nat → BitVec 64

/-- The value stored where a θ or a delay of R71 falls outside signed 64 bits, by the exact quotient
(notes/assumptions/10.md). -/
opaque overflowSigned : Int → BitVec 64

end Sys2Proof.Config
end

