-- ==== Sys2Proof/Syntax.lean ====
section
/-! DEFINITION. The commands of the UZG-7416: one constructor per row of spec/opcode_table.json. An operand stands for
what comes from outside with the event (notes/assumptions/11.md). -/

namespace Sys2Proof

/-- The two references (chapter 2). -/
inductive Ref where
  | a | b
  deriving DecidableEq, Repr

/-- The cause of a power-on, pin or supply reset (10.2). -/
inductive ResetCause where
  | powerOn | pin | supply
  deriving DecidableEq, Repr

/-- One stamp port, SP0 to SP7. -/
abbrev PortIx := Fin 8

/-- One instrument group, 0 to 15. -/
abbrev GroupIx := Fin 16

/-- The commands, in the order of the opcode table. -/
inductive Instr where
  /-- RESET, R179. -/
  | reset (cause : ResetCause)
  /-- START_UP, R180. -/
  | startUp
  /-- OSCILLATOR_TICK, R1. -/
  | oscillatorTick
  /-- SECOND_BOUNDARY, R4. -/
  | secondBoundary
  /-- CALL_START_EXPIRY, R121. -/
  | callStartExpiry
  /-- WINDOW_START_EXPIRY, R121. -/
  | windowStartExpiry
  /-- CLOSE_EXPIRY, R122. -/
  | closeExpiry
  /-- MARK_EDGE, R19: an edge on the mark input of `r`. -/
  | markEdge (r : Ref)
  /-- TIME_MESSAGE, R20: the next bytes of a time message on the serial input of `r`. -/
  | timeMessage (r : Ref) (bytes : List Byte)
  /-- MESSAGE_WAIT_EXPIRY, R21. -/
  | messageWaitExpiry (r : Ref)
  /-- MISSING_MARK_EXPIRY, R22. -/
  | missingMarkExpiry (r : Ref)
  /-- TWIN_BAD_FRAME, R63: the next bytes of a twin frame that fails. -/
  | twinBadFrame (bytes : List Byte)
  /-- OFFER_RECEIVED, R66. -/
  | offerReceived (bytes : List Byte)
  /-- ACCEPT_RECEIVED, R66. -/
  | acceptReceived (bytes : List Byte)
  /-- REFUSE_RECEIVED, R67. -/
  | refuseReceived (bytes : List Byte)
  /-- BYE_RECEIVED, R67. -/
  | byeReceived (bytes : List Byte)
  /-- PROBE_RECEIVED, R73. -/
  | probeReceived (bytes : List Byte)
  /-- ECHO_RECEIVED, R70. -/
  | echoReceived (bytes : List Byte)
  /-- STATUS_RECEIVED, R75. -/
  | statusReceived (bytes : List Byte)
  /-- TWIN_FRAME_SEND, R64. -/
  | twinFrameSend
  /-- OFFER_TIMER_EXPIRY, R68. -/
  | offerTimerExpiry
  /-- RETRY_TIMER_EXPIRY, R68. -/
  | retryTimerExpiry
  /-- PROBE_SPACING_EXPIRY, R72. -/
  | probeSpacingExpiry
  /-- PROBE_TIMEOUT, R70. -/
  | probeTimeout
  /-- CHECK_TIMER_EXPIRY, R74. -/
  | checkTimerExpiry
  /-- STATUS_AGE_LIMIT, R76. -/
  | statusAgeLimit
  /-- STAMP_REQUEST_FRAME, R83: the next bytes of a frame at port `p`. -/
  | stampRequestFrame (p : PortIx) (bytes : List Byte)
  /-- STAMP_LENGTH_FAULT, R82: the bytes up to a third byte that is no allowed length. -/
  | stampLengthFault (p : PortIx) (bytes : List Byte)
  /-- STAMP_GRANT, R103. -/
  | stampGrant
  /-- INTERNAL_GRANT, R109. -/
  | internalGrant
  /-- UNSEQUENCED_HANDOFF, R111. -/
  | unsequencedHandoff
  /-- PORT_TRANSMIT_START, R90. -/
  | portTransmitStart (p : PortIx)
  /-- PORT_REPLY_SENT, R90. -/
  | portReplySent (p : PortIx)
  /-- CONTROL_FRAME, R162: the next bytes of a control frame. -/
  | controlFrame (bytes : List Byte)
  /-- CONTROL_BAD_LENGTH, R162: the bytes up to a second length byte that gives more than 1,024. -/
  | controlBadLength (bytes : List Byte)
  /-- ANSWER_BUSY_REPLY, R164. -/
  | answerBusyReply
  /-- UNKNOWN_REQUEST, R165. -/
  | unknownRequest
  /-- CONTROL_TRANSMIT_START, R167. -/
  | controlTransmitStart
  /-- CONTROL_FRAME_SENT, R167. -/
  | controlFrameSent
  /-- IDENTIFY, R172. -/
  | identify
  /-- STATUS_CLOCK, R60. -/
  | statusClock
  /-- STATUS_REF, R36. -/
  | statusRef
  /-- STATUS_TWIN, R79. -/
  | statusTwin
  /-- STATUS_PORT, R97. -/
  | statusPort
  /-- STATUS_GROUP, R136. -/
  | statusGroup
  /-- STATUS_JOURNAL, R159. -/
  | statusJournal
  /-- CLOCK_SET, R49. -/
  | clockSet
  /-- REF_CONFIG, R170. -/
  | refConfig
  /-- SERVO_CONFIG, R169. -/
  | servoConfig
  /-- TRACE_CONFIG, R169. -/
  | traceConfig
  /-- TWIN_CONFIG, R78. -/
  | twinConfig
  /-- TWIN_START, R65. -/
  | twinStart
  /-- TWIN_STOP, R65. -/
  | twinStop
  /-- PORT_OPEN, R92. -/
  | portOpen
  /-- PORT_CLOSE, R93. -/
  | portClose
  /-- GROUP_SCHEDULE, R124. -/
  | groupSchedule
  /-- GROUP_EXTEND, R127. -/
  | groupExtend
  /-- GROUP_SUSPEND, R128. -/
  | groupSuspend
  /-- GROUP_RESUME, R131. -/
  | groupResume
  /-- GROUP_ABANDON, R132. -/
  | groupAbandon
  /-- GROUP_CLEAR, R133. -/
  | groupClear
  /-- JOURNAL_READ, R150. -/
  | journalRead
  /-- JOURNAL_RELEASE, R154. -/
  | journalRelease
  /-- JOURNAL_MARK, R156. -/
  | journalMark
  /-- SELECT_CONFIG, R148. -/
  | selectConfig
  /-- NOTICE_CONFIG, R175. -/
  | noticeConfig
  /-- SETTINGS_SAVE, R183. -/
  | settingsSave
  /-- SETTINGS_SAVE_COMPLETE, R183: `readBack` is what the storage holds when SS reads it back. -/
  | settingsSaveComplete (readBack : List Byte)
  /-- RESTART, R185. -/
  | restart
  /-- REF_BYTE_DISCARDED, R17. -/
  | refByteDiscarded (r : Ref) (byte : Byte)
  /-- TWIN_BYTE_DISCARDED, R63. -/
  | twinByteDiscarded (byte : Byte)
  /-- PORT_BYTE_DISCARDED, R82. -/
  | portByteDiscarded (p : PortIx) (byte : Byte)
  /-- CONTROL_BYTE_DISCARDED, R162. -/
  | controlByteDiscarded (byte : Byte)
  deriving DecidableEq, Repr

end Sys2Proof
end

