-- ==== Sys2Proof/WellFormed.lean ====
section
/-! DEFINITION. Which commands are well formed: what their operands must be for any state of the part to present them.
A command that is not well formed is an event that cannot occur, and leaves the state as it is
(notes/assumptions/1.md). -/

namespace Sys2Proof

/-- A chunk of a frame holds at least one byte and no more than the longest frame of its link. -/
def chunkOk (longest : Nat) (bytes : List Byte) : Bool :=
  decide (1 ≤ bytes.length) && decide (bytes.length ≤ longest)

/-- Well-formedness of the operands: chunk lengths (R17, R63, R82, R162), a discarded byte is no start byte of its link
(Tables 11-3, 11-5, 11-6, 11-8), and the stored profile is 73 bytes (11.6). -/
def Instr.wellFormed : Instr → Bool
  | .timeMessage _ bytes => chunkOk 14 bytes
  | .twinBadFrame bytes => chunkOk 21 bytes
  | .offerReceived bytes => chunkOk 11 bytes
  | .acceptReceived bytes => chunkOk 11 bytes
  | .refuseReceived bytes => chunkOk 9 bytes
  | .byeReceived bytes => chunkOk 3 bytes
  | .probeReceived bytes => chunkOk 5 bytes
  | .echoReceived bytes => chunkOk 21 bytes
  | .statusReceived bytes => chunkOk 13 bytes
  | .stampRequestFrame _ bytes => chunkOk 64 bytes
  | .stampLengthFault _ bytes => chunkOk 3 bytes
  | .controlFrame bytes => chunkOk 1031 bytes
  | .controlBadLength bytes => chunkOk 3 bytes
  | .settingsSaveComplete readBack => decide (readBack.length = 73)
  | .refByteDiscarded _ byte => decide (byte ≠ 0xD3#8)
  | .twinByteDiscarded byte => decide (byte ≠ 0x3C#8)
  | .portByteDiscarded _ byte => decide (byte ≠ 0xA7#8)
  | .controlByteDiscarded byte => decide (byte ≠ 0xC5#8)
  | .reset _ | .startUp | .oscillatorTick | .secondBoundary
  | .callStartExpiry | .windowStartExpiry | .closeExpiry
  | .markEdge _ | .messageWaitExpiry _ | .missingMarkExpiry _
  | .twinFrameSend | .offerTimerExpiry | .retryTimerExpiry | .probeSpacingExpiry | .probeTimeout
  | .checkTimerExpiry | .statusAgeLimit
  | .stampGrant | .internalGrant | .unsequencedHandoff | .portTransmitStart _ | .portReplySent _
  | .answerBusyReply | .unknownRequest | .controlTransmitStart | .controlFrameSent
  | .identify | .statusClock | .statusRef | .statusTwin | .statusPort | .statusGroup | .statusJournal
  | .clockSet | .refConfig | .servoConfig | .traceConfig | .twinConfig | .twinStart | .twinStop
  | .portOpen | .portClose
  | .groupSchedule | .groupExtend | .groupSuspend | .groupResume | .groupAbandon | .groupClear
  | .journalRead | .journalRelease | .journalMark | .selectConfig | .noticeConfig
  | .settingsSave | .restart => true

end Sys2Proof
end

