-- ==== Sys2Proof/Decode.lean ====
section
/-! DEFINITION. The command a word spells by the opcode table's bits. spec/opcode_table.json gives no row any bits
(spec/98_reader.md: every row has no pattern), so no word spells a command. -/

namespace Sys2Proof

/-- The command spelled by the `nbits` low bits of `w`: none, since no row of the table has bits. -/
def decodeTableWord (_nbits _w : Nat) : Option Instr := none

end Sys2Proof
end

