-- ==== Sys2Proof/Machine/State.lean ====
section
/-! DEFINITION. The state of the UZG-7416 as plain data, block by block (Table 3-1 of the introduction), the closed types of
faults and refusals, and the state after reset. Every default is the item's value after a power-on, pin or supply reset
with the default profile. Times, counts and durations that the manual only adds, compares and clamps are Nat or Int;
what it treats as bits (bytes, tags, order keys, chain words) is a bit vector. -/

namespace Sys2Proof.Machine

/-! ## Enumerations (Table 11-2 and the lists it refers to) -/

/-- DU mode, 3.1. -/
inductive Mode where
  | unset | locked | slewing | holdover
  deriving DecidableEq, Repr

/-- Traceability state, 3.7. -/
inductive TraceState where
  | unset | traceable | degraded | untraceable
  deriving DecidableEq, Repr

/-- Qualification state of a reference, Table 2-4. -/
inductive QualState where
  | disabled | candidate | qualified | watch | excluded
  deriving DecidableEq, Repr

/-- Reason of a bad mark, Table 2-3 and R21, R22. -/
inductive Reason where
  | check | format | code | quality | label | uncertain | frequency | jump | offset | noLabel | missing
  deriving DecidableEq, Repr

/-- Verdict on the tick count of an edge, R18. -/
inductive Verdict where
  | notChecked | frequency | jump | inWindow
  deriving DecidableEq, Repr

/-- Cause of a change of qualification state, R34. -/
inductive RefCause where
  | bad (reason : Reason)
  | goodRun | recovery | good | enable | disable
  deriving DecidableEq, Repr

/-- Cause of a selection change, R40. -/
inductive SwitchCause where
  | report (ref : Ref) (cause : RefCause)
  | preference
  deriving DecidableEq, Repr

/-- Source of the anchor, 3.1. -/
inductive AnchorSource where
  | ref | host
  deriving DecidableEq, Repr

/-- Cause of the end of a slew, R41, R48. -/
inductive SlewEndCause where
  | reached | step | loss
  deriving DecidableEq, Repr

/-- Cause of a UTC offset change, Table 3-6. -/
inductive OffsetCause where
  | switch | host | leap | reference
  deriving DecidableEq, Repr

/-- Cause of the clearing of the contested attribute, R55. -/
inductive ContestCause where
  | agreed | stop
  deriving DecidableEq, Repr

/-- Twin state, Table 4-2. -/
inductive TwinState where
  | off | detached | offering | measuring | agreed | disagree
  deriving DecidableEq, Repr

/-- Fault of an entry to DETACHED, Table 4-3. -/
inductive TwinFault where
  | venue | loop | timeout | refused | bye | measure | check
  deriving DecidableEq, Repr

/-- Cause of a TWIN notice, R77. -/
inductive TwinCause where
  | start | stop | offer | accept | evaluation | checkFailed
  | fault (f : TwinFault)
  deriving DecidableEq, Repr

/-- Reason of an INVALID probe, 4.4. -/
inductive ProbeReason where
  | timeout | number | step | order
  deriving DecidableEq, Repr

/-- Port state, Table 5-2. -/
inductive PortState where
  | closed | opened | draining | faulted
  deriving DecidableEq, Repr

/-- Refusal status of a stamp request, R91. -/
inductive DoorStatus where
  | queueFull | portClosed | portFaulted
  deriving DecidableEq, Repr

/-- Fault kind of a stamp frame, R83. -/
inductive FaultKind where
  | check | kind | length | field
  deriving DecidableEq, Repr

/-- Cause of a PORT notice of a state change, R96. -/
inductive PortCause where
  | openRequest | closeRequest | drained | fault | exhausted
  deriving DecidableEq, Repr

/-- Event class of a stamp request, Table 11-2. -/
inductive EventClass where
  | new | modify | cancel | trade | quote | heartbeat | test | other
  deriving DecidableEq, Repr

/-- Stored phase of a group, Table 7-1. -/
inductive Phase where
  | dormant | scheduled | call | random | suspended | closed | abandoned
  deriving DecidableEq, Repr

/-- Effective phase of a group and phase tag of a stamp, R104. -/
inductive EffPhase where
  | continuous | call | random | suspended | closed | abandoned
  deriving DecidableEq, Repr

/-- Step of an AUCTION record, Table 7-6. -/
inductive AuctionStep where
  | armed | callStart | windowStart | extend | suspend | resume | close | abandon
  deriving DecidableEq, Repr

/-- Cause carried by an AUCTION record; HOST and CLOCK are also the suspension causes (Table 11-2). -/
inductive AuctionCause where
  | host | clock | clear | restart
  deriving DecidableEq, Repr

/-- Kind of an entry of the extension list, R126. -/
inductive ExtKind where
  | extend | resume
  deriving DecidableEq, Repr

/-- Kind of a journal record, Table 8-1. -/
inductive RecordKind where
  | stamp | clock | auction | evidence | marker | admin | gap
  deriving DecidableEq, Repr

/-- Journal status of a stamp, R106. -/
inductive JournalStatus where
  | recorded | notSelected | lost
  deriving DecidableEq, Repr

/-- Selector mode, R147. -/
inductive SelectorMode where
  | single | dual
  deriving DecidableEq, Repr

/-- State of a level notice, R157. -/
inductive LevelState where
  | armed | fired
  deriving DecidableEq, Repr

/-- Cause of a JOURNAL notice, R158. -/
inductive JournalCause where
  | level50 | level75 | loss | gapDeferred
  deriving DecidableEq, Repr

/-- Notice class, Table 9-6. -/
inductive NoticeClass where
  | clock | ref | twin | group | journal | port | tick | startup
  deriving DecidableEq, Repr

/-- TICK mode, R175. -/
inductive TickMode where
  | off | once | eachSecond
  deriving DecidableEq, Repr

/-- Status of an entry of the control request queue, 9.1. -/
inductive EntryStatus where
  | waiting | inService | answerBusy
  deriving DecidableEq, Repr

/-- Reply status codes, Table 9-4. -/
inductive Status where
  | ok | okClamped | unknownKind | badLength | outOfRange | wrongState | tooLate | listFull | notSet | notTraceable
  | released | exhausted | busy
  deriving DecidableEq, Repr

/-- Settings status, Table 10-1. -/
inductive SettingsStatus where
  | loaded | defaulted
  deriving DecidableEq, Repr

/-- Outcome of a save, R183. -/
inductive SaveOutcome where
  | saved | failed
  deriving DecidableEq, Repr

/-- Whether the part runs or a reset is held (R179). -/
inductive Power where
  | running
  | held (cause : ResetCause)
  deriving DecidableEq, Repr

/-! ## Time Base (chapter 1) -/

/-- SERVO record, Table 1-2. -/
structure Servo where
  gp : Nat := 250
  gi : Nat := 16
  threshold : Nat := 200000
  deriving DecidableEq, Repr

/-- TRACE record, Table 1-2. -/
structure Trace where
  growth : Nat := 50
  advisory : Nat := 20000
  limit : Nat := 100000
  interval : Nat := 60
  deriving DecidableEq, Repr

/-- One slot of the settings table: the active record and the pending one (R5). -/
structure Slot (α : Type) where
  active : α
  pending : Option α := none
  deriving DecidableEq, Repr

/-- A second boundary raised and not yet acted on: its second number and dating time (R4). -/
structure Boundary where
  second : Nat
  dating : Nat
  deriving DecidableEq, Repr

/-- Time Base, Table 1-1. -/
structure TimeBase where
  raw : Nat := 0
  frac : Nat := 0
  rate : Int := 0
  inc : Nat := 34359738368
  hwm : Nat := 0
  utcOffset : Int := 0
  servo : Slot Servo := ⟨{}, none⟩
  trace : Slot Trace := ⟨{}, none⟩
  delayA : Slot Int := ⟨0, none⟩
  delayB : Slot Int := ⟨0, none⟩
  boundaries : List Boundary := []
  deriving DecidableEq, Repr

/-! ## Reference monitors (chapter 2) -/

/-- Pending mark, Table 2-2. -/
structure PendingMark where
  raw : Nat
  ticks : Option Nat
  verdict : Verdict
  deriving DecidableEq, Repr

/-- Leap memory of a monitor: sign 1 is a deletion; countdown 1 to 60. -/
structure LeapMemory where
  sign : Bool
  countdown : Nat
  deriving DecidableEq, Repr

/-- Bad-mark counters, one per reason (Table 2-5). -/
structure BadCounts where
  check : Nat := 0
  format : Nat := 0
  code : Nat := 0
  quality : Nat := 0
  label : Nat := 0
  uncertain : Nat := 0
  frequency : Nat := 0
  jump : Nat := 0
  offset : Nat := 0
  noLabel : Nat := 0
  missing : Nat := 0
  deriving DecidableEq, Repr

/-- Reference monitor counters, Table 2-5. -/
structure RefCounters where
  edges : Nat := 0
  messages : Nat := 0
  discarded : Nat := 0
  orphans : Nat := 0
  completed : Nat := 0
  good : Nat := 0
  bad : BadCounts := {}
  corrected : Nat := 0
  stateChanges : Nat := 0
  deriving DecidableEq, Repr

/-- Reference monitor, Table 2-2. The two timers are deadlines on the oscillator tick index, absent when stopped;
`rx` holds the bytes of the message being assembled (R17). -/
structure Monitor where
  state : QualState := .candidate
  score : Nat := 0
  goodRun : Nat := 0
  recoveryRun : Nat := 0
  pendingMark : Option PendingMark := none
  baseline : Option Nat := none
  lastTicks : Option Nat := none
  lastLabel : Option Nat := none
  adopted : Option Int := none
  leap : Option LeapMemory := none
  ceiling : Nat := 1000
  messageWait : Option Nat := none
  missingTimer : Option Nat := some 137500000
  rx : List Byte := []
  counters : RefCounters := {}
  deriving DecidableEq, Repr

/-! ## Discipline Unit (chapter 3) -/

/-- Anchor of the divergence bound, 3.1. -/
structure Anchor where
  bound : Nat
  instant : Nat
  source : AnchorSource
  qualified : Bool
  deriving DecidableEq, Repr

/-- Assisted anchor, 3.1 and R76. -/
structure Assisted where
  bound : Nat
  instant : Nat
  deriving DecidableEq, Repr

/-- Leap memory of DU: the announced sign and the reference that announced it. -/
structure DuLeap where
  sign : Bool
  ref : Ref
  deriving DecidableEq, Repr

/-- Statistics of the evidence interval, Table 3-5. -/
structure Statistics where
  completed : Nat := 0
  bad : Nat := 0
  corrected : Nat := 0
  used : Nat := 0
  minE : Option Int := none
  maxE : Option Int := none
  sumE : Int := 0
  minTicks : Option Nat := none
  maxTicks : Option Nat := none
  deriving DecidableEq, Repr

/-- Events of CLOCK records with their values, Table 3-6. -/
inductive ClockEvent where
  | set (before after requested bound : Nat) (mode : Mode)
  | acquired (old : Mode) (ref : Ref) (e : Int) (u : Nat) (state : QualState)
  | step (before after : Nat) (e : Int)
  | slewStart (e : Int) (before : Mode) (i : Int)
  | slewEnd (cause : SlewEndCause) (e : Int)
  | refSwitch (old new : Option Ref) (oldState newState : Option QualState) (cause : SwitchCause)
  | holdoverStart (old : Mode) (i r : Int)
  | traceState (old new : TraceState) (bound : Option Nat) (dating : Nat)
  | offsetChange (old new : Int) (cause : OffsetCause)
  | leapAnnounced (sign : Bool) (ref : Ref) (label : Nat)
  | contestedSet (theta : Int) (limit : Nat)
  | contestedClear (cause : ContestCause) (theta : Option Int)
  deriving DecidableEq, Repr

/-- A CLOCK record as DU forms it: the event, and the mode and B as they stand then (R58). -/
structure ClockRecord where
  event : ClockEvent
  mode : Mode
  bound : Option Nat
  deriving DecidableEq, Repr

/-- Discipline Unit, Table 3-1. -/
structure Discipline where
  mode : Mode := .unset
  selection : Option Ref := none
  preferred : Ref := .a
  integral : Int := 0
  rate : Int := 0
  anchor : Option Anchor := none
  assisted : Option Assisted := none
  bound : Option Nat := none
  trace : TraceState := .unset
  contested : Bool := false
  leap : Option DuLeap := none
  staleA : Bool := false
  staleB : Bool := false
  lastSlew : Option Int := none
  boundaryCount : Nat := 0
  stats : Statistics := {}
  records : List ClockRecord := []
  deriving DecidableEq, Repr

/-! ## Twin Link Unit (chapter 4) -/

/-- Outcome of a probe, 4.4. -/
inductive ProbeOutcome where
  | outstanding
  | valid (t2 t3 t4 : Nat) (theta delay : Int)
  | invalid (reason : ProbeReason)
  deriving DecidableEq, Repr

/-- Entry of the probe table, 4.4. -/
structure Probe where
  number : Nat
  t1 : Option Nat := none
  outcome : ProbeOutcome := .outstanding
  deriving DecidableEq, Repr

/-- Identity of the twin, recorded at attachment (R66). -/
structure TwinIdentity where
  venue : Nat
  serial : Nat
  epoch : Nat
  deriving DecidableEq, Repr

/-- Contents of a STATUS frame, Table 4-1. -/
structure TwinStatus where
  trace : TraceState
  bound : Option Nat
  mode : Mode
  selected : Option Ref
  epoch : Nat
  deriving DecidableEq, Repr

/-- A frame of the twin transmit list. The t3 of an ECHO is placed when its start byte leaves (R64). -/
inductive TwinFrame where
  | offer (id : TwinIdentity)
  | accept (id : TwinIdentity)
  | refuse (venue serial : Nat)
  | probe (number : Nat)
  | echo (number t2 : Nat)
  | status (st : TwinStatus)
  | bye
  deriving DecidableEq, Repr

/-- Last measured offset and delay, R72. -/
structure Measured where
  theta : Int
  delay : Int
  deriving DecidableEq, Repr

/-- A frame being received on the twin link: its bytes so far and the raw time at its start byte (R63). -/
structure TwinReceiver where
  bytes : List Byte
  startRaw : Nat
  deriving DecidableEq, Repr

/-- Twin Link Unit counters, Table 4-4. -/
structure TwinCounters where
  received : Nat := 0
  badFrames : Nat := 0
  discarded : Nat := 0
  ignored : Nat := 0
  transmitDrops : Nat := 0
  offersSent : Nat := 0
  offerTimeouts : Nat := 0
  attachments : Nat := 0
  detachments : Nat := 0
  probesSent : Nat := 0
  probesValid : Nat := 0
  invalidTimeout : Nat := 0
  invalidNumber : Nat := 0
  invalidStep : Nat := 0
  invalidOrder : Nat := 0
  lateEchoes : Nat := 0
  echoesSent : Nat := 0
  echoesWithheld : Nat := 0
  checksFailed : Nat := 0
  statusReceived : Nat := 0
  statusMismatches : Nat := 0
  deriving DecidableEq, Repr

/-- Twin Link Unit (chapter 4). The five timers are deadlines on the oscillator tick index; the status age is counted
from `statusTick`; `lastSent` is the model's own view of the frame that left last (notes/assumptions/36.md). -/
structure TwinLink where
  state : TwinState := .off
  fault : Option TwinFault := none
  identity : Option TwinIdentity := none
  probes : List Probe := []
  nextProbe : Nat := 1
  failures : Nat := 0
  measured : Option Measured := none
  agreed : Option Int := none
  status : Option TwinStatus := none
  statusTick : Nat := 0
  heldOut : Option Assisted := none
  limit : Nat := 50000
  allowance : Nat := 2000
  period : Nat := 16
  venue : Nat := 0
  startAtReset : Bool := false
  offerTimer : Option Nat := none
  retryTimer : Option Nat := none
  spacingTimer : Option Nat := none
  probeTimer : Option Nat := none
  checkTimer : Option Nat := none
  transmit : List TwinFrame := []
  rx : Option TwinReceiver := none
  lastSent : List Byte := []
  counters : TwinCounters := {}
  deriving DecidableEq, Repr

/-! ## Stamp ports and Sequence Allocator (chapters 5 and 6) -/

/-- Status of an entry of a port's request queue, 5.1. -/
inductive RequestStatus where
  | waiting
  | refusing (status : DoorStatus)
  deriving DecidableEq, Repr

/-- Entry of a port's request queue, 5.1. -/
structure StampRequest where
  tag : BitVec 32
  cls : EventClass
  group : GroupIx
  key : BitVec 64
  arrival : Nat
  status : RequestStatus := .waiting
  deriving DecidableEq, Repr

/-- Quality of a stamp, R105. -/
structure Quality where
  trace : TraceState
  contested : Bool
  floored : Bool
  deriving DecidableEq, Repr

/-- A stamp reply, R91: STAMPED with the fields of Table 6-3, or a refusal. -/
inductive StampReply where
  | stamped (tag : BitVec 32) (epoch seq dating wait : Nat) (late : Bool) (phase : EffPhase) (quality : Quality)
      (utcOffset : Int) (journal : JournalStatus)
  | refused (tag : BitVec 32) (epoch : Nat) (status : DoorStatus)
  deriving DecidableEq, Repr

/-- First-fault capture, R86. -/
structure Capture where
  kind : FaultKind
  offset : Nat
  dating : Nat
  state : PortState
  later : Nat := 0
  deriving DecidableEq, Repr

/-- Stamp port counters, Table 5-4. -/
structure PortCounters where
  discarded : Nat := 0
  good : Nat := 0
  badCheck : Nat := 0
  badKind : Nat := 0
  badLength : Nat := 0
  badField : Nat := 0
  queued : Nat := 0
  granted : Nat := 0
  queueFull : Nat := 0
  portClosed : Nat := 0
  portFaulted : Nat := 0
  dropped : Nat := 0
  sent : Nat := 0
  deriving DecidableEq, Repr

/-- Stamp port, Table 5-1. `rx` holds the bytes of the frame being assembled, `tx` the reply being sent. -/
structure Port where
  state : PortState := .closed
  requests : List StampRequest := []
  replies : List StampReply := []
  score : Nat := 0
  grantsSinceOpen : Nat := 0
  capture : Option Capture := none
  rx : List Byte := []
  tx : Option StampReply := none
  counters : PortCounters := {}
  deriving DecidableEq, Repr

/-- Sequence Allocator, Table 6-1. -/
structure Allocator where
  seq : Nat := 0
  rotation : PortIx := 0
  exhausted : Bool := false
  granted : Nat := 0
  recorded : Nat := 0
  notSelected : Nat := 0
  lost : Nat := 0
  duGrants : Nat := 0
  gsGrants : Nat := 0
  cluGrants : Nat := 0
  floored : Nat := 0
  deriving DecidableEq, Repr

/-! ## Group Scheduler (chapter 7) -/

/-- Entry of the extension list, R126. -/
structure Extension where
  kind : ExtKind
  time : Nat
  tMin : Nat
  draw : Nat
  deriving DecidableEq, Repr

/-- Group record, Table 7-1 (its index is its place in the table). -/
structure Group where
  phase : Phase := .dormant
  number : Nat := 0
  revealed : Nat := 0
  tc : Option Nat := none
  tMin : Option Nat := none
  window : Option Nat := none
  draw : Option Nat := none
  tEnd : Option Nat := none
  extensions : List Extension := []
  accepted : Nat := 0
  lastSeq : Option Nat := none
  cause : Option AuctionCause := none
  closeQuality : Option TraceState := none
  deriving DecidableEq, Repr

/-- An AUCTION record as GS forms it (R134); a value its step does not list is absent. -/
structure AuctionRecord where
  group : GroupIx
  number : Nat
  step : AuctionStep
  instant : Nat
  now : Nat
  tc : Nat
  tMin : Nat
  window : Nat
  draw : Option Nat
  tEnd : Option Nat
  listLength : Nat
  phaseBefore : Option Phase := none
  accepted : Option Nat := none
  lastSeq : Option Nat := none
  closeQuality : Option TraceState := none
  cause : Option AuctionCause := none
  trace : Option TraceState := none
  deriving DecidableEq, Repr

/-- Group Scheduler: the table of sixteen records and the list of AUCTION records awaiting a sequence (7.1).
`demands` is the model's own count of the values taken from RS (notes/assumptions/6.md). -/
structure Scheduler where
  groups : Vector Group 16 := Vector.replicate 16 {}
  records : List AuctionRecord := []
  demands : Nat := 0
  deriving DecidableEq, Repr

/-! ## Audit Journal (chapter 8) -/

/-- Contents of a STAMP record that are not its sequence and dating time (R106). -/
structure StampRecord where
  port : PortIx
  cls : EventClass
  group : GroupIx
  key : BitVec 64
  tag : BitVec 32
  late : Bool
  phase : EffPhase
  quality : Quality
  wait : Nat
  deriving DecidableEq, Repr

/-- Contents of an EVIDENCE record, R57. -/
structure EvidenceRecord where
  stats : Statistics
  mean : Option Int
  rate : Int
  bound : Option Nat
  trace : TraceState
  mode : Mode
  contested : Bool
  selection : Option Ref
  interval : Nat
  theta : Option Int
  deriving DecidableEq, Repr

/-- A stamp selector, R146. -/
structure Selector where
  on : Bool
  code : Nat := 0
  mask : Nat := 0
  deriving DecidableEq, Repr

/-- The selectors in force, R147. -/
structure Selectors where
  mode : SelectorMode := .single
  first : Selector := { on := true }
  second : Selector := { on := false }
  deriving DecidableEq, Repr

/-- Events of ADMIN records with their values, Table 8-4. -/
inductive AdminEvent where
  | startup (cause : ResetCause) (epoch : Nat) (exhausted : Bool) (status : SettingsStatus)
  | portOpen (port : PortIx) (before : PortState)
  | portClosed (port : PortIx) (before : PortState) (grants : Nat)
  | portFaulted (port : PortIx) (before : PortState) (score : Nat) (fault : FaultKind) (refusing : Nat)
  | configChange (request : Byte) (clamped staged : Bool) (payload : List Byte)
  | selectorChange (old new : Selectors)
  | settingsSaved (outcome : SaveOutcome)
  | restart
  deriving DecidableEq, Repr

/-- First and last lost sequence, R145. -/
structure LostSpan where
  first : Nat
  last : Nat
  deriving DecidableEq, Repr

/-- Loss tally, Table 8-3. -/
structure Tally where
  stamps : Nat := 0
  others : Nat := 0
  span : Option LostSpan := none
  deriving DecidableEq, Repr

/-- A record's kind with its contents after the header (Table 8-2). -/
inductive Body where
  | stamp (seq dating : Nat) (r : StampRecord)
  | clock (seq : Option Nat) (dating : Nat) (r : ClockRecord)
  | auction (seq : Option Nat) (dating : Nat) (r : AuctionRecord)
  | evidence (dating : Nat) (r : EvidenceRecord)
  | marker (seq : Option Nat) (dating : Nat) (text : List Byte)
  | admin (dating : Nat) (event : AdminEvent)
  | gap (tally : Tally)
  deriving DecidableEq, Repr

/-- A record of the pool: journal number, chain word and contents (R144). -/
structure Record where
  number : Nat
  chain : BitVec 32
  body : Body
  deriving DecidableEq, Repr

/-- Stored counters, one per kind (Table 8-5). -/
structure StoredCounts where
  stamp : Nat := 0
  clock : Nat := 0
  auction : Nat := 0
  evidence : Nat := 0
  marker : Nat := 0
  admin : Nat := 0
  gap : Nat := 0
  deriving DecidableEq, Repr

/-- Lost counters, one per kind except GAP (Table 8-5). -/
structure LostCounts where
  stamp : Nat := 0
  clock : Nat := 0
  auction : Nat := 0
  evidence : Nat := 0
  marker : Nat := 0
  admin : Nat := 0
  deriving DecidableEq, Repr

/-- Audit Journal, Table 8-3. `next` is absent when the next journal number is exhausted (R142). -/
structure Journal where
  pool : List Record := []
  used : Nat := 0
  next : Option Nat := some 1
  chain : BitVec 32 := 0
  tally : Tally := {}
  selectors : Selectors := {}
  level50 : LevelState := .armed
  level75 : LevelState := .armed
  stored : StoredCounts := {}
  lost : LostCounts := {}
  notSelected : Nat := 0
  gapWritten : Nat := 0
  gapDeferred : Nat := 0
  readsServed : Nat := 0
  released : Nat := 0
  deriving DecidableEq, Repr

/-! ## Control Link Unit (chapter 9) -/

/-- Entry of the control request queue, 9.1. -/
structure ControlRequest where
  kind : Byte
  tag : BitVec 16
  payload : List Byte
  status : EntryStatus := .waiting
  deriving DecidableEq, Repr

/-- A formed reply or notice: what a control frame carries (11.2). -/
structure ControlFrame where
  kind : Byte
  tag : BitVec 16
  payload : List Byte
  deriving DecidableEq, Repr

/-- What the control transmitter is sending, R167. -/
inductive ControlTx where
  | idle
  | reply (f : ControlFrame)
  | notice (f : ControlFrame)
  deriving DecidableEq, Repr

/-- Notice enables, 9.1. -/
structure Enables where
  clock : Bool := true
  ref : Bool := true
  twin : Bool := true
  group : Bool := true
  journal : Bool := true
  port : Bool := true
  startup : Bool := true
  deriving DecidableEq, Repr

/-- Control Link Unit counters, Table 9-5. -/
structure ControlCounters where
  discarded : Nat := 0
  badLength : Nat := 0
  badCheck : Nat := 0
  received : Nat := 0
  refusedBusy : Nat := 0
  busyDropped : Nat := 0
  unknownKind : Nat := 0
  badRequestLength : Nat := 0
  served : Nat := 0
  repliesSent : Nat := 0
  noticesSent : Nat := 0
  deriving DecidableEq, Repr

/-- A MARKER record awaiting its grant: its text, and whether any byte was replaced (R156). -/
structure Marker where
  text : List Byte
  degraded : Bool
  deriving DecidableEq, Repr

/-- Control Link Unit, Table 9-1. -/
structure Control where
  rx : List Byte := []
  queue : List ControlRequest := []
  replies : List ControlFrame := []
  notices : List ControlFrame := []
  tx : ControlTx := .idle
  enables : Enables := {}
  tick : TickMode := .off
  noticesLost : Nat := 0
  counters : ControlCounters := {}
  markers : List Marker := []
  deriving DecidableEq, Repr

/-! ## Settings Store (chapter 10) -/

/-- A save in progress: the copy being written (fields and check word) and which slots had a pending record (R183). -/
structure Save where
  copy : List Byte
  pendingServo : Bool
  pendingTrace : Bool
  pendingA : Bool
  pendingB : Bool
  deriving DecidableEq, Repr

/-- Settings Store, Table 10-1. The stored profile is the 73 bytes of 11.6. `torn` is the model's own count of saves cut
short by a reset (notes/assumptions/7.md). -/
structure Store where
  epochCounter : Nat := 0
  profile : List Byte := List.replicate 73 0
  status : SettingsStatus := .defaulted
  save : Option Save := none
  torn : Nat := 0
  deriving DecidableEq, Repr

/-! ## The part -/

/-- The state of the part. `tick` is the index of the oscillator tick since start-up; `serial` is fixed in the part;
`pending` is the queue of commands that wait, first in, first out. -/
structure State where
  power : Power := .running
  cause : ResetCause := .powerOn
  epoch : Nat := 1
  serial : BitVec 32 := 0
  tick : Nat := 0
  tb : TimeBase := {}
  monA : Monitor := {}
  monB : Monitor := {}
  du : Discipline := {}
  tlu : TwinLink := {}
  ports : Vector Port 8 := Vector.replicate 8 {}
  sa : Allocator := {}
  gs : Scheduler := {}
  aj : Journal := {}
  clu : Control := {}
  ss : Store := {}
  pending : List Instr := []
  deriving DecidableEq, Repr

/-- No command stops the part: the spec describes no fault that does. Closed, without a constructor. -/
inductive Fault where
  deriving DecidableEq, Repr

/-- Why a command has no meaning. -/
inductive Refusal where
  /-- Raised by an arm of exec alone, for a command that has no meaning yet; safe. No arm raises it. -/
  | notModelled (mnemonic : String)
  deriving DecidableEq, Repr

/-- The part right after its first power-on reset: START_UP has run on a part that had never started (epoch counter 0,
stored profile of zeros, so DEFAULTED). The STARTUP record is journal number 1, chained over epoch 1 (R182), and the
STARTUP notice is the first frame of the notice list. notes/assumptions/3.md, 4.md and 5.md name the values the spec
does not give. -/
def State.reset : State where
  power := .running
  cause := .powerOn
  epoch := 1
  aj :=
    { pool := [⟨1, 0x21947D71#32, .admin 0 (.startup .powerOn 1 false .defaulted)⟩]
      used := 40
      next := some 2
      chain := 0x21947D71#32
      stored := { admin := 1 } }
  clu :=
    { notices := [⟨0x67#8, 0#16, [0, 0, 0, 0, 0, 1, 0, 0, 1, 0, 0, 0, 0]⟩] }
  ss := { epochCounter := 1 }

end Sys2Proof.Machine
end

