-- ==== Sys2Proof/Machine/Ops.lean ====
section
/-! DEFINITION. The shared arithmetic and the named operations over the parts of State: clamping and saturation (5.4),
byte order and check bytes (5.5, R187), the chain CRC (R149), and the accessors of the monitors, ports and groups. -/

namespace Sys2Proof.Machine

/-- What a command answers. -/
abbrev Out := Host.Outcome State Fault Refusal

/-! ## Arithmetic (5.3, 5.4) -/

/-- Ticks of one second of the oscillator (5.2). -/
def ticksPerSecond : Nat := 125000000

/-- Largest value of a 32-bit unsigned quantity. -/
def max32 : Nat := 4294967295

/-- Largest value of a 64-bit unsigned quantity. -/
def max64 : Nat := 18446744073709551615

/-- Nanoseconds of one second. -/
def nsPerSecond : Nat := 1000000000

/-- Saturating 32-bit quantity (5.4). -/
def sat32 (n : Nat) : Nat := min n max32

/-- A 32-bit saturating counter raised by 1 (5.4). -/
def bump (n : Nat) : Nat := sat32 (n + 1)

/-- A quantity clamped to `lo` to `hi` (5.4). -/
def clampNat (lo hi n : Nat) : Nat := max lo (min hi n)

/-- A signed quantity clamped to `lo` to `hi` (5.4). -/
def clampInt (lo hi i : Int) : Int := max lo (min hi i)

/-- The rate clamp of R2 and R45, in ppt. -/
def clampRate (r : Int) : Int := clampInt (-200000000) 200000000 r

/-- Division rounded to nearest, halves away from zero (5.4). -/
def divRound (n : Int) (d : Nat) : Int :=
  let q : Nat := (2 * n.natAbs + d) / (2 * d)
  if n < 0 then -(q : Int) else q

/-- A sum of instants as a 64-bit field holds it: exact inside the field, a free value outside
(notes/assumptions/10.md). DESIGN CHOICE. -/
def fitInstant (n : Nat) : Nat := if n ≤ max64 then n else (Config.overflowInstant n).toNat

/-- An offset or delay as a signed 64-bit field holds it: exact inside the field, a free value outside
(notes/assumptions/10.md). DESIGN CHOICE. -/
def fitSigned (i : Int) : Int :=
  if -9223372036854775808 ≤ i ∧ i ≤ 9223372036854775807 then i else (Config.overflowSigned i).toInt

/-! ## Bytes (R187) -/

/-- `n` as `w` bytes, least significant first. -/
def leBytes : Nat → Nat → List Byte
  | 0, _ => []
  | w + 1, n => BitVec.ofNat 8 n :: leBytes w (n / 256)

/-- `i` as `w` bytes of two's complement, least significant first. -/
def leSigned (w : Nat) (i : Int) : List Byte := leBytes w (i % (256 ^ w : Nat)).toNat

/-- The unsigned number that `bytes` spell, least significant first. -/
def leNat : List Byte → Nat
  | [] => 0
  | b :: bs => b.toNat + 256 * leNat bs

/-- The two's complement number that `bytes` spell, least significant first. -/
def leInt (bytes : List Byte) : Int :=
  let n := leNat bytes
  if 2 * n < 256 ^ bytes.length then n else (n : Int) - (256 ^ bytes.length : Nat)

/-- The `len` bytes of `bytes` from offset `off`. -/
def slice (bytes : List Byte) (off len : Nat) : List Byte := (bytes.drop off).take len

/-- The unsigned field of `len` bytes at offset `off`. -/
def field (bytes : List Byte) (off len : Nat) : Nat := leNat (slice bytes off len)

/-- The signed field of `len` bytes at offset `off`. -/
def fieldInt (bytes : List Byte) (off len : Nat) : Int := leInt (slice bytes off len)

/-- Sum of bytes modulo 256 (5.5). -/
def byteSum : List Byte → Nat
  | [] => 0
  | b :: bs => (b.toNat + byteSum bs) % 256

/-- The check byte that closes a frame (5.5). -/
def checkByte (bytes : List Byte) : Byte := BitVec.ofNat 8 (256 - byteSum bytes)

/-- A frame closed by its check byte. -/
def closeFrame (bytes : List Byte) : List Byte := bytes ++ [checkByte bytes]

/-- One bit step of the reflected CRC of R149. -/
def crcBit (r : Nat) : Nat :=
  if r % 2 = 1 then Nat.xor (r / 2) 0xEDB88320 else r / 2

/-- One byte of the CRC, least significant bit first. -/
def crcByte (r : Nat) (b : Byte) : Nat :=
  crcBit (crcBit (crcBit (crcBit (crcBit (crcBit (crcBit (crcBit (Nat.xor r b.toNat))))))))

/-- The CRC register after the bytes, before the final exclusive-or. -/
def crcRun : List Byte → Nat → Nat
  | [], r => r
  | b :: bs, r => crcRun bs (crcByte r b)

/-- The CRC-32 of R149. -/
def crc32 (bytes : List Byte) : BitVec 32 := BitVec.ofNat 32 (Nat.xor (crcRun bytes 0xFFFFFFFF) 0xFFFFFFFF)

/-! ## Accessors -/

/-- The monitor of a reference. -/
def State.mon (s : State) : Ref → Monitor
  | .a => s.monA
  | .b => s.monB

/-- The state with the monitor of `r` replaced. -/
def State.setMon (s : State) (r : Ref) (m : Monitor) : State :=
  { s with
    monA := match r with | .a => m | .b => s.monA
    monB := match r with | .a => s.monB | .b => m }

/-- A stamp port. -/
def State.port (s : State) (p : PortIx) : Port := s.ports[p]

/-- The state with port `p` replaced. -/
def State.setPort (s : State) (p : PortIx) (x : Port) : State := { s with ports := s.ports.set p x }

/-- A group record. -/
def State.group (s : State) (g : GroupIx) : Group := s.gs.groups[g]

/-- The state with the record of group `g` replaced. -/
def State.setGroup (s : State) (g : GroupIx) (x : Group) : State :=
  { s with gs := { s.gs with groups := s.gs.groups.set g x } }

/-- Dating time: the larger of raw time and the high-water mark (R10). -/
def TimeBase.dating (tb : TimeBase) : Nat := max tb.raw tb.hwm

/-- A plain read of dating time (R10). -/
def State.dating (s : State) : Nat := s.tb.dating

/-- A port open for the clock is OPEN or DRAINING (5.2). -/
def Port.openForClock (x : Port) : Bool :=
  match x.state with
  | .opened | .draining => true
  | .closed | .faulted => false

/-- Whether any stamp port is OPEN or DRAINING, as R9, R47 and R49 ask. -/
def State.anyPortOpen (s : State) : Bool := (List.finRange 8).any fun p => (s.port p).openForClock

/-- A command taken by a part that runs; while a reset is held the part takes nothing and sends nothing (R179). -/
def live (s : State) (f : State → State) : Out :=
  .next (match s.power with | .running => f s | .held _ => s)

end Sys2Proof.Machine
end

