-- ==== Sys2Proof/Machine/Flags.lean ====
section
/-! DEFINITION. Codes of enumerated values (Table 11-2), presence marks (R187, R188), the outcome and quality bytes of a
stamp (Table 11-5) and the mark code of a time message (2.4). -/

namespace Sys2Proof.Machine

/-! ## Codes (Table 11-2). Codes the table leaves to the order of a list are notes/assumptions/26.md. -/

def boolCode (b : Bool) : Nat := if b then 1 else 0

def Ref.toCode : Ref → Nat
  | .a => 1
  | .b => 2

def refCode : Option Ref → Nat
  | none => 0
  | some r => Ref.toCode r

def QualState.toCode : QualState → Nat
  | .disabled => 0
  | .candidate => 1
  | .qualified => 2
  | .watch => 3
  | .excluded => 4

def Reason.toCode : Reason → Nat
  | .check => 1
  | .format => 2
  | .code => 3
  | .quality => 4
  | .label => 5
  | .uncertain => 6
  | .frequency => 7
  | .jump => 8
  | .offset => 9
  | .noLabel => 10
  | .missing => 11

def RefCause.toCode : RefCause → Nat
  | .bad reason => Reason.toCode reason
  | .goodRun => 12
  | .recovery => 13
  | .good => 14
  | .enable => 15
  | .disable => 16

def Mode.toCode : Mode → Nat
  | .unset => 0
  | .locked => 1
  | .slewing => 2
  | .holdover => 3

def TraceState.toCode : TraceState → Nat
  | .unset => 0
  | .traceable => 1
  | .degraded => 2
  | .untraceable => 3

def AnchorSource.toCode : AnchorSource → Nat
  | .ref => 1
  | .host => 2

def SlewEndCause.toCode : SlewEndCause → Nat
  | .reached => 1
  | .step => 2
  | .loss => 3

def OffsetCause.toCode : OffsetCause → Nat
  | .switch => 1
  | .host => 2
  | .leap => 3
  | .reference => 4

def ContestCause.toCode : ContestCause → Nat
  | .agreed => 1
  | .stop => 2

def TwinState.toCode : TwinState → Nat
  | .off => 0
  | .detached => 1
  | .offering => 2
  | .measuring => 3
  | .agreed => 4
  | .disagree => 5

/-- The fault of STATUS_TWIN takes the code it has as a cause of the TWIN notice (R77; notes/assumptions/26.md). -/
def TwinFault.toCode : TwinFault → Nat
  | .venue => 7
  | .loop => 8
  | .timeout => 9
  | .refused => 10
  | .bye => 11
  | .measure => 12
  | .check => 13

def TwinCause.toCode : TwinCause → Nat
  | .start => 1
  | .stop => 2
  | .offer => 3
  | .accept => 4
  | .evaluation => 5
  | .checkFailed => 6
  | .fault f => TwinFault.toCode f

def ProbeReason.toCode : ProbeReason → Nat
  | .timeout => 1
  | .number => 2
  | .step => 3
  | .order => 4

def PortState.toCode : PortState → Nat
  | .closed => 0
  | .opened => 1
  | .draining => 2
  | .faulted => 3

def DoorStatus.toCode : DoorStatus → Nat
  | .queueFull => 1
  | .portClosed => 2
  | .portFaulted => 3

def FaultKind.toCode : FaultKind → Nat
  | .check => 1
  | .kind => 2
  | .length => 3
  | .field => 4

def PortCause.toCode : PortCause → Nat
  | .openRequest => 1
  | .closeRequest => 2
  | .drained => 3
  | .fault => 4
  | .exhausted => 5

/-- Cause CAPTURE of R96. -/
def captureCauseCode : Nat := 6

def EventClass.toCode : EventClass → Nat
  | .new => 0
  | .modify => 1
  | .cancel => 2
  | .trade => 3
  | .quote => 4
  | .heartbeat => 5
  | .test => 6
  | .other => 7

/-- The event class a byte names, if any (R83, check 4). -/
def EventClass.ofCode : Nat → Option EventClass
  | 0 => some .new
  | 1 => some .modify
  | 2 => some .cancel
  | 3 => some .trade
  | 4 => some .quote
  | 5 => some .heartbeat
  | 6 => some .test
  | 7 => some .other
  | _ => none

def Phase.toCode : Phase → Nat
  | .dormant => 0
  | .call => 1
  | .random => 2
  | .suspended => 3
  | .closed => 4
  | .abandoned => 5
  | .scheduled => 6

def EffPhase.toCode : EffPhase → Nat
  | .continuous => 0
  | .call => 1
  | .random => 2
  | .suspended => 3
  | .closed => 4
  | .abandoned => 5

def AuctionStep.toCode : AuctionStep → Nat
  | .armed => 1
  | .callStart => 2
  | .windowStart => 3
  | .extend => 4
  | .suspend => 5
  | .resume => 6
  | .close => 7
  | .abandon => 8

/-- The step of a GROUP notice of a clearing (R135). -/
def clearedStepCode : Nat := 9

def AuctionCause.toCode : AuctionCause → Nat
  | .host => 1
  | .clock => 2
  | .clear => 3
  | .restart => 4

def ExtKind.toCode : ExtKind → Nat
  | .extend => 1
  | .resume => 2

def RecordKind.toCode : RecordKind → Nat
  | .stamp => 1
  | .clock => 2
  | .auction => 3
  | .evidence => 4
  | .marker => 5
  | .admin => 6
  | .gap => 7

def JournalStatus.toCode : JournalStatus → Nat
  | .recorded => 0
  | .notSelected => 1
  | .lost => 2

def SelectorMode.toCode : SelectorMode → Nat
  | .single => 0
  | .dual => 1

def LevelState.toCode : LevelState → Nat
  | .armed => 1
  | .fired => 2

def JournalCause.toCode : JournalCause → Nat
  | .level50 => 1
  | .level75 => 2
  | .loss => 3
  | .gapDeferred => 4

def TickMode.toCode : TickMode → Nat
  | .off => 0
  | .once => 1
  | .eachSecond => 2

def Status.toCode : Status → Nat
  | .ok => 0
  | .okClamped => 1
  | .unknownKind => 2
  | .badLength => 3
  | .outOfRange => 4
  | .wrongState => 5
  | .tooLate => 6
  | .listFull => 7
  | .notSet => 8
  | .notTraceable => 9
  | .released => 10
  | .exhausted => 11
  | .busy => 12

def ResetCause.toCode : ResetCause → Nat
  | .powerOn => 0
  | .pin => 1
  | .supply => 2

def SettingsStatus.toCode : SettingsStatus → Nat
  | .loaded => 0
  | .defaulted => 1

def SaveOutcome.toCode : SaveOutcome → Nat
  | .saved => 1
  | .failed => 2

/-- Codes of the ADMIN events, in the order of Table 8-4. -/
def AdminEvent.toCode : AdminEvent → Nat
  | .startup .. => 1
  | .portOpen .. => 2
  | .portClosed .. => 3
  | .portFaulted .. => 4
  | .configChange .. => 5
  | .selectorChange .. => 6
  | .settingsSaved .. => 7
  | .restart => 8

/-- Codes of the CLOCK events, in the order of Table 3-6. -/
def ClockEvent.toCode : ClockEvent → Nat
  | .set .. => 1
  | .acquired .. => 2
  | .step .. => 3
  | .slewStart .. => 4
  | .slewEnd .. => 5
  | .refSwitch .. => 6
  | .holdoverStart .. => 7
  | .traceState .. => 8
  | .offsetChange .. => 9
  | .leapAnnounced .. => 10
  | .contestedSet .. => 11
  | .contestedClear .. => 12

/-! ## Decoding of codes that arrive -/

def boolOfCode : Nat → Option Bool
  | 0 => some false
  | 1 => some true
  | _ => none

/-- A reference byte: 0 names nothing (11.2). -/
def refOfCode : Nat → Option Ref
  | 1 => some .a
  | 2 => some .b
  | _ => none

/-- The selected reference of a twin STATUS frame, where 0 is none. -/
def selectionOfCode : Nat → Option (Option Ref)
  | 0 => some none
  | 1 => some (some .a)
  | 2 => some (some .b)
  | _ => none

def modeOfCode : Nat → Option Mode
  | 0 => some .unset
  | 1 => some .locked
  | 2 => some .slewing
  | 3 => some .holdover
  | _ => none

def traceOfCode : Nat → Option TraceState
  | 0 => some .unset
  | 1 => some .traceable
  | 2 => some .degraded
  | 3 => some .untraceable
  | _ => none

def selectorModeOfCode : Nat → Option SelectorMode
  | 0 => some .single
  | 1 => some .dual
  | _ => none

def tickModeOfCode : Nat → Option TickMode
  | 0 => some .off
  | 1 => some .once
  | 2 => some .eachSecond
  | _ => none

/-! ## Presence marks and fields (R187, R188) -/

/-- One field of a layout: its presence mark when it is optional, and its bytes. -/
structure Fld where
  mark : Option Bool
  bytes : List Byte
  deriving DecidableEq, Repr

/-- An unsigned field of `w` bytes. -/
def fx (w n : Nat) : Fld := ⟨none, leBytes w n⟩

/-- A signed field of `w` bytes. -/
def fs (w : Nat) (i : Int) : Fld := ⟨none, leSigned w i⟩

/-- An optional unsigned field; absent, its bytes are zero. -/
def fo (w : Nat) (o : Option Nat) : Fld := ⟨some o.isSome, leBytes w (o.getD 0)⟩

/-- An optional signed field; absent, its bytes are zero. -/
def fso (w : Nat) (o : Option Int) : Fld := ⟨some o.isSome, leSigned w (o.getD 0)⟩

/-- A field as it stands inside an absent composite: its mark clear, its bytes zero. -/
def Fld.cleared (f : Fld) : Fld := ⟨f.mark.map fun _ => false, f.bytes.map fun _ => 0⟩

/-- An optional composite item: one mark for the item, then its fields, whose shape an absent item takes from `dflt`
(R188, 6). -/
def fcomp {α : Type} (dflt : α) (fields : α → List Fld) : Option α → List Fld
  | some x => ⟨some true, []⟩ :: fields x
  | none => ⟨some false, []⟩ :: (fields dflt).map Fld.cleared

/-- Marks of up to eight optional fields as the bits of one byte, bit 0 upward. -/
def markBits : List Bool → Nat
  | [] => 0
  | m :: ms => boolCode m + 2 * markBits ms

/-- Presence bytes for a list of marks, as few as they need; `fuel` is any number not below the number of bytes. -/
def presenceBytes : Nat → List Bool → List Byte
  | 0, _ => []
  | _, [] => []
  | fuel + 1, m :: ms =>
    BitVec.ofNat 8 (markBits ((m :: ms).take 8)) :: presenceBytes fuel ((m :: ms).drop 8)

/-- The marks of the optional fields of a layout, in order. -/
def marksOf (fields : List Fld) : List Bool := fields.filterMap Fld.mark

/-- Presence bytes, then the fields (R188, 3 to 6). -/
def layout (fields : List Fld) : List Byte :=
  presenceBytes (marksOf fields).length (marksOf fields) ++ fields.flatMap Fld.bytes

/-- The bytes of the fields without presence bytes. -/
def fieldBytes (fields : List Fld) : List Byte := fields.flatMap Fld.bytes

/-- Bytes filled with zeros up to `n` (R187, zero fill). -/
def padTo (n : Nat) (bytes : List Byte) : List Byte := bytes ++ List.replicate (n - bytes.length) 0

/-! ## Outcome and quality of a stamp (Table 11-5) -/

/-- Phase tag in bits 3–0, disposition in bit 7. -/
def outcomeByte (phase : EffPhase) (late : Bool) : Nat := EffPhase.toCode phase + 128 * boolCode late

/-- Traceability state in bits 1–0, contested in bit 2, floored in bit 3. -/
def qualityByte (q : Quality) : Nat := TraceState.toCode q.trace + 4 * boolCode q.contested + 8 * boolCode q.floored

/-! ## Mark code (2.4) -/

/-- The flags of a valid mark code. -/
structure MarkFlags where
  leap : Bool
  quality : Bool
  sign : Bool
  deriving DecidableEq, Repr

/-- What R23 finds in a mark code byte. -/
inductive MarkCode where
  | format
  | uncorrectable
  | valid (flags : MarkFlags) (corrected : Bool)
  deriving DecidableEq, Repr

/-- The eight valid bytes of Table 11-7 with the flags they carry. -/
def validMarkCodes : List (Nat × MarkFlags) :=
  [ (0x80, ⟨false, false, false⟩), (0x97, ⟨false, false, true⟩), (0xAB, ⟨false, true, false⟩)
  , (0xBC, ⟨false, true, true⟩), (0xCD, ⟨true, false, false⟩), (0xDA, ⟨true, false, true⟩)
  , (0xE6, ⟨true, true, false⟩), (0xF1, ⟨true, true, true⟩) ]

/-- Number of ones among the low `k` binary digits. -/
def onesIn : Nat → Nat → Nat
  | 0, _ => 0
  | k + 1, n => n % 2 + onesIn k (n / 2)

/-- Places in which the seven code bits of two bytes differ (R23). -/
def codeDistance (x y : Nat) : Nat := onesIn 7 (Nat.xor x y)

/-- Decoding of a mark code byte (R23). -/
def decodeMarkCode (byte : Nat) : MarkCode :=
  if byte < 128 then .format
  else
    match validMarkCodes.find? fun c => decide (codeDistance byte c.1 ≤ 1) with
    | some c => .valid c.2 (decide (codeDistance byte c.1 = 1))
    | none => .uncorrectable

end Sys2Proof.Machine
end

