-- ==== Sys2Proof/Machine/Operands.lean ====
section
/-! DEFINITION. How arriving bytes are read: the receivers of the five kinds of link (R17, R63, R82, R162), the fields of
time messages, twin frames, stamp requests and control requests (chapter 11), and the clamping of the quantities a
request or the stored profile carries (R168, Table 9-2). -/

namespace Sys2Proof.Machine

/-! ## Time message (Table 11-6) -/

/-- The fields of a time message, and whether its frame check passes. -/
structure TimeMessage where
  checkOk : Bool
  label : Nat
  utcOffset : Int
  code : Nat
  uncertainty : Nat
  deriving DecidableEq, Repr

/-- The fields of a 14-byte time message. -/
def readTimeMessage (frame : List Byte) : TimeMessage where
  checkOk := decide (byteSum frame = 0)
  label := field frame 1 6
  utcOffset := fieldInt frame 7 1
  code := field frame 8 1
  uncertainty := field frame 9 4

/-- What a chunk of bytes does at the serial receiver of a reference (R17). -/
inductive TimeArrival where
  /-- No such bytes can arrive within a frame: the receiver hunts and the first is no start byte, or they run past it. -/
  | notAFrame
  | assembling (bytes : List Byte)
  | arrived (msg : TimeMessage)
  deriving DecidableEq, Repr

/-- The reference receiver: a frame opens at 0xD3 and arrives at its fourteenth byte (R17). -/
def takeTimeMessage (rx chunk : List Byte) : TimeArrival :=
  let frame := rx ++ chunk
  if frame.head? ≠ some 0xD3#8 then .notAFrame
  else if frame.length < 14 then .assembling frame
  else if frame.length = 14 then .arrived (readTimeMessage frame)
  else .notAFrame

/-! ## Twin frames (Table 11-8) -/

/-- A frame received on the twin link. -/
inductive TwinMessage where
  | offer (id : TwinIdentity)
  | accept (id : TwinIdentity)
  | refuse (venue serial : Nat)
  | probe (number : Nat)
  | echo (number t2 t3 : Nat)
  | status (st : TwinStatus)
  | bye
  deriving DecidableEq, Repr

/-- The length the kind byte fixes, absent for a byte that names no twin frame. -/
def twinLength : Nat → Option Nat
  | 1 => some 11
  | 2 => some 11
  | 3 => some 9
  | 4 => some 5
  | 5 => some 21
  | 6 => some 13
  | 7 => some 3
  | _ => none

/-- The identity fields of an OFFER or ACCEPT; an epoch of 0 is out of range. -/
def readIdentity (frame : List Byte) : Option TwinIdentity :=
  if field frame 8 2 = 0 then none
  else some ⟨field frame 2 2, field frame 4 4, field frame 8 2⟩

/-- The fields of a STATUS frame, when every code and the epoch are in range and the presence byte marks no other
field than B. -/
def readStatus (frame : List Byte) : Option TwinStatus :=
  match traceOfCode (field frame 2 1), boolOfCode (field frame 3 1), modeOfCode (field frame 8 1),
      selectionOfCode (field frame 9 1) with
  | some trace, some present, some mode, some selected =>
    if field frame 10 2 = 0 then none
    else some ⟨trace, if present then some (field frame 4 4) else none, mode, selected, field frame 10 2⟩
  | _, _, _, _ => none

/-- The message of a whole twin frame, absent when it fails its check, kind or range (R63). -/
def readTwinFrame (frame : List Byte) : Option TwinMessage :=
  if byteSum frame ≠ 0 then none
  else
    match field frame 1 1 with
    | 1 => (readIdentity frame).map .offer
    | 2 => (readIdentity frame).map .accept
    | 3 => some (.refuse (field frame 2 2) (field frame 4 4))
    | 4 => if field frame 2 2 = 0 then none else some (.probe (field frame 2 2))
    | 5 => if field frame 2 2 = 0 then none
           else some (.echo (field frame 2 2) (field frame 4 8) (field frame 12 8))
    | 6 => (readStatus frame).map .status
    | 7 => some .bye
    | _ => none

/-- What a chunk of bytes does at the twin receiver (R63). -/
inductive TwinArrival where
  | notAFrame
  | assembling (rx : TwinReceiver)
  | bad
  | good (msg : TwinMessage) (startRaw : Nat)
  deriving DecidableEq, Repr

/-- The twin receiver: a frame opens at 0x3C, with the raw time of that byte, and its kind byte fixes its length; an
unknown kind ends it at that byte (R63). -/
def takeTwinBytes (rx : Option TwinReceiver) (chunk : List Byte) (raw : Nat) : TwinArrival :=
  let before := match rx with | some r => r.bytes | none => []
  let startRaw := match rx with | some r => r.startRaw | none => raw
  let frame := before ++ chunk
  if frame.head? ≠ some 0x3C#8 then .notAFrame
  else if frame.length < 2 then .assembling ⟨frame, startRaw⟩
  else
    match twinLength (field frame 1 1) with
    | none => if frame.length = 2 then .bad else .notAFrame
    | some n =>
      if frame.length < n then .assembling ⟨frame, startRaw⟩
      else if frame.length = n then
        match readTwinFrame frame with
        | some msg => .good msg startRaw
        | none => .bad
      else .notAFrame

/-! ## Stamp requests (Table 11-5) -/

/-- The fields of a good stamp request. -/
structure StampFields where
  tag : BitVec 32
  cls : EventClass
  group : GroupIx
  key : BitVec 64
  deriving DecidableEq, Repr

/-- Judgement of an arrived stamp frame (R83). -/
inductive StampJudgement where
  | good (f : StampFields)
  | bad (fault : FaultKind) (offset : Nat)
  deriving DecidableEq, Repr

/-- The four checks of R83, in order. -/
def judgeStampFrame (frame : List Byte) : StampJudgement :=
  if byteSum frame ≠ 0 then .bad .check (frame.length - 1)
  else if field frame 1 1 ≠ 0x01 then .bad .kind 1
  else if field frame 2 1 ≠ 18 then .bad .length 2
  else
    match EventClass.ofCode (field frame 7 1) with
    | none => .bad .field 7
    | some cls =>
      if h : field frame 8 1 < 16 then
        .good ⟨BitVec.ofNat 32 (field frame 3 4), cls, ⟨field frame 8 1, h⟩, BitVec.ofNat 64 (field frame 9 8)⟩
      else .bad .field 8

/-- What a chunk of bytes does at the receiver of a stamp port (R82). -/
inductive StampArrival where
  | notAFrame
  | assembling (bytes : List Byte)
  /-- The third byte is no length from 4 to 64: the frame ends there. -/
  | badLength
  | arrived (frame : List Byte)
  deriving DecidableEq, Repr

/-- The receiver of a stamp port: a frame opens at 0xA7 and its third byte gives its length (R82). -/
def takeStampBytes (rx chunk : List Byte) : StampArrival :=
  let frame := rx ++ chunk
  if frame.head? ≠ some 0xA7#8 then .notAFrame
  else if frame.length < 3 then .assembling frame
  else
    let n := field frame 2 1
    if n < 4 ∨ 64 < n then (if frame.length = 3 then .badLength else .notAFrame)
    else if frame.length < n then .assembling frame
    else if frame.length = n then .arrived frame
    else .notAFrame

/-! ## Control frames (Table 11-3) and requests (Table 11-4) -/

/-- What a chunk of bytes does at the control receiver (R162). -/
inductive ControlArrival where
  | notAFrame
  | assembling (bytes : List Byte)
  /-- The length bytes give more than 1,024: the frame ends at its third byte. -/
  | badLength
  | arrived (frame : List Byte)
  deriving DecidableEq, Repr

/-- The control receiver: a frame opens at 0xC5 and holds 7 bytes more than its payload length (R162). -/
def takeControlBytes (rx chunk : List Byte) : ControlArrival :=
  let frame := rx ++ chunk
  if frame.head? ≠ some 0xC5#8 then .notAFrame
  else if frame.length < 3 then .assembling frame
  else
    let n := field frame 1 2
    if 1024 < n then (if frame.length = 3 then .badLength else .notAFrame)
    else if frame.length < 7 + n then .assembling frame
    else if frame.length = 7 + n then .arrived frame
    else .notAFrame

/-- The request of a control frame that passed its check. -/
def readRequest (frame : List Byte) : ControlRequest where
  kind := BitVec.ofNat 8 (field frame 3 1)
  tag := BitVec.ofNat 16 (field frame 4 2)
  payload := slice frame 6 (field frame 1 2)

/-- The fixed payload length of a request kind, absent for a kind that names no request; JOURNAL_MARK (0x19) is given
as 0 here and handled by `lengthAllowed` (Table 11-4). -/
def requestLength : Nat → Option Nat
  | 0x01 => some 0
  | 0x02 => some 0
  | 0x03 => some 0
  | 0x04 => some 0
  | 0x05 => some 1
  | 0x06 => some 1
  | 0x07 => some 0
  | 0x08 => some 13
  | 0x09 => some 11
  | 0x0A => some 8
  | 0x0B => some 12
  | 0x0C => some 12
  | 0x0D => some 0
  | 0x0E => some 0
  | 0x0F => some 1
  | 0x10 => some 1
  | 0x11 => some 19
  | 0x12 => some 3
  | 0x13 => some 1
  | 0x14 => some 3
  | 0x15 => some 1
  | 0x16 => some 1
  | 0x17 => some 5
  | 0x18 => some 4
  | 0x19 => some 0
  | 0x1A => some 11
  | 0x1B => some 8
  | 0x1C => some 0
  | 0x1D => some 0
  | _ => none

/-- Whether the kind names a request. -/
def kindKnown (kind : Nat) : Bool := (requestLength kind).isSome

/-- Whether a payload length is allowed for the kind: one fixed length, and 0 to 32 for JOURNAL_MARK (R165). -/
def lengthAllowed (kind len : Nat) : Bool :=
  if kind = 0x19 then decide (len ≤ 32) else decide (requestLength kind = some len)

/-! ## Clamping (R168, Table 9-2) -/

/-- A value as taken, and whether it was clamped. -/
structure Clamped (α : Type) where
  value : α
  clamped : Bool
  deriving DecidableEq, Repr

/-- A quantity clamped to its range. -/
def clampQ (lo hi n : Nat) : Clamped Nat := ⟨clampNat lo hi n, decide (clampNat lo hi n ≠ n)⟩

/-- A signed quantity clamped to its range. -/
def clampQInt (lo hi i : Int) : Clamped Int := ⟨clampInt lo hi i, decide (clampInt lo hi i ≠ i)⟩

/-- SERVO_CONFIG values clamped by Table 9-2. -/
def clampServo (gp gi threshold : Nat) : Clamped Servo :=
  let a := clampQ 0 1000 gp
  let b := clampQ 0 250 gi
  let c := clampQ 10000 10000000 threshold
  ⟨⟨a.value, b.value, c.value⟩, a.clamped || b.clamped || c.clamped⟩

/-- TRACE_CONFIG values clamped by Table 9-2, the advisory threshold to the limit threshold last (R169). -/
def clampTrace (growth advisory limit interval : Nat) : Clamped Trace :=
  let g := clampQ 1 10000 growth
  let l := clampQ 1000 1000000 limit
  let a := clampQ 1000 1000000 advisory
  let a' := min a.value l.value
  let n := clampQ 10 3600 interval
  ⟨⟨g.value, a', l.value, n.value⟩, g.clamped || l.clamped || decide (a' ≠ advisory) || n.clamped⟩

/-- The uncertainty ceiling of a reference. -/
def clampCeiling (n : Nat) : Clamped Nat := clampQ 10 1000000 n

/-- The cable delay of a reference. -/
def clampDelay (i : Int) : Clamped Int := clampQInt (-100000) 100000 i

/-- The three quantities of TWIN_CONFIG. -/
structure TwinQuantities where
  limit : Nat
  allowance : Nat
  period : Nat
  deriving DecidableEq, Repr

/-- TWIN_CONFIG quantities clamped by Table 9-2. -/
def clampTwin (limit allowance period : Nat) : Clamped TwinQuantities :=
  let l := clampQ 1000 1000000 limit
  let a := clampQ 0 100000 allowance
  let p := clampQ 4 60 period
  ⟨⟨l.value, a.value, p.value⟩, l.clamped || a.clamped || p.clamped⟩

/-- A selector of SELECT_CONFIG or the profile, by its on byte, code and mask. -/
def readSelector (bytes : List Byte) (off : Nat) : Option Selector :=
  (boolOfCode (field bytes off 1)).map fun on => ⟨on, field bytes (off + 1) 2, field bytes (off + 3) 2⟩

/-- The enables of NOTICE_CONFIG or the profile, seven bytes from `off`; absent when one names nothing. -/
def readEnables (bytes : List Byte) (off : Nat) : Option Enables :=
  match boolOfCode (field bytes off 1), boolOfCode (field bytes (off + 1) 1), boolOfCode (field bytes (off + 2) 1),
      boolOfCode (field bytes (off + 3) 1), boolOfCode (field bytes (off + 4) 1),
      boolOfCode (field bytes (off + 5) 1), boolOfCode (field bytes (off + 6) 1) with
  | some c, some r, some t, some g, some j, some p, some u => some ⟨c, r, t, g, j, p, u⟩
  | _, _, _, _, _, _, _ => none

end Sys2Proof.Machine
end

