-- ==== Sys2Proof/Machine/Formats.lean ====
section
/-! DEFINITION. Layouts: journal records (11.6), stamp replies (11.3), twin frames (11.5), control frames (11.2), the
fields of notices and status replies (R188), and the stored profile (11.6). Widths the manual does not list are
notes/assumptions/24.md; the place of the marks of nested and listed items is notes/assumptions/25.md. -/

namespace Sys2Proof.Machine

/-! ## Journal records (11.6) -/

/-- The kind of a record. -/
def Body.kind : Body → RecordKind
  | .stamp .. => .stamp
  | .clock .. => .clock
  | .auction .. => .auction
  | .evidence .. => .evidence
  | .marker .. => .marker
  | .admin .. => .admin
  | .gap .. => .gap

/-- The sequence number of a record, when it carries one (R139). -/
def Body.seq : Body → Option Nat
  | .stamp seq _ _ => some seq
  | .clock seq _ _ => seq
  | .auction seq _ _ => seq
  | .marker seq _ _ => seq
  | .evidence .. => none
  | .admin .. => none
  | .gap _ => none

/-- The length of a record in bytes (Table 8-1). -/
def Body.size : Body → Nat
  | .stamp .. => 48
  | .clock .. => 64
  | .auction .. => 96
  | .evidence .. => 104
  | .marker _ _ text => 29 + text.length
  | .admin .. => 40
  | .gap _ => 36

/-- The free bytes a record kind must leave (Table 8-1). -/
def RecordKind.tier : RecordKind → Nat
  | .stamp => 2048
  | .marker => 2048
  | .clock => 28
  | .auction => 28
  | .evidence => 28
  | .admin => 28
  | .gap => 0

/-- R146: the selection key of a stamp. -/
def selectionKey (r : StampRecord) : Nat := r.group.val * 256 + EventClass.toCode r.cls * 16 + r.port.val

/-- The cause of REF_SWITCH in two bytes: the reference of the report and its cause, or zeros (Table 11-2). -/
def switchCauseFields : SwitchCause → List Fld
  | .report r c => [fx 1 (Ref.toCode r), fx 1 (RefCause.toCode c)]
  | .preference => [fx 1 0, fx 1 0]

/-- The values of a CLOCK event (Table 3-6; STEP as 11.6 fixes it). The B among TRACE_STATE's values is the optional value
of that event, with a mark of its own after that of the record's B (notes/assumptions/25.md). -/
def clockValues : ClockEvent → List Fld
  | .set before after requested bound mode =>
    [fx 8 before, fx 8 after, fx 8 requested, fx 4 bound, fx 1 (Mode.toCode mode)]
  | .acquired old r e u st => [fx 1 (Mode.toCode old), fx 1 (Ref.toCode r), fs 8 e, fx 4 u, fx 1 (QualState.toCode st)]
  | .step before after e => [fx 8 before, fx 8 after, fs 8 e]
  | .slewStart e before i => [fs 8 e, fx 1 (Mode.toCode before), fs 4 i]
  | .slewEnd cause e => [fx 1 (SlewEndCause.toCode cause), fs 8 e]
  | .refSwitch old new oldState newState cause =>
    [fx 1 (refCode old), fx 1 (refCode new), fx 1 ((oldState.map QualState.toCode).getD 0),
     fx 1 ((newState.map QualState.toCode).getD 0)] ++ switchCauseFields cause
  | .holdoverStart old i r => [fx 1 (Mode.toCode old), fs 4 i, fs 4 r]
  | .traceState old new bound dating =>
    [fx 1 (TraceState.toCode old), fx 1 (TraceState.toCode new), fo 4 bound, fx 8 dating]
  | .offsetChange old new cause => [fs 1 old, fs 1 new, fx 1 (OffsetCause.toCode cause)]
  | .leapAnnounced sign r label => [fx 1 (boolCode sign), fx 1 (Ref.toCode r), fx 6 label]
  | .contestedSet theta limit => [fs 8 theta, fx 4 limit]
  | .contestedClear cause theta => [fx 1 (ContestCause.toCode cause), fso 8 theta]

/-- Whether each optional value of an event that may lack one is present. -/
def clockMarks (e : ClockEvent) : List Bool := marksOf (clockValues e)

/-- One selector setting of SELECTOR_CHANGE, 9 bytes (11.6). -/
def selectorChangeBytes (x : Selectors) : List Byte :=
  leBytes 1 (SelectorMode.toCode x.mode + 2 * boolCode x.first.on + 4 * boolCode x.second.on) ++
  leBytes 2 x.first.code ++ leBytes 2 x.first.mask ++ leBytes 2 x.second.code ++ leBytes 2 x.second.mask

/-- The values of an ADMIN event (Table 8-4, 11.6); the fault score and the entries made REFUSING of PORT_FAULTED take one
byte each (notes/assumptions/24.md). -/
def adminValues : AdminEvent → List Byte
  | .startup cause epoch exhausted status =>
    leBytes 1 (ResetCause.toCode cause) ++ leBytes 2 epoch ++ leBytes 1 (boolCode exhausted) ++
      leBytes 1 (SettingsStatus.toCode status)
  | .portOpen p before => leBytes 1 p.val ++ leBytes 1 (PortState.toCode before)
  | .portClosed p before grants => leBytes 1 p.val ++ leBytes 1 (PortState.toCode before) ++ leBytes 4 grants
  | .portFaulted p before score fault refusing =>
    leBytes 1 p.val ++ leBytes 1 (PortState.toCode before) ++ leBytes 1 score ++ leBytes 1 (FaultKind.toCode fault) ++
      leBytes 1 refusing
  | .configChange request clamped staged payload =>
    [request] ++ leBytes 1 (boolCode clamped + 2 * boolCode staged) ++ payload
  | .selectorChange old new => selectorChangeBytes old ++ selectorChangeBytes new
  | .settingsSaved outcome => leBytes 1 (SaveOutcome.toCode outcome)
  | .restart => []

/-- The step values of an AUCTION record, 16 bytes at offset 80: those its rule lists beyond the fixed fields. -/
def auctionValues (r : AuctionRecord) : List Byte :=
  match r.step with
  | .armed | .callStart | .windowStart | .extend => []
  | .suspend =>
    leBytes 1 ((r.cause.map AuctionCause.toCode).getD 0) ++ leBytes 1 ((r.trace.map TraceState.toCode).getD 0)
  | .resume => leBytes 1 ((r.cause.map AuctionCause.toCode).getD 0)
  | .close =>
    leBytes 4 (r.accepted.getD 0) ++ leBytes 8 (r.lastSeq.getD 0) ++
      leBytes 1 ((r.closeQuality.map TraceState.toCode).getD 0)
  | .abandon =>
    leBytes 1 ((r.phaseBefore.map Phase.toCode).getD 0) ++ leBytes 4 (r.accepted.getD 0) ++
      leBytes 8 (r.lastSeq.getD 0) ++ leBytes 1 ((r.cause.map AuctionCause.toCode).getD 0)

/-- A record's bytes from offset 12 (Table 11-10). `withheld` takes the draw and T_end out of an AUCTION record
(R152). -/
def bodyBytes (withheld : Bool) : Body → List Byte
  | .stamp seq dating r =>
    leBytes 8 seq ++ leBytes 8 dating ++ leBytes 2 (selectionKey r) ++ leBytes 8 r.key.toNat ++ leBytes 4 r.tag.toNat ++
      leBytes 1 (outcomeByte r.phase r.late) ++ leBytes 1 (qualityByte r.quality) ++ leBytes 4 r.wait
  | .clock seq dating r =>
    leBytes 8 (seq.getD 0) ++ leBytes 8 dating ++ leBytes 1 (ClockEvent.toCode r.event) ++
      leBytes 1 (Mode.toCode r.mode) ++ leBytes 1 (markBits (r.bound.isSome :: clockMarks r.event)) ++
      leBytes 4 (r.bound.getD 0) ++ padTo 29 (fieldBytes (clockValues r.event))
  | .auction seq dating r =>
    let tEnd := if withheld then none else r.tEnd
    let draw := if withheld then none else r.draw
    leBytes 8 (seq.getD 0) ++ leBytes 8 dating ++ leBytes 1 r.group.val ++ leBytes 2 r.number ++
      leBytes 1 (AuctionStep.toCode r.step) ++
      leBytes 1 (markBits [tEnd.isSome, draw.isSome, r.lastSeq.isSome, r.closeQuality.isSome, r.trace.isSome]) ++
      leBytes 1 r.listLength ++ leBytes 2 r.window ++ leBytes 8 r.instant ++ leBytes 8 r.now ++ leBytes 8 r.tc ++
      leBytes 8 r.tMin ++ leBytes 8 (tEnd.getD 0) ++ leBytes 4 (draw.getD 0) ++ padTo 16 (auctionValues r)
  | .evidence dating r =>
    leBytes 8 dating ++
      leBytes 1 (markBits [r.mean.isSome, r.stats.minE.isSome, r.stats.maxE.isSome, r.stats.minTicks.isSome,
        r.stats.maxTicks.isSome, r.bound.isSome, r.theta.isSome]) ++
      leBytes 1 (TraceState.toCode r.trace) ++ leBytes 1 (Mode.toCode r.mode) ++ leBytes 1 (boolCode r.contested) ++
      leBytes 1 (refCode r.selection) ++ List.replicate 5 0 ++ leBytes 2 r.interval ++ leBytes 4 r.stats.completed ++
      leBytes 4 r.stats.bad ++ leBytes 4 r.stats.corrected ++ leBytes 4 r.stats.used ++
      leSigned 8 (r.stats.minE.getD 0) ++ leSigned 8 (r.stats.maxE.getD 0) ++ leSigned 8 r.stats.sumE ++
      leSigned 8 (r.mean.getD 0) ++ leBytes 4 (r.stats.minTicks.getD 0) ++ leBytes 4 (r.stats.maxTicks.getD 0) ++
      leSigned 4 r.rate ++ leBytes 4 (r.bound.getD 0) ++ leSigned 8 (r.theta.getD 0)
  | .marker seq dating text =>
    leBytes 8 (seq.getD 0) ++ leBytes 8 dating ++ leBytes 1 text.length ++ text
  | .admin dating event =>
    leBytes 8 dating ++ leBytes 1 (AdminEvent.toCode event) ++ leBytes 1 0 ++ padTo 18 (adminValues event)
  | .gap tally =>
    leBytes 4 tally.stamps ++ leBytes 4 tally.others ++
      leBytes 8 ((tally.span.map LostSpan.first).getD 0) ++ leBytes 8 ((tally.span.map LostSpan.last).getD 0)

/-- Whether a record is a GAP record with a sequence span (R139). -/
def Body.spanPresent : Body → Bool
  | .gap tally => tally.span.isSome
  | _ => false

/-- The bytes of a record with a given number, chain field and withheld flag (Table 11-9). -/
def recordBytes (number : Nat) (chain : BitVec 32) (withheld : Bool) (b : Body) : List Byte :=
  leBytes 2 b.size ++ leBytes 1 (RecordKind.toCode b.kind) ++
    leBytes 1 (boolCode b.seq.isSome + 2 * boolCode withheld + 4 * boolCode b.spanPresent) ++ leBytes 4 number ++
    leBytes 4 chain.toNat ++ bodyBytes withheld b

/-- The chain word of a record: the CRC of the whole record with the previous chain word in its chain field (R149). -/
def chainWord (number : Nat) (previous : BitVec 32) (b : Body) : BitVec 32 :=
  crc32 (recordBytes number previous false b)

/-! ## Frames -/

/-- The wire form of a control frame (Table 11-3). -/
def ControlFrame.wire (f : ControlFrame) : List Byte :=
  closeFrame ([0xC5#8] ++ leBytes 2 f.payload.length ++ [f.kind] ++ leBytes 2 f.tag.toNat ++ f.payload)

/-- The wire form of a stamp reply (Table 11-5). -/
def StampReply.wire : StampReply → List Byte
  | .stamped tag epoch seq dating wait late phase quality utcOffset journal =>
    closeFrame ([0xA7#8, 0x81#8, 35#8] ++ leBytes 4 tag.toNat ++ leBytes 2 epoch ++ leBytes 1 0 ++ leBytes 8 seq ++
      leBytes 8 dating ++ leBytes 4 wait ++ leBytes 1 (outcomeByte phase late) ++ leBytes 1 (qualityByte quality) ++
      leSigned 1 utcOffset ++ leBytes 1 (JournalStatus.toCode journal))
  | .refused tag epoch status =>
    closeFrame ([0xA7#8, 0x81#8, 35#8] ++ leBytes 4 tag.toNat ++ leBytes 2 epoch ++
      leBytes 1 (DoorStatus.toCode status) ++ List.replicate 24 0)

/-- The fields of a twin status, in frame order. -/
def twinStatusBytes (st : TwinStatus) : List Byte :=
  leBytes 1 (TraceState.toCode st.trace) ++ leBytes 1 (boolCode st.bound.isSome) ++ leBytes 4 (st.bound.getD 0) ++
    leBytes 1 (Mode.toCode st.mode) ++ leBytes 1 (refCode st.selected) ++ leBytes 2 st.epoch

/-- The wire form of a twin frame whose start byte leaves at raw time `raw` (Table 11-8; t3 of an ECHO, R64). -/
def TwinFrame.wire (raw : Nat) : TwinFrame → List Byte
  | .offer id => closeFrame ([0x3C#8, 1#8] ++ leBytes 2 id.venue ++ leBytes 4 id.serial ++ leBytes 2 id.epoch)
  | .accept id => closeFrame ([0x3C#8, 2#8] ++ leBytes 2 id.venue ++ leBytes 4 id.serial ++ leBytes 2 id.epoch)
  | .refuse venue serial => closeFrame ([0x3C#8, 3#8] ++ leBytes 2 venue ++ leBytes 4 serial)
  | .probe number => closeFrame ([0x3C#8, 4#8] ++ leBytes 2 number)
  | .echo number t2 => closeFrame ([0x3C#8, 5#8] ++ leBytes 2 number ++ leBytes 8 t2 ++ leBytes 8 raw)
  | .status st => closeFrame ([0x3C#8, 6#8] ++ twinStatusBytes st)
  | .bye => closeFrame [0x3C#8, 7#8]

/-! ## Notices (R188) -/

/-- The kind byte of a notice class (11.2). -/
def NoticeClass.kindByte : NoticeClass → Byte
  | .clock => 0x60#8
  | .ref => 0x61#8
  | .twin => 0x62#8
  | .group => 0x63#8
  | .journal => 0x64#8
  | .port => 0x65#8
  | .tick => 0x66#8
  | .startup => 0x67#8

/-- CLOCK notice (R59). -/
def clockNotice (r : ClockRecord) (trace : TraceState) (dating : Nat) : List Fld :=
  [fx 1 (ClockEvent.toCode r.event)] ++ clockValues r.event ++
    [fx 1 (Mode.toCode r.mode), fx 1 (TraceState.toCode trace), fo 4 r.bound, fx 8 dating]

/-- REF notice (R34); the fault score takes one byte (notes/assumptions/24.md). -/
def refNotice (r : Ref) (old new : QualState) (score : Nat) (cause : RefCause) (dating : Nat) : List Fld :=
  [fx 1 (Ref.toCode r), fx 1 (QualState.toCode old), fx 1 (QualState.toCode new), fx 1 score,
   fx 1 (RefCause.toCode cause), fx 8 dating]

/-- The values a TWIN notice carries for an evaluation (R77). -/
structure Evaluation where
  theta : Int
  delay : Int
  valid : Nat
  deriving DecidableEq, Repr

/-- TWIN notice (R77); the number of VALID probes takes one byte (notes/assumptions/24.md), and it, θ and the delay are
optional fields that an evaluation alone has (notes/assumptions/25.md). -/
def twinNotice (old new : TwinState) (cause : TwinCause) (ev : Option Evaluation) (heldOut : Bool) (dating : Nat) :
    List Fld :=
  [fx 1 (TwinState.toCode old), fx 1 (TwinState.toCode new), fx 1 (TwinCause.toCode cause),
   fso 8 (ev.map Evaluation.theta), fso 8 (ev.map Evaluation.delay), fo 1 (ev.map Evaluation.valid),
   fx 1 (boolCode heldOut), fx 8 dating]

/-- GROUP notice of an AUCTION record (R135); the values of some steps alone are optional fields of every one
(notes/assumptions/25.md), and the draw takes 4 bytes (notes/assumptions/24.md). -/
def groupNotice (r : AuctionRecord) (before after : Phase) (accepted : Nat) (dating : Nat) : List Fld :=
  let ended := decide (r.step = .close) || decide (r.step = .abandon)
  [fx 1 r.group.val, fx 2 r.number, fx 1 (AuctionStep.toCode r.step), fx 1 (Phase.toCode before),
   fx 1 (Phase.toCode after), fo 8 (some r.tc), fo 8 (some r.tMin), fo 2 (some r.window), fx 1 r.listLength,
   fx 4 accepted,
   fo 1 (if r.step = .suspend ∨ r.step = .resume then r.cause.map AuctionCause.toCode else none),
   fo 4 (if ended then r.draw else none), fo 8 (if ended then r.tEnd else none),
   fo 8 (if r.step = .close then r.lastSeq else none),
   fo 1 (if r.step = .close then r.closeQuality.map TraceState.toCode else none), fx 8 dating]

/-- GROUP notice of a clearing (R135): the fields Table 7-2 marks absent in DORMANT are absent. -/
def clearedNotice (g : GroupIx) (number : Nat) (before : Phase) (dating : Nat) : List Fld :=
  [fx 1 g.val, fx 2 number, fx 1 clearedStepCode, fx 1 (Phase.toCode before), fx 1 (Phase.toCode .dormant),
   fo 8 none, fo 8 none, fo 2 none, fx 1 0, fx 4 0, fo 1 none, fo 4 none, fo 8 none, fo 8 none, fo 1 none, fx 8 dating]

/-- PORT notice of a state change (R96); the fault score and the number of queued entries take one byte each
(notes/assumptions/24.md). -/
def portNotice (p : PortIx) (old new : PortState) (cause : PortCause) (score entries dating : Nat) : List Fld :=
  [fx 1 p.val, fx 1 (PortState.toCode old), fx 1 (PortState.toCode new), fx 1 (PortCause.toCode cause), fx 1 score,
   fx 1 entries, fx 8 dating]

/-- PORT notice of a first-fault capture (R96); the byte offset takes one byte (notes/assumptions/24.md). -/
def captureNotice (p : PortIx) (state : PortState) (c : Capture) : List Fld :=
  [fx 1 p.val, fx 1 (PortState.toCode state), fx 1 (PortState.toCode state), fx 1 captureCauseCode,
   fx 1 (FaultKind.toCode c.kind), fx 1 c.offset, fx 8 c.dating]

/-- TICK notice (R176); the second number takes the 6 bytes of a label (notes/assumptions/24.md), and the notices-lost
count stands at the front of the payload alone (notes/assumptions/50.md). -/
def tickNotice (b : Boundary) (trace : TraceState) (bound : Option Nat) : List Fld :=
  [fx 6 b.second, fx 8 b.dating, fx 1 (TraceState.toCode trace), fo 4 bound]

/-- STARTUP notice (R182). -/
def startupNotice (cause : ResetCause) (epoch : Nat) (exhausted : Bool) (status : SettingsStatus) (serial : BitVec 32) :
    List Fld :=
  [fx 1 (ResetCause.toCode cause), fx 2 epoch, fx 1 (boolCode exhausted), fx 1 (SettingsStatus.toCode status),
   fx 4 serial.toNat]

/-- The loss tally in the order of Table 8-3. -/
def tallyFields (t : Tally) : List Fld :=
  [fx 4 t.stamps, fx 4 t.others, fo 8 (t.span.map LostSpan.first), fo 8 (t.span.map LostSpan.last)]

/-! ## Journal figures -/

/-- Size of the record pool in bytes (8.2). -/
def poolSize : Nat := 32768

/-- Free space of the pool (8.2). -/
def Journal.free (j : Journal) : Nat := poolSize - j.used

/-- Journal number of the oldest record held, 0 when the pool is empty (R150). -/
def Journal.oldest (j : Journal) : Nat :=
  match j.pool with
  | [] => 0
  | r :: _ => r.number

/-- The newest journal number issued (R141). -/
def Journal.newest (j : Journal) : Nat :=
  match j.next with
  | some n => n - 1
  | none => max32

/-- JOURNAL notice (R158). The kind and the sequence hold a value for a LOSS alone, and stand in every JOURNAL notice as
optional fields with a mark each (notes/assumptions/44.md); used bytes and free space take 4 bytes each
(notes/assumptions/24.md). -/
def journalNotice (cause : JournalCause) (j : Journal) (dating : Nat) (lost : Option RecordKind) (seq : Option Nat) :
    List Fld :=
  [fx 1 (JournalCause.toCode cause), fx 4 j.used, fx 4 j.free, fx 4 j.pool.length, fx 4 j.oldest, fx 4 j.newest] ++
    tallyFields j.tally ++ [fx 8 dating, fo 1 (lost.map RecordKind.toCode), fo 8 seq]

/-! ## Status replies (R188) -/

/-- A SERVO record (Table 11-4). -/
def servoFields (x : Servo) : List Fld := [fx 2 x.gp, fx 2 x.gi, fx 4 x.threshold]

/-- A TRACE record (Table 11-4). -/
def traceFields (x : Trace) : List Fld := [fx 2 x.growth, fx 4 x.advisory, fx 4 x.limit, fx 2 x.interval]

/-- A slot of the settings table: the active record and the pending one (R14). -/
def slotFields {α : Type} (fields : α → List Fld) (x : Slot α) : List Fld :=
  fields x.active ++ fcomp x.active fields x.pending

/-- TB's values of STATUS_CLOCK (R14); the held-span depth and INC take 8 bytes each (notes/assumptions/24.md). -/
def timeBaseFields (tb : TimeBase) : List Fld :=
  [fx 8 tb.raw, fx 8 tb.dating, fx 8 tb.hwm, fx 1 (boolCode (decide (tb.raw < tb.hwm))), fx 8 (tb.hwm - tb.raw),
   fs 4 tb.rate, fx 8 tb.inc, fs 1 tb.utcOffset, fx 1 4] ++
  slotFields servoFields tb.servo ++ slotFields traceFields tb.trace ++
  slotFields (fun d => [fs 4 d]) tb.delayA ++ slotFields (fun d => [fs 4 d]) tb.delayB

/-- The anchor (R60). -/
def anchorFields (a : Anchor) : List Fld :=
  [fx 4 a.bound, fx 8 a.instant, fx 1 (AnchorSource.toCode a.source), fx 1 (boolCode a.qualified)]

/-- An assisted anchor (R60, R79). -/
def assistedFields (a : Assisted) : List Fld := [fx 4 a.bound, fx 8 a.instant]

/-- The statistics of Table 3-5. -/
def statisticsFields (x : Statistics) : List Fld :=
  [fx 4 x.completed, fx 4 x.bad, fx 4 x.corrected, fx 4 x.used, fso 8 x.minE, fso 8 x.maxE, fs 8 x.sumE,
   fo 4 x.minTicks, fo 4 x.maxTicks]

/-- DU's values of STATUS_CLOCK (R60); the number of records waiting takes one byte (notes/assumptions/24.md). -/
def disciplineFields (du : Discipline) : List Fld :=
  [fx 1 (Mode.toCode du.mode), fx 1 (refCode du.selection), fx 1 (Ref.toCode du.preferred), fs 4 du.integral,
   fs 4 du.rate] ++
  fcomp ⟨0, 0, .ref, false⟩ anchorFields du.anchor ++ fcomp ⟨0, 0⟩ assistedFields du.assisted ++
  [fo 4 du.bound, fx 1 (TraceState.toCode du.trace), fx 1 (boolCode du.contested)] ++
  fcomp ⟨false, .a⟩ (fun l : DuLeap => [fx 1 (boolCode l.sign), fx 1 (Ref.toCode l.ref)]) du.leap ++
  [fx 1 (boolCode du.staleA), fx 1 (boolCode du.staleB), fx 4 du.boundaryCount] ++ statisticsFields du.stats ++
  [fx 1 du.records.length]

/-- Reference monitor counters in the order of Table 2-5. -/
def refCounterFields (c : RefCounters) : List Fld :=
  [c.edges, c.messages, c.discarded, c.orphans, c.completed, c.good, c.bad.check, c.bad.format, c.bad.code,
   c.bad.quality, c.bad.label, c.bad.uncertain, c.bad.frequency, c.bad.jump, c.bad.offset, c.bad.noLabel,
   c.bad.missing, c.corrected, c.stateChanges].map (fx 4)

/-- A monitor's values of STATUS_REF (R36); the fault score, the recovery run and the leap countdown take one byte each
(notes/assumptions/24.md), and whether a mark is pending is shown by the mark of that composite alone
(notes/assumptions/25.md). -/
def monitorFields (m : Monitor) : List Fld :=
  [fx 1 (QualState.toCode m.state), fx 1 m.score, fx 4 m.goodRun, fx 1 m.recoveryRun, fx 4 m.ceiling] ++
  fcomp ⟨0, none, .notChecked⟩ (fun p : PendingMark => [fx 8 p.raw, fo 4 p.ticks]) m.pendingMark ++
  [fo 4 m.lastTicks, fo 6 m.lastLabel, fso 1 m.adopted] ++
  fcomp ⟨false, 0⟩ (fun l : LeapMemory => [fx 1 (boolCode l.sign), fx 1 l.countdown]) m.leap ++
  refCounterFields m.counters

/-- Outcome of a probe in one byte: OUTSTANDING 1, VALID 2, INVALID 3 (notes/assumptions/26.md). -/
def probeOutcomeCode : ProbeOutcome → Nat
  | .outstanding => 1
  | .valid .. => 2
  | .invalid _ => 3

/-- An entry of the probe table (R79); the reason of an INVALID probe stands after the outcome as an optional field
(notes/assumptions/25.md). -/
def probeFields (p : Probe) : List Fld :=
  let theta : Option Int := match p.outcome with | .valid _ _ _ th _ => some th | _ => none
  let delay : Option Int := match p.outcome with | .valid _ _ _ _ d => some d | _ => none
  let reason : Option Nat := match p.outcome with | .invalid r => some (ProbeReason.toCode r) | _ => none
  [fx 2 p.number, fx 1 (probeOutcomeCode p.outcome), fo 1 reason, fso 8 theta, fso 8 delay]

/-- Twin counters in the order of Table 4-4. -/
def twinCounterFields (c : TwinCounters) : List Fld :=
  [c.received, c.badFrames, c.discarded, c.ignored, c.transmitDrops, c.offersSent, c.offerTimeouts, c.attachments,
   c.detachments, c.probesSent, c.probesValid, c.invalidTimeout, c.invalidNumber, c.invalidStep, c.invalidOrder,
   c.lateEchoes, c.echoesSent, c.echoesWithheld, c.checksFailed, c.statusReceived, c.statusMismatches].map (fx 4)

/-- The status age in whole seconds of oscillator time (R75). -/
def TwinLink.statusAge (x : TwinLink) (tick : Nat) : Nat := sat32 ((tick - x.statusTick) / ticksPerSecond)

/-- The time remaining, in ns, on whichever of the offer, retry and check timers runs (R79). -/
def TwinLink.remaining (x : TwinLink) (tick : Nat) : Option Nat :=
  match x.offerTimer, x.retryTimer, x.checkTimer with
  | some d, _, _ => some ((d - tick) * 8)
  | none, some d, _ => some ((d - tick) * 8)
  | none, none, some d => some ((d - tick) * 8)
  | none, none, none => none

/-- TLU's values of STATUS_TWIN (R79); the time remaining on a timer takes 8 bytes, the status age 4 and P 1
(notes/assumptions/24.md), and the fault has the code of its TWIN cause (notes/assumptions/26.md). The age stands last in
the composite of the recorded status, and whether an anchor is held out is shown by the mark of its composite alone
(notes/assumptions/25.md). -/
def twinFields (x : TwinLink) (tick : Nat) : List Fld :=
  [fx 1 (TwinState.toCode x.state), fo 1 (x.fault.map TwinFault.toCode)] ++
  fcomp ⟨0, 0, 0⟩ (fun i : TwinIdentity => [fx 2 i.venue, fx 4 i.serial, fx 2 i.epoch]) x.identity ++
  [fx 1 x.probes.length] ++ x.probes.flatMap probeFields ++ [fx 4 x.failures] ++
  [fso 8 (x.measured.map Measured.theta), fso 8 (x.measured.map Measured.delay), fso 8 x.agreed] ++
  fcomp ⟨.unset, none, .unset, none, 0⟩ (fun st : TwinStatus =>
    [fx 1 (TraceState.toCode st.trace), fo 4 st.bound, fx 1 (Mode.toCode st.mode), fx 1 (refCode st.selected),
     fx 2 st.epoch, fx 4 (x.statusAge tick)]) x.status ++
  fcomp ⟨0, 0⟩ assistedFields x.heldOut ++
  [fx 4 x.limit, fx 4 x.allowance, fx 1 x.period, fx 2 x.venue, fx 1 (boolCode x.startAtReset),
   fo 8 (x.remaining tick)] ++ twinCounterFields x.counters

/-- The refusal status of the oldest REFUSING entry of a request queue, which STATUS_PORT reports where the entries hold
different ones (notes/assumptions/45.md). -/
def firstRefusal (requests : List StampRequest) : Option DoorStatus :=
  requests.findSome? fun q => match q.status with | .refusing st => some st | .waiting => none

/-- Number of REFUSING entries of a request queue. -/
def refusingCount (requests : List StampRequest) : Nat :=
  (requests.filter fun q => decide (q.status ≠ .waiting)).length

/-- Stamp port counters in the order of Table 5-4. -/
def portCounterFields (c : PortCounters) : List Fld :=
  [c.discarded, c.good, c.badCheck, c.badKind, c.badLength, c.badField, c.queued, c.granted, c.queueFull, c.portClosed,
   c.portFaulted, c.dropped, c.sent].map (fx 4)

/-- A port's values of STATUS_PORT (R97); the fault score, the numbers of entries and replies and the byte offset of the
capture take one byte each (notes/assumptions/24.md), and the refusal status is absent without a REFUSING entry
(notes/assumptions/45.md). -/
def portFields (x : Port) : List Fld :=
  [fx 1 (PortState.toCode x.state), fx 1 x.score, fx 1 x.requests.length, fx 1 (refusingCount x.requests),
   fo 1 ((firstRefusal x.requests).map DoorStatus.toCode), fx 1 x.replies.length, fx 1 (boolCode x.tx.isSome),
   fo 8 (x.requests.head?.map StampRequest.arrival)] ++
  fcomp ⟨.check, 0, 0, .closed, 0⟩ (fun c : Capture =>
    [fx 1 (FaultKind.toCode c.kind), fx 1 c.offset, fx 8 c.dating, fx 1 (PortState.toCode c.state), fx 4 c.later])
    x.capture ++
  portCounterFields x.counters

/-- An entry of the extension list; its draw, of 4 bytes (notes/assumptions/24.md), only when revealed (R136). -/
def extensionFields (revealed : Bool) (e : Extension) : List Fld :=
  [fx 1 (ExtKind.toCode e.kind), fx 8 e.time, fx 8 e.tMin, fo 4 (if revealed then some e.draw else none)]

/-- Whether the draws of a group's auction of a given number are revealed (R118). -/
def Group.isRevealed (x : Group) (number : Nat) : Bool := decide (number ≤ x.revealed)

/-- GS's values of STATUS_GROUP (R136); a draw takes 4 bytes, and the number of the group's records waiting one
(notes/assumptions/24.md). -/
def groupFields (x : Group) (effective : EffPhase) (waiting listLength : Nat) : List Fld :=
  let revealed := x.isRevealed x.number
  [fx 1 (Phase.toCode x.phase), fx 1 (EffPhase.toCode effective), fx 2 x.number, fx 2 x.revealed, fo 8 x.tc,
   fo 8 x.tMin, fo 2 x.window, fo 4 (if revealed then x.draw else none), fo 8 (if revealed then x.tEnd else none),
   fx 1 x.extensions.length] ++ x.extensions.flatMap (extensionFields revealed) ++
  [fx 4 x.accepted, fo 8 x.lastSeq, fo 1 (x.cause.map AuctionCause.toCode),
   fo 1 (x.closeQuality.map TraceState.toCode), fx 1 waiting, fx 1 listLength]

/-- A selector with its mode byte elsewhere (Table 11-4). -/
def selectorFields (x : Selector) : List Fld := [fx 1 (boolCode x.on), fx 2 x.code, fx 2 x.mask]

/-- SA's values of STATUS_JOURNAL (R112); the conservation, internal-grant and floored-grant counts, 64-bit counts of
Table 6-1, take 8 bytes each (notes/assumptions/24.md). -/
def allocatorFields (sa : Allocator) (epoch : Nat) : List Fld :=
  [fx 8 sa.seq, fx 2 epoch, fx 1 (boolCode sa.exhausted), fx 1 sa.rotation.val, fx 8 sa.granted, fx 8 sa.recorded,
   fx 8 sa.notSelected, fx 8 sa.lost, fx 8 sa.duGrants, fx 8 sa.gsGrants, fx 8 sa.cluGrants, fx 8 sa.floored]

/-- AJ's values of STATUS_JOURNAL (R159); used bytes and free space take 4 bytes each (notes/assumptions/24.md). -/
def journalFields (j : Journal) : List Fld :=
  [fx 4 j.used, fx 4 j.free, fx 4 j.pool.length, fx 4 j.oldest, fx 4 j.newest, fx 1 (boolCode j.next.isNone),
   fx 4 j.chain.toNat] ++ tallyFields j.tally ++ [fx 1 (SelectorMode.toCode j.selectors.mode)] ++
  selectorFields j.selectors.first ++ selectorFields j.selectors.second ++
  [fx 1 (LevelState.toCode j.level50), fx 1 (LevelState.toCode j.level75)] ++
  ([j.stored.stamp, j.stored.clock, j.stored.auction, j.stored.evidence, j.stored.marker, j.stored.admin, j.stored.gap,
    j.lost.stamp, j.lost.clock, j.lost.auction, j.lost.evidence, j.lost.marker, j.lost.admin,
    j.notSelected, j.gapWritten, j.gapDeferred, j.readsServed, j.released].map (fx 4))

/-- The seven notice enables (11.2). -/
def enableFields (e : Enables) : List Fld :=
  [e.clock, e.ref, e.twin, e.group, e.journal, e.port, e.startup].map fun b => fx 1 (boolCode b)

/-- Control Link Unit counters in the order of Table 9-5. -/
def controlCounterFields (c : ControlCounters) : List Fld :=
  [c.discarded, c.badLength, c.badCheck, c.received, c.refusedBusy, c.busyDropped, c.unknownKind, c.badRequestLength,
   c.served, c.repliesSent, c.noticesSent].map (fx 4)

/-- CLU's values of IDENTIFY (R172, R188); the lengths of its queue and lists take one byte each
(notes/assumptions/24.md). -/
def identifyFields (s : State) : List Fld :=
  [fx 2 0x2E, fx 2 0x7416, fx 2 0x01, fx 4 s.serial.toNat, fx 2 s.tlu.venue, fx 2 s.epoch,
   fx 1 (boolCode s.sa.exhausted), fx 1 (ResetCause.toCode s.cause)] ++ enableFields s.clu.enables ++
  [fx 1 (TickMode.toCode s.clu.tick), fx 1 s.clu.queue.length, fx 1 s.clu.replies.length, fx 1 s.clu.notices.length,
   fx 4 s.clu.noticesLost] ++ controlCounterFields s.clu.counters

/-- The TWIN_CONFIG payload of the values in force (Table 11-4); its reply takes the same widths, P's byte included
(notes/assumptions/24.md). -/
def twinConfigFields (x : TwinLink) : List Fld :=
  [fx 4 x.limit, fx 4 x.allowance, fx 1 x.period, fx 2 x.venue, fx 1 (boolCode x.startAtReset)]

/-- The SELECT_CONFIG payload of selectors (Table 11-4). -/
def selectorsFields (x : Selectors) : List Fld :=
  [fx 1 (SelectorMode.toCode x.mode)] ++ selectorFields x.first ++ selectorFields x.second

/-! ## Stored profile (11.6) -/

/-- A monitor's part of the profile: enable, ceiling and cable delay. -/
def monitorProfile (m : Monitor) (delay : Int) : List Byte :=
  leBytes 1 (boolCode (decide (m.state ≠ .disabled))) ++ leBytes 4 m.ceiling ++ leSigned 4 delay

/-- The 69 bytes of fields that SETTINGS_SAVE gathers (R183). -/
def gatherProfile (s : State) : List Byte :=
  fieldBytes (servoFields s.tb.servo.active) ++ fieldBytes (traceFields s.tb.trace.active) ++
    monitorProfile s.monA s.tb.delayA.active ++ monitorProfile s.monB s.tb.delayB.active ++
    leBytes 1 (Ref.toCode s.du.preferred) ++ fieldBytes (twinConfigFields s.tlu) ++
    fieldBytes (selectorsFields s.aj.selectors) ++ fieldBytes (enableFields s.clu.enables)

/-- A profile closed by its check word (10.1, 11.6). -/
def closeProfile (fields : List Byte) : List Byte := fields ++ leBytes 4 (crc32 fields).toNat

/-- Whether a stored profile passes its check (R181). -/
def profileCheck (stored : List Byte) : Bool :=
  decide (field stored 69 4 = (crc32 (stored.take 69)).toNat)

end Sys2Proof.Machine
end

