-- ==== Sys2Proof/Machine/Journal.lean ====
section
/-! DEFINITION. The raising of notices (9.6) and the Audit Journal's operations (chapter 8): the store decision, storing,
losing, releasing and reading. -/

namespace Sys2Proof.Machine

/-! ## Notices (R174) -/

/-- Whether the enable of a class lets its notices be formed; TICK is governed by the TICK mode (R174, R176). -/
def Enables.admits (e : Enables) : NoticeClass → Bool
  | .clock => e.clock
  | .ref => e.ref
  | .twin => e.twin
  | .group => e.group
  | .journal => e.journal
  | .port => e.port
  | .startup => e.startup
  | .tick => true

/-- Most frames the notice list holds (Table 9-1). -/
def noticeListMax : Nat := 16

/-- R174: a raised notice is formed with the notices-lost count as it stands, dropped when the list is full, or not
formed when its class is off. -/
def Control.notice (c : Control) (cls : NoticeClass) (fields : List Fld) : Control :=
  if c.enables.admits cls then
    if c.notices.length < noticeListMax then
      { c with notices := c.notices ++ [⟨cls.kindByte, 0#16, leBytes 4 c.noticesLost ++ layout fields⟩] }
    else { c with noticesLost := bump c.noticesLost }
  else c

/-- A notice raised by a block (R174). -/
def State.notice (s : State) (cls : NoticeClass) (fields : List Fld) : State :=
  { s with clu := s.clu.notice cls fields }

/-! ## Storing and losing (R143 to R145, R157) -/

def StoredCounts.raise (c : StoredCounts) : RecordKind → StoredCounts
  | .stamp => { c with stamp := bump c.stamp }
  | .clock => { c with clock := bump c.clock }
  | .auction => { c with auction := bump c.auction }
  | .evidence => { c with evidence := bump c.evidence }
  | .marker => { c with marker := bump c.marker }
  | .admin => { c with admin := bump c.admin }
  | .gap => { c with gap := bump c.gap }

/-- GAP records are never lost (R155), and have no counter. -/
def LostCounts.raise (c : LostCounts) : RecordKind → LostCounts
  | .stamp => { c with stamp := bump c.stamp }
  | .clock => { c with clock := bump c.clock }
  | .auction => { c with auction := bump c.auction }
  | .evidence => { c with evidence := bump c.evidence }
  | .marker => { c with marker := bump c.marker }
  | .admin => { c with admin := bump c.admin }
  | .gap => c

/-- What AJ answers a submission (R140). -/
inductive StoreOutcome where
  | recorded (number : Nat)
  | notSelected
  | lost
  deriving DecidableEq, Repr

/-- The journal status of an outcome (R106). -/
def StoreOutcome.status : StoreOutcome → JournalStatus
  | .recorded _ => .recorded
  | .notSelected => .notSelected
  | .lost => .lost

/-- The next journal number after `n` is issued; 4,294,967,295 leaves it exhausted (R142). -/
def nextNumber (n : Nat) : Option Nat := if n < max32 then some (n + 1) else none

/-- R144, steps 1 to 3: the record takes number `n`, is chained and joins the pool. -/
def Journal.place (j : Journal) (n : Nat) (b : Body) : Journal :=
  let chain := chainWord n j.chain b
  { j with
    pool := j.pool ++ [⟨n, chain, b⟩]
    used := j.used + b.size
    next := nextNumber n
    chain := chain
    stored := j.stored.raise b.kind }

/-- Firing levels of the two level notices (R157). -/
def fireLevel50 : Nat := 16384
def fireLevel75 : Nat := 24576
/-- Re-arming levels of the two level notices (R157). -/
def rearmLevel50 : Nat := 13107
def rearmLevel75 : Nat := 21299

/-- Whether a store that took the used bytes from `before` to `after` fires an ARMED notice of a level (R157). -/
def fires (st : LevelState) (level before after : Nat) : Bool :=
  decide (st = .armed) && decide (before < level) && decide (level ≤ after)

/-- The state of a level notice after a store (R157). -/
def levelAfterStore (st : LevelState) (level before after : Nat) : LevelState :=
  if fires st level before after then .fired else st

/-- R157 at a store: an ARMED notice whose level was crossed becomes FIRED. -/
def Journal.fireLevels (j : Journal) (before : Nat) : Journal :=
  { j with
    level50 := levelAfterStore j.level50 fireLevel50 before j.used
    level75 := levelAfterStore j.level75 fireLevel75 before j.used }

/-- The JOURNAL notices of a store: one for each level fired (R157, R158). -/
def Control.levelNotices (c : Control) (old new : Journal) (dating : Nat) : Control :=
  let c1 := if old.level50 ≠ new.level50 then c.notice .journal (journalNotice .level50 new dating none none) else c
  if old.level75 ≠ new.level75 then c1.notice .journal (journalNotice .level75 new dating none none) else c1

/-- R144: storing a record under number `n`. -/
def State.store (s : State) (n : Nat) (b : Body) : State :=
  let j := (s.aj.place n b).fireLevels s.aj.used
  { s with aj := j, clu := s.clu.levelNotices s.aj j s.dating }

/-- The sequence span after the loss of a record (R145, step 2). -/
def spanAfterLoss (span : Option LostSpan) (seq : Option Nat) : Option LostSpan :=
  match seq, span with
  | none, x => x
  | some q, none => some ⟨q, q⟩
  | some q, some x => some ⟨x.first, q⟩

/-- The loss tally after the loss of a record (R145, steps 1 and 2). -/
def Tally.lose (t : Tally) (kind : RecordKind) (seq : Option Nat) : Tally where
  stamps := if kind = .stamp then bump t.stamps else t.stamps
  others := if kind = .stamp then t.others else bump t.others
  span := spanAfterLoss t.span seq

/-- Whether both counts of the tally are 0 (R145, R154). -/
def Tally.isZero (t : Tally) : Bool := decide (t.stamps = 0) && decide (t.others = 0)

/-- R145: losing a record of a kind, with its sequence number if it carries one. -/
def State.lose (s : State) (kind : RecordKind) (seq : Option Nat) : State :=
  let j := { s.aj with tally := s.aj.tally.lose kind seq, lost := s.aj.lost.raise kind }
  { s with
    aj := j
    clu := if s.aj.tally.isZero then s.clu.notice .journal (journalNotice .loss j s.dating (some kind) seq) else s.clu }

/-! ## The store decision (R143, R146, R147) -/

/-- Whether a selector that is on agrees with a key wherever its mask holds a one (R146). -/
def Selector.hits (x : Selector) (key : Nat) : Bool :=
  x.on && decide (Nat.land (Nat.xor key x.code) x.mask = 0)

/-- Whether the selectors in force offer a key (R147). -/
def Selectors.offers (x : Selectors) (key : Nat) : Bool :=
  match x.mode with
  | .single => x.first.hits key
  | .dual => x.first.hits key || x.second.hits key

/-- Whether the selectors apply to a stamp: ACCEPTED with phase tag CONTINUOUS or ABANDONED (R147). -/
def StampRecord.selectable (r : StampRecord) : Bool :=
  !r.late && (decide (r.phase = .continuous) || decide (r.phase = .abandoned))

/-- R143, step 1: whether the selectors pass a record over. -/
def Journal.passesOver (j : Journal) : Body → Bool
  | .stamp _ _ r => r.selectable && !j.selectors.offers (selectionKey r)
  | _ => false

/-- R143, step 2: Equation 1. -/
def Journal.fits (j : Journal) (b : Body) : Bool := decide (b.kind.tier + b.size ≤ j.free)

/-- What AJ decides about a record (R143). -/
def Journal.decision (j : Journal) (b : Body) : StoreOutcome :=
  if j.passesOver b then .notSelected
  else
    match j.next with
    | some n => if j.fits b then .recorded n else .lost
    | none => .lost

/-- R143: a record submitted to AJ, and what comes of it. -/
def State.submit (s : State) (b : Body) : State :=
  match s.aj.decision b with
  | .recorded n => s.store n b
  | .notSelected => { s with aj := { s.aj with notSelected := bump s.aj.notSelected } }
  | .lost => s.lose b.kind b.seq

/-- An ADMIN record: AJ dates it by a plain read (R140). -/
def State.admin (s : State) (e : AdminEvent) : State := s.submit (.admin s.dating e)

/-! ## Release and GAP records (R154, R155, R157) -/

/-- The state of a level notice after a release (R157). -/
def levelAfterRelease (st : LevelState) (level used : Nat) : LevelState := if used ≤ level then .armed else st

/-- Records released by a release of number `n`: those at the front at or below it (R154). -/
def Journal.releasedBy (j : Journal) (n : Nat) : List Record := j.pool.takeWhile fun r => decide (r.number ≤ n)

/-- Sum of the lengths of records. -/
def totalSize (records : List Record) : Nat := (records.map fun r => r.body.size).sum

/-- R154: removal of the held records at or below `n`, and re-arming of the level notices. -/
def Journal.release (j : Journal) (n : Nat) : Journal :=
  let gone := j.releasedBy n
  let used := j.used - totalSize gone
  { j with
    pool := j.pool.dropWhile fun r => decide (r.number ≤ n)
    used := used
    level50 := levelAfterRelease j.level50 rearmLevel50 used
    level75 := levelAfterRelease j.level75 rearmLevel75 used
    released := sat32 (j.released + gone.length) }

/-- The GAP step of a release (R154, R155). -/
inductive GapStep where
  | nothing
  | written (number : Nat)
  | deferred
  deriving DecidableEq, Repr

/-- What the GAP step of a release does (R155). -/
def Journal.gapStep (j : Journal) : GapStep :=
  if j.tally.isZero then .nothing
  else
    match j.next with
    | some n => if j.fits (.gap j.tally) then .written n else .deferred
    | none => .deferred

/-- R155: a GAP record stored clears the tally; one that does not fit is deferred with a notice. -/
def State.gap (s : State) : State :=
  match s.aj.gapStep with
  | .nothing => s
  | .written n =>
    let s1 := s.store n (.gap s.aj.tally)
    { s1 with aj := { s1.aj with tally := {}, gapWritten := bump s1.aj.gapWritten } }
  | .deferred =>
    let j := { s.aj with gapDeferred := bump s.aj.gapDeferred }
    { s with aj := j, clu := s.clu.notice .journal (journalNotice .gapDeferred j s.dating none none) }

/-! ## Reading (R150 to R152) -/

/-- Room for records in a read reply: the payload less the read head (R151). -/
def readRoom : Nat := 1012

/-- Records from the front of a list while the count and the room last (R151). -/
def takeFitting : Nat → Nat → List Record → List Record
  | 0, _, _ => []
  | _, _, [] => []
  | count + 1, room, r :: rs =>
    if r.body.size ≤ room then r :: takeFitting count (room - r.body.size) rs else []

/-- The records a read of `start` with a count returns (R151). -/
def Journal.readFrom (j : Journal) (start count : Nat) : List Record :=
  takeFitting count readRoom (j.pool.dropWhile fun r => decide (r.number < start))

/-- R152: whether AJ withholds the draw of a record: an AUCTION record other than CLOSE and ABANDON whose draws the
group's revealed-through number does not cover. -/
def withholds (groups : Vector Group 16) : Body → Bool
  | .auction _ _ r =>
    match r.step with
    | .close | .abandon => false
    | .armed | .callStart | .windowStart | .extend | .suspend | .resume => !(groups[r.group]).isRevealed r.number
  | _ => false

/-- The copy of a record placed in a read reply (R152). -/
def Record.readCopy (groups : Vector Group 16) (r : Record) : List Byte :=
  recordBytes r.number r.chain (withholds groups r.body) r.body

end Sys2Proof.Machine
end

