-- ==== Sys2Proof/Machine/Request.lean ====
section
/-! DEFINITION. The taking of control requests and the placing of their replies (R164 to R166), shared by every request. -/

namespace Sys2Proof.Machine

/-- Most entries the control request queue holds (Table 9-1). -/
def requestQueueMax : Nat := 4

/-- Most frames the reply list holds (Table 9-1). -/
def replyListMax : Nat := 8

/-- The kind byte of a reply: the request's with bit 7 set (11.2). -/
def replyKind (kind : Byte) : Byte := kind ||| 0x80#8

/-- A reply payload: status byte; presence bytes and fields when the request was carried out (R188, 1 and 2). -/
def replyPayload (status : Status) (fields : List Fld) : List Byte :=
  match status with
  | .ok | .okClamped => leBytes 1 (Status.toCode status) ++ layout fields
  | _ => leBytes 1 (Status.toCode status)

/-- OK, or OK_CLAMPED when a value was clamped (R168). -/
def okStatus (clamped : Bool) : Status := if clamped then .okClamped else .ok

/-- What acting on a request gives: the state and the payload of the reply. -/
structure Acted where
  state : State
  payload : List Byte

/-- A request answered with a status and no change (a refusal, or a request that changes nothing). -/
def State.says (s : State) (status : Status) (fields : List Fld := []) : Acted := ⟨s, replyPayload status fields⟩

/-- The front entry of the request queue when CLU can take it now: WAITING, with a free place in the reply list
(R164). -/
def State.takeable (s : State) : Option ControlRequest :=
  match s.clu.queue with
  | [] => none
  | q :: _ => if q.status = .waiting ∧ s.clu.replies.length < replyListMax then some q else none

/-- The takeable request when it is of a given kind and its payload length is allowed (R165). -/
def State.takeableOf (s : State) (kind : Nat) : Option ControlRequest :=
  match s.takeable with
  | some q => if q.kind.toNat = kind ∧ lengthAllowed kind q.payload.length = true then some q else none
  | none => none

/-- The queue with its front entry IN_SERVICE (R164). -/
def serveFront : List ControlRequest → List ControlRequest
  | [] => []
  | q :: qs => { q with status := .inService } :: qs

/-- CLU takes the front entry into service (R164). -/
def State.beginService (s : State) : State := { s with clu := { s.clu with queue := serveFront s.clu.queue } }

/-- A reply placed at the back of the reply list (R166). -/
def State.placeReply (s : State) (q : ControlRequest) (payload : List Byte) : State :=
  { s with clu := { s.clu with replies := s.clu.replies ++ [⟨replyKind q.kind, q.tag, payload⟩] } }

/-- The front entry leaves the queue, its request counted as served, and its reply is placed (R165, Table 9-5). -/
def State.answer (s : State) (q : ControlRequest) (payload : List Byte) : State :=
  State.placeReply
    { s with
      clu :=
        { s.clu with
          queue := s.clu.queue.tail
          counters := { s.clu.counters with served := bump s.clu.counters.served } } }
    q payload

/-- R165: CLU takes a request of `kind`, its owner acts, and the reply is placed. Where no such request can be taken the
event does not occur (notes/assumptions/1.md). -/
def takeRequest (kind : Nat) (act : List Byte → State → Acted) (s : State) : State :=
  match s.takeableOf kind with
  | none => s
  | some q =>
    let r := act q.payload s.beginService
    r.state.answer q r.payload

/-- CONFIG_CHANGE record of an accepted configuration request (R171). -/
def State.configChange (s : State) (kind : Byte) (clamped staged : Bool) (payload : List Byte) : State :=
  s.admin (.configChange kind clamped staged payload)

end Sys2Proof.Machine
end

