-- ==== Sys2Proof/Machine/TimeBase.lean ====
section
/-! DEFINITION. The Time Base (chapter 1): the tick, the increment word, steps, the second boundary, dating reads with
raise, and the staging of settings. -/

namespace Sys2Proof.Machine

/-- 2³² units of the fraction (5.2). -/
def fracUnit : Nat := 4294967296

/-- The whole-second count of raw time (R4). -/
def TimeBase.secondCount (tb : TimeBase) : Nat := tb.raw / nsPerSecond

/-- A change of raw time raises one second boundary when it increases the whole-second count (R4). -/
def TimeBase.raiseBoundary (before after : TimeBase) : TimeBase :=
  if before.secondCount < after.secondCount then
    { after with boundaries := after.boundaries ++ [⟨after.secondCount, after.dating⟩] }
  else after

/-- The counter after one oscillator tick: INC added to the fraction, the carry to the integer part, held at the top
(R1). -/
def TimeBase.advance (tb : TimeBase) : TimeBase :=
  let sum := tb.frac + tb.inc
  if tb.raw + sum / fracUnit ≤ max64 then { tb with raw := tb.raw + sum / fracUnit, frac := sum % fracUnit }
  else { tb with raw := max64, frac := fracUnit - 1 }

/-- R1 with the boundary of R4. -/
def TimeBase.tickOnce (tb : TimeBase) : TimeBase := TimeBase.raiseBoundary tb tb.advance

/-- Δ of Equation 1 of R2, for a clamped rate. -/
def rateDelta (r : Int) : Int := divRound (r * 34359738368) 1000000000000

/-- R2: a rate word presented to TB. -/
def TimeBase.present (tb : TimeBase) (r : Int) : TimeBase :=
  { tb with rate := clampRate r, inc := (34359738368 + rateDelta (clampRate r)).toNat }

/-- A rate word presented to TB by DU (R2). -/
def State.presentRate (s : State) (r : Int) : State := { s with tb := s.tb.present r }

/-- The answer of TB to a step request (R7). -/
inductive StepAnswer where
  | applied (before after : Nat)
  | refused
  deriving DecidableEq, Repr

/-- The raw time a step leads to, held within 64 bits (R7). -/
def stepTarget (raw : Nat) (amount : Int) : Nat := min max64 ((raw : Int) + amount).toNat

/-- TB's answer to a step request: a backward step is refused while a port is open for the clock (R7, R9). -/
def stepAnswer (tb : TimeBase) (portOpen : Bool) (amount : Int) : StepAnswer :=
  if amount < 0 ∧ portOpen = true then .refused else .applied tb.raw (stepTarget tb.raw amount)

/-- The Time Base after an applied step: a backward step first raises the high-water mark to dating time (R9), then raw
time moves (R7), with the boundary of R4 for a forward step. -/
def TimeBase.stepBy (tb : TimeBase) (amount : Int) : TimeBase :=
  TimeBase.raiseBoundary tb
    { tb with
      raw := stepTarget tb.raw amount
      hwm := if amount < 0 then tb.dating else tb.hwm }

/-- What a dating read with raise returns (R11). -/
structure DatingRead where
  t : Nat
  floored : Bool
  deriving DecidableEq, Repr

/-- The dating time and floored indication of a grant's read (R11). -/
def TimeBase.datingRead (tb : TimeBase) : DatingRead := ⟨tb.dating, decide (tb.raw < tb.hwm)⟩

/-- The raise of a grant's read (R11). -/
def TimeBase.raised (tb : TimeBase) : TimeBase := { tb with hwm := tb.dating }

/-- A pending record becomes active (R6). -/
def Slot.activate {α : Type} (x : Slot α) : Slot α :=
  match x.pending with
  | some v => ⟨v, none⟩
  | none => x

/-- A record placed in a slot's pending position, replacing any there (R5). -/
def Slot.stage {α : Type} (x : Slot α) (v : α) : Slot α := { x with pending := some v }

/-- R6: activation of the four slots at a second boundary. -/
def TimeBase.activate (tb : TimeBase) : TimeBase :=
  { tb with
    servo := tb.servo.activate
    trace := tb.trace.activate
    delayA := tb.delayA.activate
    delayB := tb.delayB.activate }

/-- The active cable delay of a reference. -/
def TimeBase.cableDelay (tb : TimeBase) : Ref → Int
  | .a => tb.delayA.active
  | .b => tb.delayB.active

/-- R5 for the DELAY slot of a reference. -/
def TimeBase.stageDelay (tb : TimeBase) (r : Ref) (d : Int) : TimeBase :=
  match r with
  | .a => { tb with delayA := tb.delayA.stage d }
  | .b => { tb with delayB := tb.delayB.stage d }

/-- OSCILLATOR_TICK: TB takes the tick (R1, R4); the tick index on which the timers stand advances by one. -/
def oscillatorTick (s : State) : State := { s with tick := s.tick + 1, tb := s.tb.tickOnce }

def execOscillatorTick (s : State) : Out := live s oscillatorTick

/-- SERVO_CONFIG: clamp, stage, record, reply (R169, R171). -/
def servoConfig (payload : List Byte) (s : State) : Acted :=
  let c := clampServo (field payload 0 2) (field payload 2 2) (field payload 4 4)
  let s1 := { s with tb := { s.tb with servo := s.tb.servo.stage c.value } }
  let s2 := s1.configChange 0x0A#8 c.clamped true (fieldBytes (servoFields c.value))
  s2.says (okStatus c.clamped) (servoFields c.value ++ [fx 1 1])

def execServoConfig (s : State) : Out := live s (takeRequest 0x0A servoConfig)

/-- TRACE_CONFIG: clamp, stage, record, reply (R169, R171). -/
def traceConfig (payload : List Byte) (s : State) : Acted :=
  let c := clampTrace (field payload 0 2) (field payload 2 4) (field payload 6 4) (field payload 10 2)
  let s1 := { s with tb := { s.tb with trace := s.tb.trace.stage c.value } }
  let s2 := s1.configChange 0x0B#8 c.clamped true (fieldBytes (traceFields c.value))
  s2.says (okStatus c.clamped) (traceFields c.value ++ [fx 1 1])

def execTraceConfig (s : State) : Out := live s (takeRequest 0x0B traceConfig)

end Sys2Proof.Machine
end

