-- ==== Sys2Proof/Machine/ClockRecord.lean ====
section
/-! DEFINITION. DU's CLOCK records and notices (3.10) and the contested attribute (3.8), which the Twin Link Unit and the
marks both reach. -/

namespace Sys2Proof.Machine

/-- Most records DU's list holds (R58). -/
def clockListMax : Nat := 32

/-- The CLOCK record DU forms now for an event (R58). -/
def Discipline.form (du : Discipline) (e : ClockEvent) : ClockRecord := ⟨e, du.mode, du.bound⟩

/-- R58 and R59: DU forms a CLOCK record at the back of its list, or submits it as lost when the list is full, and raises
a CLOCK notice carrying the dating time at which the event occurred, after the JOURNAL notice of a loss
(notes/assumptions/48.md). -/
def State.clockRecordAt (s : State) (e : ClockEvent) (dating : Nat) : State :=
  let r := s.du.form e
  let s1 :=
    if s.du.records.length < clockListMax then { s with du := { s.du with records := s.du.records ++ [r] } }
    else s.lose .clock none
  s1.notice .clock (clockNotice r s.du.trace dating)

/-- A CLOCK record of an event that occurs now. -/
def State.clockRecord (s : State) (e : ClockEvent) : State := s.clockRecordAt e s.dating

/-- R55: TLU has entered DISAGREE. -/
def State.contest (s : State) (theta : Int) (limit : Nat) : State :=
  if s.du.contested then s
  else State.clockRecord { s with du := { s.du with contested := true } } (.contestedSet theta limit)

/-- R55: TLU has reached AGREED, or the host has stopped the cross-check. -/
def State.uncontest (s : State) (cause : ContestCause) (theta : Option Int) : State :=
  if s.du.contested then
    State.clockRecord { s with du := { s.du with contested := false } } (.contestedClear cause theta)
  else s

/-- DU's view as a twin STATUS frame carries it (R75). -/
def State.ownStatus (s : State) : TwinStatus := ⟨s.du.trace, s.du.bound, s.du.mode, s.du.selection, s.epoch⟩

end Sys2Proof.Machine
end

