-- ==== Sys2Proof/Machine/Twin.lean ====
section
/-! DEFINITION. The Twin Link Unit (chapter 4): frames, attachment, probes and measurements, echoes, checks, status and
the assisted anchor, and its requests. -/

namespace Sys2Proof.Machine

/-! ## Timers and lists -/

/-- Whether a timer, kept as a deadline on the tick index, has run out (4.2.1, 2.1.2). -/
def due (deadline : Option Nat) (tick : Nat) : Bool :=
  match deadline with
  | some d => decide (d ≤ tick)
  | none => false

def offerTicks : Nat := 250000000
def retryTicks : Nat := 1000000000
def spacingTicks : Nat := 31250000
def probeTicks : Nat := 12500000

/-- Most frames the twin transmit list holds (R64). -/
def twinListMax : Nat := 8

/-- The state with TLU replaced. -/
def State.setTlu (s : State) (x : TwinLink) : State := { s with tlu := x }

/-- Whether an attachment stands (4.1.2). -/
def TwinState.attached : TwinState → Bool
  | .measuring | .agreed | .disagree => true
  | .off | .detached | .offering => false

/-- R64: a frame formed joins the transmit list, or is dropped when 8 wait. -/
def TwinLink.form (x : TwinLink) (f : TwinFrame) : TwinLink :=
  if x.transmit.length < twinListMax then { x with transmit := x.transmit ++ [f] }
  else { x with counters := { x.counters with transmitDrops := bump x.counters.transmitDrops } }

/-- R64 at the level of the part. -/
def State.formTwin (s : State) (f : TwinFrame) : State := s.setTlu (s.tlu.form f)

/-- Whether a waiting frame is an ECHO (R73). -/
def TwinFrame.isEcho : TwinFrame → Bool
  | .echo .. => true
  | _ => false

/-- This part's identity as OFFER and ACCEPT carry it (R65, R66). -/
def State.ownIdentity (s : State) : TwinIdentity := ⟨s.tlu.venue, s.serial.toNat, s.epoch⟩

/-- TWIN notice of an event that left `old` (R77). -/
def State.twinNotice (s : State) (old : TwinState) (cause : TwinCause) (ev : Option Evaluation) : State :=
  s.notice .twin (Machine.twinNotice old s.tlu.state cause ev s.tlu.heldOut.isSome s.dating)

/-- A notice when the state has changed (R77). -/
def State.twinChanged (s : State) (old : TwinState) (cause : TwinCause) (ev : Option Evaluation) : State :=
  if s.tlu.state = old then s else s.twinNotice old cause ev

/-- A frame its state gives no use for (R63). -/
def State.twinIgnored (s : State) : State :=
  s.setTlu { s.tlu with counters := { s.tlu.counters with ignored := bump s.tlu.counters.ignored } }

/-! ## Assisted anchor (R76, R52) -/

/-- R76: an anchor held out is withdrawn, and DU's becomes absent (R52). -/
def State.withdrawAnchor (s : State) : State :=
  if s.tlu.heldOut.isSome then
    { s with tlu := { s.tlu with heldOut := none }, du := { s.du with assisted := none } }
  else s

/-- The twin B of Equation 3; a free value when the status carries none (notes/assumptions/9.md). -/
def twinBound (st : TwinStatus) (tick : Nat) : Nat :=
  match st.bound with
  | some b => b
  | none => (Config.absentTwinBound tick).toNat

/-- R76, Equation 3. -/
def assistedBound (twinB : Nat) (theta : Int) (allowance : Nat) : Nat := sat32 (twinB + theta.natAbs + allowance + 16)

/-- Whether the offer conditions of R76 hold, and with which status. -/
def State.offerStatus (s : State) : Option TwinStatus :=
  match s.tlu.status with
  | some st =>
    if s.tlu.state = .agreed ∧ st.trace = .traceable ∧ s.tlu.statusAge s.tick ≤ 2 * s.tlu.period then some st else none
  | none => none

/-- R76 at a successful evaluation: an assisted anchor is offered, or one held out is withdrawn. -/
def State.offerAnchor (s : State) (theta : Int) : State :=
  match s.offerStatus with
  | some st =>
    let a : Assisted := ⟨assistedBound (twinBound st s.tick) theta s.tlu.allowance, s.dating⟩
    { s with tlu := { s.tlu with heldOut := some a }, du := { s.du with assisted := some a } }
  | none => s.withdrawAnchor

/-! ## Probes (R70 to R72) -/

/-- Probes of the cycle in progress: 8 in a measurement, 4 in a check (4.4). -/
def TwinState.cycleLength : TwinState → Nat
  | .measuring => 8
  | _ => 4

/-- The probe number after `n`: 65,535 is followed by 1 (R70). -/
def nextProbeNumber (n : Nat) : Nat := if n < 65535 then n + 1 else 1

/-- R70: TLU forms the next PROBE of the cycle; the spacing timer runs while the cycle has another to form (R72). -/
def State.formProbe (s : State) : State :=
  let n := s.tlu.nextProbe
  let probes := s.tlu.probes ++ [{ number := n }]
  s.setTlu (TwinLink.form
    { s.tlu with
      probes := probes
      nextProbe := nextProbeNumber n
      probeTimer := some (s.tick + probeTicks)
      spacingTimer := if probes.length < s.tlu.state.cycleLength then some (s.tick + spacingTicks) else none }
    (.probe n))

/-- The outstanding probe of the table. -/
def TwinLink.outstanding (x : TwinLink) : Option Probe := x.probes.find? fun p => decide (p.outcome = .outstanding)

/-- The probe with its outcome when it was outstanding. -/
def Probe.close (o : ProbeOutcome) (p : Probe) : Probe := if p.outcome = .outstanding then { p with outcome := o } else p

/-- Counters of a probe's closing (Table 4-4). -/
def TwinCounters.closed (c : TwinCounters) : ProbeOutcome → TwinCounters
  | .outstanding => c
  | .valid .. => { c with probesValid := bump c.probesValid }
  | .invalid .timeout => { c with invalidTimeout := bump c.invalidTimeout }
  | .invalid .number => { c with invalidNumber := bump c.invalidNumber }
  | .invalid .step => { c with invalidStep := bump c.invalidStep }
  | .invalid .order => { c with invalidOrder := bump c.invalidOrder }

/-- The outstanding probe closes with an outcome (R70). DESIGN CHOICE: its timeout stops, so a PROBE that still waits in
the transmit list is sent all the same; R64 takes it out only when the timeout expires (notes/assumptions/51.md). -/
def TwinLink.closeProbe (x : TwinLink) (o : ProbeOutcome) : TwinLink :=
  { x with
    probes := x.probes.map (Probe.close o)
    probeTimer := none
    counters := x.counters.closed o }

/-- R71, Equation 1. -/
def probeTheta (t1 t2 t3 t4 : Nat) : Int := Int.tdiv (((t2 : Int) - t1) - ((t4 : Int) - t3)) 2

/-- R71, Equation 2. -/
def probeDelay (t1 t2 t3 t4 : Nat) : Int := Int.tdiv (((t4 : Int) - t1) - ((t3 : Int) - t2)) 2

/-- R71: the judgement of a probe closed with its ECHO. -/
def judgeProbe (t1 t2 t3 t4 : Nat) : ProbeOutcome :=
  let delay := fitSigned (probeDelay t1 t2 t3 t4)
  if 0 ≤ delay then .valid t2 t3 t4 (fitSigned (probeTheta t1 t2 t3 t4)) delay else .invalid .order

/-- t1 of a probe; a free value when its PROBE has not left (notes/assumptions/8.md). -/
def Probe.sentAt (p : Probe) : Nat :=
  match p.t1 with
  | some t => t
  | none => (Config.unsentProbeTime p.number).toNat

/-- The VALID probes of the table, in the order they were formed. -/
def TwinLink.validProbes (x : TwinLink) : List Measured :=
  x.probes.filterMap fun p => match p.outcome with | .valid _ _ _ th d => some ⟨th, d⟩ | _ => none

/-- The first of the probes of least delay (R72). -/
def leastDelay : List Measured → Option Measured
  | [] => none
  | m :: ms =>
    match leastDelay ms with
    | none => some m
    | some b => if b.delay < m.delay then some b else some m

/-- The state an evaluation with offset θ leads to (R72). -/
def agreementOf (theta : Int) (limit : Nat) : TwinState := if theta.natAbs ≤ limit then .agreed else .disagree

/-! ## Entry to MEASURING and DETACHED (R69) -/

/-- Entry to MEASURING with the twin's identity (R66, R69). DESIGN CHOICE: the PROBE of a forgotten probe, if it still
waits in the transmit list, is sent all the same (notes/assumptions/51.md). -/
def State.enterMeasuring (s : State) (id : TwinIdentity) (cause : TwinCause) : State :=
  let s1 := s.withdrawAnchor
  let s2 := s1.setTlu
    { s1.tlu with
      state := .measuring
      identity := some id
      probes := []
      failures := 0
      status := none
      offerTimer := none
      retryTimer := none
      spacingTimer := none
      probeTimer := none
      checkTimer := none
      counters := { s1.tlu.counters with attachments := bump s1.tlu.counters.attachments } }
  s2.formProbe.twinChanged s.tlu.state cause none

/-- Entry to DETACHED with its fault (R69). -/
def State.enterDetached (s : State) (fault : TwinFault) : State :=
  let s1 := s.withdrawAnchor
  let s2 := s1.setTlu
    { s1.tlu with
      state := .detached
      fault := some fault
      probes := []
      transmit := s1.tlu.transmit.filter fun f => !f.isEcho
      offerTimer := none
      retryTimer := some (s1.tick + retryTicks)
      spacingTimer := none
      probeTimer := none
      checkTimer := none
      counters := { s1.tlu.counters with detachments := bump s1.tlu.counters.detachments } }
  s2.twinChanged s.tlu.state (.fault fault) none

/-! ## Evaluation (R72, R74) -/

/-- The result of a successful evaluation held: last measured and, within the limit, last agreed offset; the table holds
no cycle any more (notes/assumptions/19.md). -/
def TwinLink.evaluated (x : TwinLink) (m : Measured) : TwinLink :=
  { x with
    state := agreementOf m.theta x.limit
    measured := some m
    agreed := if m.theta.natAbs ≤ x.limit then some m.theta else x.agreed
    failures := 0
    probes := [] }

/-- R72, step 1: a transition is reported to DU. -/
def State.reportAgreement (s : State) (theta : Int) : State :=
  match s.tlu.state with
  | .agreed => s.uncontest .agreed (some theta)
  | .disagree => s.contest theta s.tlu.limit
  | _ => s

/-- Steps 1 to 3 after a successful evaluation: the report to DU when the state changed, the STATUS frame, the assisted
anchor (R72, R74). -/
def State.afterEvaluation (s : State) (old : TwinState) (m : Measured) : State :=
  let s1 := if s.tlu.state = old then s else s.reportAgreement m.theta
  (s1.formTwin (.status s1.ownStatus)).offerAnchor m.theta

/-- R72: evaluation of the measurement. Its TWIN notice is raised last, after the CLOCK notice of a CONTESTED record
(notes/assumptions/48.md). -/
def State.evaluateMeasurement (s : State) : State :=
  let valid := s.tlu.validProbes
  match leastDelay valid with
  | some m =>
    if 4 ≤ valid.length then
      let s1 := (s.setTlu (s.tlu.evaluated m)).afterEvaluation s.tlu.state m
      let s2 := s1.setTlu { s1.tlu with checkTimer := some (s1.tick + s1.tlu.period * ticksPerSecond) }
      s2.twinChanged s.tlu.state .evaluation (some ⟨m.theta, m.delay, valid.length⟩)
    else s.enterDetached .measure
  | none => s.enterDetached .measure

/-- R74: a failed check. Its notice carries no offset, delay or number of VALID probes, as that of a failed measurement
does (notes/assumptions/43.md). At the second failure in a row it is raised before entry to DETACHED, so it shows an
anchor held out then as still held out (notes/assumptions/47.md). -/
def State.failCheck (s : State) : State :=
  let s1 := s.setTlu
    { s.tlu with
      probes := []
      failures := 1
      counters := { s.tlu.counters with checksFailed := bump s.tlu.counters.checksFailed } }
  let s2 := s1.twinNotice s1.tlu.state .checkFailed none
  if s.tlu.failures = 0 then s2.formTwin (.status s2.ownStatus) else s2.enterDetached .check

/-- R74: evaluation of a check, with the order of notices of a measurement (notes/assumptions/48.md). -/
def State.evaluateCheck (s : State) : State :=
  let valid := s.tlu.validProbes
  match leastDelay valid with
  | some m =>
    if 2 ≤ valid.length then
      ((s.setTlu (s.tlu.evaluated m)).afterEvaluation s.tlu.state m).twinChanged s.tlu.state .evaluation
        (some ⟨m.theta, m.delay, valid.length⟩)
    else s.failCheck
  | none => s.failCheck

/-- Whether the last probe of the cycle has closed. -/
def TwinLink.cycleClosed (x : TwinLink) : Bool :=
  decide (x.probes.length = x.state.cycleLength) && x.outstanding.isNone

/-- Evaluation when the last probe of the cycle has closed (R72, R74). -/
def State.afterClose (s : State) : State :=
  if s.tlu.cycleClosed then
    match s.tlu.state with
    | .measuring => s.evaluateMeasurement
    | .agreed | .disagree => s.evaluateCheck
    | .off | .detached | .offering => s
  else s

/-- The outstanding probe closes, and a finished cycle is evaluated (R70, R72, R74). -/
def State.closeProbe (s : State) (o : ProbeOutcome) : State := (s.setTlu (s.tlu.closeProbe o)).afterClose

/-! ## An applied step (R70, R73) -/

/-- R73: every waiting echo is discarded and counted as withheld. -/
def TwinLink.withholdEchoes (x : TwinLink) : TwinLink :=
  { x with
    transmit := x.transmit.filter fun f => !f.isEcho
    counters :=
      { x.counters with
        echoesWithheld := sat32 (x.counters.echoesWithheld + (x.transmit.filter TwinFrame.isEcho).length) } }

/-- What an applied step of TB does to TLU: the waiting echoes are withheld (R73), and the outstanding probe closes
INVALID with reason STEP (R70; notes/assumptions/20.md). -/
def State.twinStepped (s : State) : State :=
  let s1 := s.setTlu s.tlu.withholdEchoes
  if s1.tlu.outstanding.isSome then s1.closeProbe (.invalid .step) else s1

/-! ## Frames received (R63, R66, R67, R73, R75) -/

/-- A frame that passes is counted, and the receiver looks for the next start byte (R63). -/
def State.twinReceived (s : State) : State :=
  s.setTlu { s.tlu with rx := none, counters := { s.tlu.counters with received := bump s.tlu.counters.received } }

/-- Bytes arriving on the twin link as an event whose frames `act` says: a chunk short of the frame's end stays in the
receiver; a frame of another kind is another event (notes/assumptions/11.md). -/
def twinArrival (bytes : List Byte) (act : TwinMessage → Nat → Option (State → State)) (s : State) : State :=
  match takeTwinBytes s.tlu.rx bytes s.tb.raw with
  | .assembling rx => s.setTlu { s.tlu with rx := some rx }
  | .good msg startRaw =>
    match act msg startRaw with
    | some f => f s.twinReceived
    | none => s
  | .bad => s
  | .notAFrame => s

/-- R66: why an OFFER or ACCEPT is not acceptable. -/
def State.attachFault (s : State) (id : TwinIdentity) : Option TwinFault :=
  if id.venue ≠ s.tlu.venue then some .venue
  else if id.serial = s.serial.toNat then some .loop
  else none

/-- R66, not acceptable: REFUSE, and DETACHED with the fault. -/
def State.rejectTwin (s : State) (fault : TwinFault) : State :=
  (s.formTwin (.refuse s.tlu.venue s.serial.toNat)).enterDetached fault

/-- R66: an OFFER. -/
def State.onOffer (s : State) (id : TwinIdentity) : State :=
  match s.tlu.state with
  | .off => s.twinIgnored
  | .detached | .offering | .measuring | .agreed | .disagree =>
    match s.attachFault id with
    | some f => s.rejectTwin f
    | none => (s.formTwin (.accept s.ownIdentity)).enterMeasuring id .offer

/-- R66: an ACCEPT. -/
def State.onAccept (s : State) (id : TwinIdentity) : State :=
  match s.tlu.state with
  | .off => s.twinIgnored
  | .detached | .offering =>
    match s.attachFault id with
    | some f => s.rejectTwin f
    | none => s.enterMeasuring id .accept
  | .measuring | .agreed | .disagree =>
    match s.attachFault id with
    | some f => s.rejectTwin f
    | none => s.twinIgnored

/-- R67: a REFUSE or a BYE. -/
def State.onEnding (s : State) (fault : TwinFault) : State :=
  match s.tlu.state with
  | .off | .detached => s.twinIgnored
  | .offering | .measuring | .agreed | .disagree => s.enterDetached fault

/-- R73: a PROBE received at raw time `t2`. -/
def State.onProbe (s : State) (number t2 : Nat) : State :=
  if s.tlu.state.attached then s.formTwin (.echo number t2) else s.twinIgnored

/-- R70: an ECHO whose start byte was received at raw time `t4`. -/
def State.onEcho (s : State) (number t2 t3 t4 : Nat) : State :=
  if s.tlu.state.attached then
    match s.tlu.outstanding with
    | some p =>
      s.closeProbe (if p.number = number then judgeProbe p.sentAt t2 t3 t4 else .invalid .number)
    | none => s.setTlu { s.tlu with counters := { s.tlu.counters with lateEchoes := bump s.tlu.counters.lateEchoes } }
  else s.twinIgnored

/-- Whether a STATUS frame carries the twin's recorded epoch (R75). -/
def TwinLink.epochMatches (x : TwinLink) (epoch : Nat) : Bool :=
  match x.identity with
  | some id => decide (id.epoch = epoch)
  | none => false

/-- R75, R76: a STATUS. -/
def State.onStatus (s : State) (st : TwinStatus) : State :=
  if s.tlu.state.attached then
    if s.tlu.epochMatches st.epoch then
      let s1 := s.setTlu
        { s.tlu with
          status := some st
          statusTick := s.tick
          counters := { s.tlu.counters with statusReceived := bump s.tlu.counters.statusReceived } }
      if st.trace = .traceable then s1 else s1.withdrawAnchor
    else
      s.setTlu
        { s.tlu with
          counters := { s.tlu.counters with statusMismatches := bump s.tlu.counters.statusMismatches } }
  else s.twinIgnored

/-! ## The commands of the twin link -/

/-- TWIN_BAD_FRAME (R63). -/
def twinBadFrame (bytes : List Byte) (s : State) : State :=
  match takeTwinBytes s.tlu.rx bytes s.tb.raw with
  | .assembling rx => s.setTlu { s.tlu with rx := some rx }
  | .bad =>
    s.setTlu { s.tlu with rx := none, counters := { s.tlu.counters with badFrames := bump s.tlu.counters.badFrames } }
  | .good _ _ => s
  | .notAFrame => s

def execTwinBadFrame (bytes : List Byte) (s : State) : Out := live s (twinBadFrame bytes)

/-- OFFER_RECEIVED (R66). -/
def offerReceived (bytes : List Byte) : State → State :=
  twinArrival bytes fun msg _ => match msg with | .offer id => some fun s => s.onOffer id | _ => none

def execOfferReceived (bytes : List Byte) (s : State) : Out := live s (offerReceived bytes)

/-- ACCEPT_RECEIVED (R66). -/
def acceptReceived (bytes : List Byte) : State → State :=
  twinArrival bytes fun msg _ => match msg with | .accept id => some fun s => s.onAccept id | _ => none

def execAcceptReceived (bytes : List Byte) (s : State) : Out := live s (acceptReceived bytes)

/-- REFUSE_RECEIVED (R67). -/
def refuseReceived (bytes : List Byte) : State → State :=
  twinArrival bytes fun msg _ => match msg with | .refuse _ _ => some fun s => s.onEnding .refused | _ => none

def execRefuseReceived (bytes : List Byte) (s : State) : Out := live s (refuseReceived bytes)

/-- BYE_RECEIVED (R67). -/
def byeReceived (bytes : List Byte) : State → State :=
  twinArrival bytes fun msg _ => match msg with | .bye => some fun s => s.onEnding .bye | _ => none

def execByeReceived (bytes : List Byte) (s : State) : Out := live s (byeReceived bytes)

/-- PROBE_RECEIVED (R73). -/
def probeReceived (bytes : List Byte) : State → State :=
  twinArrival bytes fun msg t => match msg with | .probe n => some fun s => s.onProbe n t | _ => none

def execProbeReceived (bytes : List Byte) (s : State) : Out := live s (probeReceived bytes)

/-- ECHO_RECEIVED (R70, R71). -/
def echoReceived (bytes : List Byte) : State → State :=
  twinArrival bytes fun msg t => match msg with | .echo n t2 t3 => some fun s => s.onEcho n t2 t3 t | _ => none

def execEchoReceived (bytes : List Byte) (s : State) : Out := live s (echoReceived bytes)

/-- STATUS_RECEIVED (R75). -/
def statusReceived (bytes : List Byte) : State → State :=
  twinArrival bytes fun msg _ => match msg with | .status st => some fun s => s.onStatus st | _ => none

def execStatusReceived (bytes : List Byte) (s : State) : Out := live s (statusReceived bytes)

/-- Counters of a frame whose start byte leaves (Table 4-4). -/
def TwinCounters.sent (c : TwinCounters) : TwinFrame → TwinCounters
  | .offer _ => { c with offersSent := bump c.offersSent }
  | .probe _ => { c with probesSent := bump c.probesSent }
  | .echo _ _ => { c with echoesSent := bump c.echoesSent }
  | .accept _ | .refuse _ _ | .status _ | .bye => c

/-- t1 of the probe whose PROBE leaves (R64). -/
def stampProbe (f : TwinFrame) (raw : Nat) (p : Probe) : Probe :=
  match f with
  | .probe n => if p.number = n then { p with t1 := some raw } else p
  | _ => p

/-- TWIN_FRAME_SEND (R64): the front frame of the transmit list leaves. -/
def twinFrameSend (s : State) : State :=
  match s.tlu.transmit with
  | [] => s
  | f :: rest =>
    s.setTlu
      { s.tlu with
        transmit := rest
        probes := s.tlu.probes.map (stampProbe f s.tb.raw)
        lastSent := f.wire s.tb.raw
        counters := s.tlu.counters.sent f }

def execTwinFrameSend (s : State) : Out := live s twinFrameSend

/-- TLU forms an OFFER, starts the offer timer and enters OFFERING (R65, R68). -/
def State.openOffer (s : State) : State :=
  let s1 := s.formTwin (.offer s.ownIdentity)
  s1.setTlu { s1.tlu with state := .offering, offerTimer := some (s1.tick + offerTicks), retryTimer := none }

/-- OFFER_TIMER_EXPIRY (R68). -/
def offerTimerExpiry (s : State) : State :=
  if s.tlu.state = .offering ∧ due s.tlu.offerTimer s.tick = true then
    State.enterDetached
      (s.setTlu { s.tlu with counters := { s.tlu.counters with offerTimeouts := bump s.tlu.counters.offerTimeouts } })
      .timeout
  else s

def execOfferTimerExpiry (s : State) : Out := live s offerTimerExpiry

/-- RETRY_TIMER_EXPIRY (R68). -/
def retryTimerExpiry (s : State) : State :=
  if s.tlu.state = .detached ∧ due s.tlu.retryTimer s.tick = true then
    s.openOffer.twinChanged .detached .offer none
  else s

def execRetryTimerExpiry (s : State) : Out := live s retryTimerExpiry

/-- PROBE_SPACING_EXPIRY (R72, R74); a probe still outstanding is closed by its own timeout first (4.4). -/
def probeSpacingExpiry (s : State) : State :=
  if s.tlu.state.attached = true ∧ due s.tlu.spacingTimer s.tick = true ∧ s.tlu.outstanding = none then s.formProbe
  else s

def execProbeSpacingExpiry (s : State) : Out := live s probeSpacingExpiry

/-- Whether a waiting frame is the PROBE of a number. -/
def TwinFrame.isProbe (n : Nat) : TwinFrame → Bool
  | .probe m => decide (m = n)
  | _ => false

/-- PROBE_TIMEOUT (R70); a PROBE still in the transmit list leaves it unsent (R64). -/
def probeTimeout (s : State) : State :=
  match s.tlu.outstanding with
  | some p =>
    if due s.tlu.probeTimer s.tick then
      State.closeProbe
        (s.setTlu { s.tlu with transmit := s.tlu.transmit.filter fun f => !f.isProbe p.number })
        (.invalid .timeout)
    else s
  | none => s

def execProbeTimeout (s : State) : Out := live s probeTimeout

/-- CHECK_TIMER_EXPIRY (R74): a check cycle starts and the timer restarts with P; no cycle is in progress then. -/
def checkTimerExpiry (s : State) : State :=
  if (s.tlu.state = .agreed ∨ s.tlu.state = .disagree) ∧ due s.tlu.checkTimer s.tick = true ∧ s.tlu.probes = [] then
    State.formProbe (s.setTlu { s.tlu with checkTimer := some (s.tick + s.tlu.period * ticksPerSecond) })
  else s

def execCheckTimerExpiry (s : State) : Out := live s checkTimerExpiry

/-- STATUS_AGE_LIMIT (R76): a held-out anchor is withdrawn once the status age is above 2 × P. -/
def statusAgeLimit (s : State) : State :=
  if s.tlu.status.isSome = true ∧ 2 * s.tlu.period < s.tlu.statusAge s.tick then s.withdrawAnchor else s

def execStatusAgeLimit (s : State) : Out := live s statusAgeLimit

/-- TWIN_BYTE_DISCARDED (R63). -/
def twinByteDiscarded (byte : Byte) (s : State) : State :=
  if s.tlu.rx = none ∧ byte ≠ 0x3C#8 then
    s.setTlu { s.tlu with counters := { s.tlu.counters with discarded := bump s.tlu.counters.discarded } }
  else s

def execTwinByteDiscarded (byte : Byte) (s : State) : Out := live s (twinByteDiscarded byte)

/-! ## Requests of the twin (R65, R78, R79) -/

/-- TWIN_START (R65). -/
def twinStart (_ : List Byte) (s : State) : Acted :=
  match s.tlu.state with
  | .off => (s.openOffer.twinChanged .off .start none).says .ok
  | .detached | .offering | .measuring | .agreed | .disagree => s.says .ok

def execTwinStart (s : State) : Out := live s (takeRequest 0x0D twinStart)

/-- TWIN_STOP in a state other than OFF (R65). -/
def State.stopTwin (s : State) : State :=
  let s1 := s.formTwin .bye
  let s2 := s1.setTlu
    { s1.tlu with
      offerTimer := none
      retryTimer := none
      spacingTimer := none
      probeTimer := none
      checkTimer := none
      probes := []
      transmit := s1.tlu.transmit.filter fun f => !f.isEcho }
  let s3 := s2.withdrawAnchor.uncontest .stop none
  let s4 := s3.setTlu { s3.tlu with status := none, agreed := none, state := .off }
  s4.twinChanged s.tlu.state .stop none

/-- TWIN_STOP (R65). -/
def twinStop (_ : List Byte) (s : State) : Acted :=
  match s.tlu.state with
  | .off => s.says .ok
  | .detached | .offering | .measuring | .agreed | .disagree => s.stopTwin.says .ok

def execTwinStop (s : State) : Out := live s (takeRequest 0x0E twinStop)

/-- Whether a TWIN_CONFIG with this venue identity is accepted in the present state (R78). -/
def TwinLink.takesVenue (x : TwinLink) (venue : Nat) : Bool :=
  decide (venue = x.venue) || decide (x.state = .off) || decide (x.state = .detached)

/-- TWIN_CONFIG (R78, R168, R171). -/
def twinConfig (payload : List Byte) (s : State) : Acted :=
  match boolOfCode (field payload 11 1) with
  | none => s.says .outOfRange
  | some start =>
    if s.tlu.takesVenue (field payload 9 2) then
      let c := clampTwin (field payload 0 4) (field payload 4 4) (field payload 8 1)
      let s1 := s.setTlu
        { s.tlu with
          limit := c.value.limit
          allowance := c.value.allowance
          period := c.value.period
          venue := field payload 9 2
          startAtReset := start }
      let s2 := s1.configChange 0x0C#8 c.clamped false (fieldBytes (twinConfigFields s1.tlu))
      s2.says (okStatus c.clamped) (twinConfigFields s1.tlu)
    else s.says .wrongState

def execTwinConfig (s : State) : Out := live s (takeRequest 0x0C twinConfig)

/-- STATUS_TWIN (R79). -/
def statusTwin (_ : List Byte) (s : State) : Acted := s.says .ok (twinFields s.tlu s.tick)

def execStatusTwin (s : State) : Out := live s (takeRequest 0x04 statusTwin)

end Sys2Proof.Machine
end

