-- ==== Sys2Proof/Machine/Discipline.lean ====
section
/-! DEFINITION. The Discipline Unit (chapter 3): selection, marks, servo, steps and slews, the host clock set, the UTC
offset and leap memory, the anchor, the divergence bound, traceability and evidence. -/

namespace Sys2Proof.Machine

/-! ## Mark reports (R33) -/

/-- The fields of a completed mark that passed its frame check; `flags` are L, Q and S, present when the code was valid
(R33). -/
structure MarkFields where
  label : Nat
  utcOffset : Int
  uncertainty : Nat
  corrected : Bool
  flags : Option MarkFlags
  deriving DecidableEq, Repr

/-- A mark report (R33). `reason` is absent for a good mark; `score` is the fault score after the mark; `cause` is present
when the state changed; `completed` says that a message completed the mark; `justified` that a leap change was adopted at
it (R27). -/
structure MarkReport where
  ref : Ref
  reason : Option Reason
  before : QualState
  after : QualState
  score : Nat
  cause : Option RefCause
  capture : Option Nat
  completed : Bool
  fields : Option MarkFields
  ticks : Option Nat
  adopted : Option Int
  leap : Option LeapMemory
  refreshed : Bool
  justified : Bool
  deriving DecidableEq, Repr

/-! ## Small operations -/

/-- The state with DU replaced. -/
def State.setDu (s : State) (x : Discipline) : State := { s with du := x }

/-- The other reference. -/
def otherRef : Ref → Ref
  | .a => .b
  | .b => .a

/-- The stale flag of a reference (R43). -/
def Discipline.stale (x : Discipline) : Ref → Bool
  | .a => x.staleA
  | .b => x.staleB

/-- R42, step 4: the stale flag of the report's reference is cleared. -/
def Discipline.clearStale (x : Discipline) (r : Ref) : Discipline :=
  match r with
  | .a => { x with staleA := false }
  | .b => { x with staleB := false }

/-- R43: the stale flag of each reference with a mark pending is set. -/
def State.markStale (s : State) : State :=
  s.setDu
    { s.du with
      staleA := s.du.staleA || s.monA.pendingMark.isSome
      staleB := s.du.staleB || s.monB.pendingMark.isSome }

/-- TB applies a step (R7 to R9), and TLU acts on it at once (R70, R73; notes/assumptions/20.md). -/
def State.stepTime (s : State) (amount : Int) : State :=
  State.twinStepped { s with tb := s.tb.stepBy amount }

/-- TB's answer to a step DU requests now (R7, R9). -/
def State.askStep (s : State) (amount : Int) : StepAnswer := stepAnswer s.tb s.anyPortOpen amount

/-- The venue UTC offset written by DU, with its record, when it differs from the held value (R13, R40, R49, R50). -/
def State.writeOffset (s : State) (offset : Int) (cause : OffsetCause) : State :=
  if s.tb.utcOffset = offset then s
  else State.clockRecord { s with tb := { s.tb with utcOffset := offset } } (.offsetChange s.tb.utcOffset offset cause)

/-! ## Selection (3.2) -/

/-- Table 3-2. -/
def selectFrom (current : Option Ref) (preferred : Ref) (st : Ref → QualState) : Option Ref :=
  if st preferred = .qualified then some preferred
  else if st (otherRef preferred) = .qualified then some (otherRef preferred)
  else
    match current with
    | some r =>
      if st r = .watch then some r
      else if st preferred = .watch then some preferred
      else if st (otherRef preferred) = .watch then some (otherRef preferred)
      else none
    | none =>
      if st preferred = .watch then some preferred
      else if st (otherRef preferred) = .watch then some (otherRef preferred)
      else none

/-- The selection an evaluation now gives (R39). -/
def State.selected (s : State) : Option Ref :=
  selectFrom s.du.selection s.du.preferred fun r => (s.mon r).state

/-- The qualification state of a selected reference. -/
def State.selectionState (s : State) (sel : Option Ref) : Option QualState := sel.map fun r => (s.mon r).state

/-- Entry to HOLDOVER from a mode (R41). -/
def State.enterHoldover (s : State) : State :=
  let r := clampRate (-s.du.integral)
  let s1 := s.setDu { s.du with mode := .holdover, rate := r }
  (s1.presentRate r).clockRecord (.holdoverStart s.du.mode s.du.integral r)

/-- R41: the selection has become none. -/
def State.loseSelection (s : State) : State :=
  match s.du.mode with
  | .locked | .holdover => s.enterHoldover
  | .slewing => (s.clockRecord (.slewEnd .loss (s.du.lastSlew.getD 0))).enterHoldover
  | .unset => s

/-- DU's leap memory as a new selection sets it (R40, R50). -/
def State.leapOf (s : State) (r : Ref) : Option DuLeap := (s.mon r).leap.map fun l => ⟨l.sign, r⟩

/-- R40, steps 2 to 4: what follows the switch record. -/
def State.adoptSelection (s : State) (new : Option Ref) : State :=
  match new with
  | some r =>
    let s1 :=
      match (s.mon r).adopted with
      | some o => s.writeOffset o .switch
      | none => s
    s1.setDu { s1.du with leap := s1.leapOf r }
  | none => State.loseSelection (s.setDu { s.du with leap := none })

/-- R40: a switch of the selection. -/
def State.switchTo (s : State) (new : Option Ref) (cause : SwitchCause) : State :=
  let old := s.du.selection
  let s1 := s.setDu { s.du with selection := new }
  (s1.clockRecord (.refSwitch old new (s.selectionState old) (s.selectionState new) cause)).adoptSelection new

/-- R39, R40: an evaluation of the selection without a change of the disciplining reference's own state. -/
def State.evaluateSelection (s : State) (cause : SwitchCause) : State :=
  if s.selected = s.du.selection then s else s.switchTo s.selected cause

/-- R39, R40: an evaluation at a report of `r` that shows its state changed from `before` to `after`; a change of the
disciplining reference that leaves it selected is written too. -/
def State.evaluateReport (s : State) (r : Ref) (before after : QualState) (cause : RefCause) : State :=
  if s.selected = s.du.selection then
    if s.du.selection = some r then
      s.clockRecord (.refSwitch (some r) (some r) (some before) (some after) (.report r cause))
    else s
  else s.switchTo s.selected (.report r cause)

/-! ## The phase error (R43) -/

/-- e, clamped to its range (R43, Equation 1). -/
def phaseError (capture label : Nat) (delay : Int) : Int :=
  clampInt (-9223372036854775807) 9223372036854775807 ((capture : Int) - ((label : Int) * 1000000000 + delay))

/-- A good mark of the disciplining reference as R43 and R44 use it. -/
structure UsedMark where
  ref : Ref
  e : Int
  u : Nat
  state : QualState
  deriving DecidableEq, Repr

/-- The mark of a report that DU uses: good, of the disciplining reference, its stale flag clear (R42, R43). -/
def State.usedMark (s : State) (m : MarkReport) : Option UsedMark :=
  match m.reason, m.capture, m.fields with
  | none, some raw, some f =>
    if s.du.selection = some m.ref ∧ s.du.stale m.ref = false then
      some ⟨m.ref, phaseError raw f.label (s.tb.cableDelay m.ref), f.uncertainty, m.after⟩
    else none
  | _, _, _ => none

/-! ## Actions on a used mark (R44 to R48) -/

/-- What an action leaves: the state, and whether the mark caused an applied step (R51). -/
structure Action where
  state : State
  stepped : Bool

/-- R45: a servo update. -/
def State.servo (s : State) (e : Int) : State :=
  let i := clampRate (s.du.integral + e * s.tb.servo.active.gi)
  let r := clampRate (-(e * s.tb.servo.active.gp + i))
  State.presentRate (s.setDu { s.du with integral := i, rate := r }) r

/-- Entry to LOCKED; ACQUIRED is written from UNSET and HOLDOVER (R44). -/
def State.enterLocked (s : State) (old : Mode) (m : UsedMark) : State :=
  let s1 := s.setDu { s.du with mode := .locked }
  match old with
  | .unset | .holdover => s1.clockRecord (.acquired old m.ref m.e m.u m.state)
  | .locked | .slewing => s1

/-- A step of −e that TB has applied: the STEP record and the stale flags (R43, R46). -/
def State.stepBack (s : State) (e : Int) (before after : Nat) : State :=
  ((s.stepTime (-e)).clockRecord (.step before after e)).markStale

/-- R46, R47: a step of −e, then LOCKED; when TB refuses, `orElse`. -/
def State.stepAndLock (s : State) (m : UsedMark) (orElse : State) : Action :=
  match s.askStep (-m.e) with
  | .applied b a => ⟨(s.stepBack m.e b a).enterLocked s.du.mode m, true⟩
  | .refused => ⟨orElse, false⟩

/-- Entry to SLEWING (R47). -/
def State.enterSlewing (s : State) (e : Int) : State :=
  let s1 := s.setDu { s.du with mode := .slewing, rate := -200000000, lastSlew := some e }
  (s1.presentRate (-200000000)).clockRecord (.slewStart e s.du.mode s.du.integral)

/-- R47: e above the threshold in LOCKED or HOLDOVER. -/
def State.backOrSlew (s : State) (m : UsedMark) : Action :=
  if s.anyPortOpen then ⟨s.enterSlewing m.e, false⟩ else s.stepAndLock m (s.enterSlewing m.e)

/-- The end of a slew by a step: the step of −e with its records, R at the clamped negative of I, and LOCKED (R48). The
SLEW_END record comes before what the twin does at the step, and the STEP record after it (notes/assumptions/20.md). -/
def State.endSlewByStep (s : State) (e : Int) (before after : Nat) : State :=
  let s1 := ((s.clockRecord (.slewEnd .step e)).stepTime (-e)).clockRecord (.step before after e)
  let r := clampRate (-s1.du.integral)
  let s2 := s1.markStale
  State.presentRate (s2.setDu { s2.du with rate := r, mode := .locked }) r

/-- R48 after the last slew e has been set. -/
def State.slewOn (s : State) (m : UsedMark) : Action :=
  if (m.e.natAbs : Int) ≤ s.tb.servo.active.threshold then
    ⟨((s.clockRecord (.slewEnd .reached m.e)).servo m.e).enterLocked .slewing m, false⟩
  else if 0 < m.e then
    if s.anyPortOpen then ⟨s, false⟩
    else
      match s.askStep (-m.e) with
      | .applied b a => ⟨s.endSlewByStep m.e b a, true⟩
      | .refused => ⟨s, false⟩
  else
    match s.askStep (-m.e) with
    | .applied b a => ⟨s.endSlewByStep m.e b a, true⟩
    | .refused => ⟨s, false⟩

/-- R48: a used mark in SLEWING. -/
def State.slewMark (s : State) (m : UsedMark) : Action := (s.setDu { s.du with lastSlew := some m.e }).slewOn m

/-- R44, Table 3-3. A refused acquisition step, which no port state of UNSET gives, changes nothing
(notes/assumptions/34.md). -/
def State.actOnMark (s : State) (m : UsedMark) : Action :=
  match s.du.mode with
  | .unset => s.stepAndLock m s
  | .locked | .holdover =>
    if (m.e.natAbs : Int) ≤ s.tb.servo.active.threshold then ⟨(s.servo m.e).enterLocked s.du.mode m, false⟩
    else if m.e < 0 then s.stepAndLock m s
    else s.backOrSlew m
  | .slewing => s.slewMark m

/-- The anchor bound of a used mark (R51). -/
def anchorBound (e : Int) (stepped : Bool) (u : Nat) (st : QualState) : Nat :=
  sat32 ((if stepped then 0 else e.natAbs) + (if st = .qualified then u else sat32 (2 * u)) + 8)

/-- R51: the anchor of a used mark, set after the action; its instant is the dating time `taken` at which DU took the
mark report, before any step of the action. -/
def State.anchorMark (a : Action) (m : UsedMark) (taken : Nat) : State :=
  a.state.setDu
    { a.state.du with
      anchor := some ⟨anchorBound m.e a.stepped m.u m.state, taken, .ref, decide (m.state = .qualified)⟩ }

/-! ## Offset, leap and evidence at a report (R50, R56) -/

/-- R50: the venue offset follows the disciplining reference. -/
def State.followOffset (s : State) (m : MarkReport) : State :=
  match m.adopted with
  | some o => s.writeOffset o (if m.justified then .leap else .reference)
  | none => s

/-- R50: the leap memory follows the disciplining reference. -/
def State.followLeap (s : State) (m : MarkReport) : State :=
  match m.leap with
  | none => s.setDu { s.du with leap := none }
  | some l =>
    if m.refreshed then
      State.clockRecord (s.setDu { s.du with leap := some ⟨l.sign, m.ref⟩ })
        (.leapAnnounced l.sign m.ref ((m.fields.map MarkFields.label).getD 0))
    else s

/-- A smaller or first minimum. -/
def least {α : Type} [LE α] [DecidableLE α] (x : Option α) (v : α) : Option α :=
  match x with
  | none => some v
  | some w => some (if w ≤ v then w else v)

/-- A larger or first maximum. -/
def greatest {α : Type} [LE α] [DecidableLE α] (x : Option α) (v : α) : Option α :=
  match x with
  | none => some v
  | some w => some (if v ≤ w then w else v)

/-- Signed 64-bit saturation of the sum of e (Table 3-5). -/
def satSigned (i : Int) : Int := clampInt (-9223372036854775808) 9223372036854775807 i

/-- Table 3-5: a report counted, without the used marks. -/
def Statistics.count (x : Statistics) (m : MarkReport) : Statistics :=
  { x with
    completed := if m.completed then bump x.completed else x.completed
    bad := if m.reason.isSome then bump x.bad else x.bad
    corrected :=
      match m.fields with
      | some f => if f.corrected then bump x.corrected else x.corrected
      | none => x.corrected
    minTicks := match m.ticks with | some t => least x.minTicks t | none => x.minTicks
    maxTicks := match m.ticks with | some t => greatest x.maxTicks t | none => x.maxTicks }

/-- Table 3-5: a used mark counted. -/
def Statistics.use (x : Statistics) (e : Int) : Statistics :=
  { x with
    used := bump x.used
    minE := least x.minE e
    maxE := greatest x.maxE e
    sumE := satSigned (x.sumE + e) }

/-- R56: the report of the disciplining reference counted into the evidence interval. -/
def State.countReport (s : State) (m : MarkReport) : State :=
  s.setDu
    { s.du with
      stats :=
        match s.usedMark m with
        | some u => (s.du.stats.count m).use u.e
        | none => s.du.stats.count m }

/-- R42, steps 2 and 3, with R50: a report of the disciplining reference. A LEAP_ANNOUNCED record is formed after the
offset change and before the action on the mark, a place R58 leaves open (notes/assumptions/42.md). -/
def State.takeOwnReport (s : State) (m : MarkReport) : State :=
  let s1 := ((s.followOffset m).followLeap m).countReport m
  match s1.usedMark m with
  | some u => State.anchorMark (s1.actOnMark u) u s.dating
  | none => s1

/-- R42: DU takes a mark report. -/
def State.takeReport (s : State) (m : MarkReport) : State :=
  let s1 :=
    match m.cause with
    | some c => s.evaluateReport m.ref m.before m.after c
    | none => s
  let s2 := if s1.du.selection = some m.ref then s1.takeOwnReport m else s1
  s2.setDu (s2.du.clearStale m.ref)

/-! ## Host clock set (R49) -/

/-- Whether CLOCK_SET is accepted in the present mode (R49). -/
def State.takesClockSet (s : State) : Bool :=
  match s.du.mode with
  | .unset => true
  | .holdover => !s.anyPortOpen
  | .locked | .slewing => false

/-- R49, steps 2 to 6, after TB has applied the step. -/
def State.clockSetApplied (s : State) (venue bound : Nat) (offset : Int) (before after : Nat) : State :=
  let s1 := s.stepTime ((venue : Int) - s.tb.raw)
  let s2 := s1.setDu { s1.du with anchor := some ⟨bound, s1.dating, .host, false⟩ }
  let s3 := (s2.writeOffset offset .host).markStale
  let s4 :=
    match s.du.mode with
    | .unset => s3.setDu { s3.du with mode := .holdover, rate := 0 }
    | .locked | .slewing | .holdover => s3
  s4.clockRecord (.set before after venue bound s.du.mode)

/-- CLOCK_SET (R49): venue time, declared uncertainty and UTC offset. -/
def clockSet (payload : List Byte) (s : State) : Acted :=
  let venue := field payload 0 8
  let declared := field payload 8 4
  if s.takesClockSet then
    match s.askStep ((venue : Int) - s.tb.raw) with
    | .applied b a =>
      (s.clockSetApplied venue (max 1000 declared) (fieldInt payload 12 1) b a).says (okStatus (decide (declared < 1000)))
    | .refused => s.says .wrongState
  else s.says .wrongState

def execClockSet (s : State) : Out := live s (takeRequest 0x08 clockSet)

/-- STATUS_CLOCK (R14, R60). -/
def statusClock (_ : List Byte) (s : State) : Acted := s.says .ok (timeBaseFields s.tb ++ disciplineFields s.du)

def execStatusClock (s : State) : Out := live s (takeRequest 0x02 statusClock)

/-! ## Second-boundary reactions of DU (R53, R54, R57) -/

/-- Whole seconds from an instant to the dating time of a boundary; 0 when the instant is later
(notes/assumptions/39.md). -/
def secondsSince (instant dating : Nat) : Nat := (dating - instant) / nsPerSecond

/-- A bound grown from an instant to a dating time (R53). -/
def grownBound (bound instant growth dating : Nat) : Nat := sat32 (bound + growth * secondsSince instant dating)

/-- B, and whether the anchor in force is the assisted anchor (R53). -/
structure BoundInForce where
  bound : Nat
  assisted : Bool
  deriving DecidableEq, Repr

/-- R53: the bound from the anchor, and in HOLDOVER from the assisted anchor when that is smaller. -/
def Discipline.boundAt (x : Discipline) (growth dating : Nat) : Option BoundInForce :=
  match x.mode, x.anchor with
  | .unset, _ => none
  | _, none => none
  | mode, some a =>
    let hold := grownBound a.bound a.instant growth dating
    match mode, x.assisted with
    | .holdover, some y =>
      let assist := grownBound y.bound y.instant growth dating
      if assist < hold then some ⟨assist, true⟩ else some ⟨hold, false⟩
    | _, _ => some ⟨hold, false⟩

/-- Whether the anchor in force is an anchor of source REF with the qualified flag set (Table 3-4, entry 4). -/
def Discipline.qualifiedInForce (x : Discipline) (f : BoundInForce) : Bool :=
  match x.anchor with
  | some a => !f.assisted && decide (a.source = .ref) && a.qualified
  | none => false

/-- Whether the anchor's source is HOST and the anchor in force is not the assisted anchor (Table 3-4, entry 2). -/
def Discipline.hostInForce (x : Discipline) (f : BoundInForce) : Bool :=
  match x.anchor with
  | some a => !f.assisted && decide (a.source = .host)
  | none => false

/-- R54, Table 3-4. -/
def Discipline.traceAt (x : Discipline) (trace : Trace) (b : Option BoundInForce) : TraceState :=
  match b with
  | none => .unset
  | some f =>
    if x.mode = .unset then .unset
    else if x.hostInForce f then .untraceable
    else if trace.limit < f.bound then .untraceable
    else if x.trace = .untraceable ∧ x.qualifiedInForce f = false then .untraceable
    else if trace.advisory < f.bound then .degraded
    else .traceable

/-- R57: the mean of e, absent without used marks. -/
def Statistics.mean (x : Statistics) : Option Int :=
  if x.used = 0 then none else some (Int.tdiv x.sumE x.used)

/-- R57: the EVIDENCE record of the interval that ends. -/
def State.evidence (s : State) (interval : Nat) : EvidenceRecord where
  stats := s.du.stats
  mean := s.du.stats.mean
  rate := s.du.rate
  bound := s.du.bound
  trace := s.du.trace
  mode := s.du.mode
  contested := s.du.contested
  selection := s.du.selection
  interval := interval
  theta := s.tlu.agreed

/-- R57: the boundary is counted, and the interval ended when its length is reached. -/
def State.countBoundary (s : State) : State :=
  let n := s.du.boundaryCount + 1
  let interval := s.tb.trace.active.interval
  if interval ≤ n then
    let s1 := s.submit (.evidence s.dating (s.evidence interval))
    s1.setDu { s1.du with boundaryCount := 0, stats := {} }
  else s.setDu { s.du with boundaryCount := n }

end Sys2Proof.Machine
end

