-- ==== Sys2Proof/Machine/Groups.lean ====
section
/-! DEFINITION. The Group Scheduler (chapter 7): effective phase, draws, expiries, catch-up, the six group requests, the
clock suspension and the part of RESTART. -/

namespace Sys2Proof.Machine

/-! ## Effective phase and pending instants (R104, R119, R120) -/

/-- The effective phase that the instants in force give at `t` (R104). -/
def phaseAt (tc tMin tEnd t : Nat) : EffPhase :=
  if t < tc then .continuous
  else if t < tMin then .call
  else if t < tEnd then .random
  else .closed

/-- The effective phase of a group at a dating time (R104, R119). -/
def Group.effective (x : Group) (t : Nat) : EffPhase :=
  match x.phase with
  | .dormant => .continuous
  | .scheduled | .call | .random => phaseAt (x.tc.getD 0) (x.tMin.getD 0) (x.tEnd.getD 0) t
  | .suspended => .suspended
  | .closed => .closed
  | .abandoned => .abandoned

/-- Whether an effective phase is CALL or RANDOM. -/
def EffPhase.inAuction : EffPhase → Bool
  | .call | .random => true
  | .continuous | .suspended | .closed | .abandoned => false

/-- The pending instant of a group (R120). -/
def Group.pendingInstant (x : Group) : Option Nat :=
  match x.phase with
  | .scheduled => x.tc
  | .call => x.tMin
  | .random => x.tEnd
  | .dormant | .suspended | .closed | .abandoned => none

/-- The pending instant when dating time has reached it (R120). -/
def Group.reached (x : Group) (now : Nat) : Option Nat :=
  match x.pendingInstant with
  | some i => if i ≤ now then some i else none
  | none => none

/-! ## Records and notices (R134, R135) -/

/-- An AUCTION record with the values of the group record and the fixed fields of Table 11-10; the list-length byte holds
the present length in every step, those whose rule does not list it included (notes/assumptions/40.md). -/
def Group.record (x : Group) (g : GroupIx) (step : AuctionStep) (instant now : Nat) : AuctionRecord where
  group := g
  number := x.number
  step := step
  instant := instant
  now := now
  tc := x.tc.getD 0
  tMin := x.tMin.getD 0
  window := x.window.getD 0
  draw := x.draw
  tEnd := x.tEnd
  listLength := x.extensions.length

/-- R134: an AUCTION record joins the GS list. -/
def State.formAuction (s : State) (r : AuctionRecord) : State :=
  { s with gs := { s.gs with records := s.gs.records ++ [r] } }

/-- One step of an auction: the group record becomes `x`, the record joins the list and the notice is raised, unless
RESTART takes the step (R134, R135, R138). -/
def State.auctionStep (s : State) (g : GroupIx) (x : Group) (r : AuctionRecord) (notify : Bool) : State :=
  let s1 := (s.setGroup g x).formAuction r
  if notify then s1.notice .group (groupNotice r (s.group g).phase x.phase x.accepted r.now) else s1

/-! ## Expiries (R120 to R123) -/

/-- The group record after a CLOSE expiry (R122). -/
def Group.close (x : Group) (quality : TraceState) : Group :=
  { x with phase := .closed, closeQuality := some quality, revealed := x.number }

/-- R121, R122: the expiry of a group's pending instant. -/
def State.takeExpiry (s : State) (g : GroupIx) (now : Nat) (notify : Bool) : State :=
  let x := s.group g
  match x.phase with
  | .scheduled =>
    let y := { x with phase := .call }
    s.auctionStep g y (y.record g .callStart (x.tc.getD 0) now) notify
  | .call =>
    let y := { x with phase := .random }
    s.auctionStep g y (y.record g .windowStart (x.tMin.getD 0) now) notify
  | .random =>
    let y := x.close s.du.trace
    s.auctionStep g y
      { y.record g .close (x.tEnd.getD 0) now with
        accepted := some x.accepted
        lastSeq := x.lastSeq
        closeQuality := some s.du.trace }
      notify
  | .dormant | .suspended | .closed | .abandoned => s

/-- The expiry of group `g` if it has been reached. -/
def State.takeReached (s : State) (g : GroupIx) (now : Nat) (notify : Bool) : State :=
  match (s.group g).reached now with
  | some _ => s.takeExpiry g now notify
  | none => s

/-- R119: the catch-up of a group. At most three expiries can be reached: CALL_START, WINDOW_START and CLOSE. -/
def State.catchUp (s : State) (g : GroupIx) (now : Nat) (notify : Bool) : State :=
  ((s.takeReached g now notify).takeReached g now notify).takeReached g now notify

/-- Of the best reached group so far and group `g`, the one whose instant comes first, the lower index at equal instants
(R123). -/
def earlier (s : State) (now : Nat) (best : Option GroupIx) (g : GroupIx) : Option GroupIx :=
  match (s.group g).reached now, best with
  | none, b => b
  | some _, none => some g
  | some i, some b =>
    match (s.group b).reached now with
    | some j => if i < j then some g else some b
    | none => some g

/-- The group whose expiry is taken next (R123). -/
def State.nextExpiry (s : State) (now : Nat) : Option GroupIx := (List.finRange 16).foldl (earlier s now) none

/-- R123: every reached expiry, in order; `fuel` bounds their number, three for each of sixteen groups. -/
def State.takeDue : Nat → Nat → State → State
  | 0, _, s => s
  | fuel + 1, now, s =>
    match s.nextExpiry now with
    | some g => State.takeDue fuel now (s.takeExpiry g now true)
    | none => s

/-- Most expiries one advance can reach. -/
def expiryFuel : Nat := 48

/-- R123 as an event: when the next expiry is one of a group in `phase`, GS takes every reached expiry, all with the
dating time of the event (notes/assumptions/15.md). -/
def expiry (phase : Phase) (s : State) : State :=
  match s.nextExpiry s.dating with
  | some g => if (s.group g).phase = phase then State.takeDue expiryFuel s.dating s else s
  | none => s

/-- CALL_START_EXPIRY (R121). -/
def execCallStartExpiry (s : State) : Out := live s (expiry .scheduled)

/-- WINDOW_START_EXPIRY (R121). -/
def execWindowStartExpiry (s : State) : Out := live s (expiry .call)

/-- CLOSE_EXPIRY (R122). -/
def execCloseExpiry (s : State) : Out := live s (expiry .random)

/-! ## Draws (R116, R117) -/

/-- d of Equation 1, in ms. -/
def drawOf (x window : Nat) : Nat := x * (1000 * window + 1) / 4294967296

/-- T_end of Equation 2. -/
def drawEnd (tMin draw : Nat) : Nat := fitInstant (tMin + draw * 1000000)

/-- The value RS delivers at the next demand (R116). -/
def State.drawValue (s : State) : Nat := (Config.randomValue s.gs.demands).toNat

/-- A demand of RS taken. -/
def State.demand (s : State) : State := { s with gs := { s.gs with demands := s.gs.demands + 1 } }

/-! ## Request tests -/

/-- The group a request names, when it names one. -/
def groupOf (payload : List Byte) : Option GroupIx :=
  if h : field payload 0 1 < 16 then some ⟨field payload 0 1, h⟩ else none

/-- Number of a group's records in the GS list. -/
def Scheduler.waiting (x : Scheduler) (g : GroupIx) : Nat := (x.records.filter fun r => decide (r.group = g)).length

/-- R134: whether a request that would form a record of group `g` is refused BUSY. -/
def State.groupBusy (s : State) (g : GroupIx) : Bool := decide (4 ≤ s.gs.waiting g)

/-- R119, R134: a group request: the index test, the catch-up, the BUSY test on what the catch-up leaves when the request
forms a record of the group (`forms`), and then what the request does at that now (notes/assumptions/30.md). -/
def groupRequest (forms : Group → Bool) (act : GroupIx → Nat → State → Acted) (payload : List Byte) (s : State) :
    Acted :=
  match groupOf payload with
  | none => s.says .outOfRange
  | some g =>
    let s1 := s.catchUp g s.dating true
    if forms (s1.group g) = true ∧ s1.groupBusy g = true then s1.says .busy
    else act g s.dating s1

/-- A request that forms a record of its group in every stored phase (R134). -/
def alwaysForms (_ : Group) : Bool := true

/-! ## GROUP_SCHEDULE (R124) -/

/-- Longest time from now to an earliest end: 24 hours (Table 7-3). -/
def scheduleSpan : Nat := 86400000000000

/-- Table 7-3, entries 2 to 7, after the catch-up; absent when accepted. -/
def State.scheduleTest (s : State) (x : Group) (tc tm now : Nat) : Option Status :=
  if s.du.mode = .unset then some .notSet
  else if x.phase ≠ .dormant then some .wrongState
  else if x.number = 65535 then some .exhausted
  else if tm ≤ tc then some .outOfRange
  else if tm ≤ now then some .tooLate
  else if now + scheduleSpan < tm then some .outOfRange
  else none

/-- The group record of an accepted schedule (R124, steps 1 to 4). -/
def Group.schedule (x : Group) (tc tm window draw : Nat) : Group where
  phase := .scheduled
  number := x.number + 1
  revealed := x.revealed
  tc := some tc
  tMin := some tm
  window := some window
  draw := some draw
  tEnd := some (drawEnd tm draw)

/-- R124, steps 1 to 6. -/
def State.schedule (s : State) (g : GroupIx) (tc tm window now : Nat) : State :=
  let y := (s.group g).schedule tc tm window (drawOf s.drawValue window)
  let s1 := s.demand.auctionStep g y (y.record g .armed now now) true
  if tc ≤ now then s1.takeExpiry g now true else s1

/-- GROUP_SCHEDULE (R124). -/
def groupSchedule (payload : List Byte) : State → Acted :=
  groupRequest alwaysForms
    (fun g now s =>
      let tc := field payload 1 8
      let tm := field payload 9 8
      let w := clampQ 0 600 (field payload 17 2)
      match s.scheduleTest (s.group g) tc tm now with
      | some st => s.says st
      | none =>
        (s.schedule g tc tm w.value now).says (okStatus w.clamped)
          [fx 1 g.val, fx 2 ((s.group g).number + 1), fx 8 tc, fx 8 tm, fx 2 w.value])
    payload

def execGroupSchedule (s : State) : Out := live s (takeRequest 0x11 groupSchedule)

/-! ## GROUP_EXTEND and GROUP_RESUME (R126, R127, R131) -/

/-- Most entries of an extension list (R126). -/
def extensionMax : Nat := 4

/-- The new T_min of Equation 3. -/
def extendedMin (now length : Nat) : Nat := fitInstant (now + length * nsPerSecond)

/-- The group record of an accepted extension or resumption (R127, R131). -/
def Group.extend (x : Group) (kind : ExtKind) (now tMin draw : Nat) : Group :=
  { x with
    phase := .call
    tMin := some tMin
    draw := some draw
    tEnd := some (drawEnd tMin draw)
    extensions := x.extensions ++ [⟨kind, now, tMin, draw⟩]
    cause := none }

/-- Table 7-4, entries 2 to 4, after the catch-up. -/
def extendTest (x : Group) (now : Nat) : Option Status :=
  if x.phase = .closed then some .tooLate
  else if (x.effective now).inAuction = false then some .wrongState
  else if extensionMax ≤ x.extensions.length then some .listFull
  else none

/-- Table 7-5, entries 2 to 4, after the catch-up. -/
def resumeTest (x : Group) (trace : TraceState) : Option Status :=
  if x.phase ≠ .suspended then some .wrongState
  else if extensionMax ≤ x.extensions.length then some .listFull
  else if trace = .untraceable then some .notTraceable
  else none

/-- The acceptance of an extension or a resumption (R127, R131). -/
def State.extendGroup (s : State) (g : GroupIx) (kind : ExtKind) (step : AuctionStep) (length now : Nat) : State :=
  let x := s.group g
  let y := x.extend kind now (extendedMin now length) (drawOf s.drawValue (x.window.getD 0))
  s.demand.auctionStep g y { y.record g step now now with cause := x.cause } true

/-- The reply values of R127 and R131. -/
def extendReply (x : Group) : List Fld := [fx 2 x.number, fx 8 (x.tMin.getD 0), fx 1 x.extensions.length]

/-- An accepted extension or resumption by a length, with its reply (R127, R131). -/
def State.lengthen (s : State) (g : GroupIx) (kind : ExtKind) (step : AuctionStep) (length : Clamped Nat) (now : Nat) :
    Acted :=
  let s1 := s.extendGroup g kind step length.value now
  s1.says (okStatus length.clamped) (extendReply (s1.group g))

/-- GROUP_EXTEND (R127). -/
def groupExtend (payload : List Byte) : State → Acted :=
  groupRequest alwaysForms
    (fun g now s =>
      match extendTest (s.group g) now with
      | some st => s.says st
      | none => s.lengthen g .extend .extend (clampQ 1 1800 (field payload 1 2)) now)
    payload

def execGroupExtend (s : State) : Out := live s (takeRequest 0x12 groupExtend)

/-- GROUP_RESUME (R130, R131). -/
def groupResume (payload : List Byte) : State → Acted :=
  groupRequest alwaysForms
    (fun g now s =>
      match resumeTest (s.group g) s.du.trace with
      | some st => s.says st
      | none => s.lengthen g .resume .resume (clampQ 1 1800 (field payload 1 2)) now)
    payload

def execGroupResume (s : State) : Out := live s (takeRequest 0x14 groupResume)

/-! ## GROUP_SUSPEND and the clock suspension (R128, R129) -/

/-- The group record of a suspension (R128). -/
def Group.suspend (x : Group) (cause : AuctionCause) : Group :=
  { x with phase := .suspended, cause := some cause, tEnd := none }

/-- A suspension with its record and notice; the clock's carries the traceability state (R128, R129). -/
def State.suspendGroup (s : State) (g : GroupIx) (cause : AuctionCause) (trace : Option TraceState) (now : Nat) :
    State :=
  let y := (s.group g).suspend cause
  s.auctionStep g y { y.record g .suspend now now with cause := some cause, trace := trace } true

/-- The table of R128, entries 2 and 3, after the catch-up. -/
def suspendTest (x : Group) (now : Nat) : Option Status :=
  if x.phase = .closed then some .tooLate
  else if (x.effective now).inAuction = false then some .wrongState
  else none

/-- GROUP_SUSPEND (R128). -/
def groupSuspend (payload : List Byte) : State → Acted :=
  groupRequest alwaysForms
    (fun g now s =>
      match suspendTest (s.group g) now with
      | some st => s.says st
      | none => (s.suspendGroup g .host none now).says .ok [fx 2 (s.group g).number])
    payload

def execGroupSuspend (s : State) : Out := live s (takeRequest 0x13 groupSuspend)

/-- What a rule does to one group, done for every group in ascending index order. -/
def State.eachGroup (s : State) (step : State → GroupIx → State) : State := (List.finRange 16).foldl step s

/-- R129, step 2, for one group. -/
def clockSuspend (now : Nat) (s : State) (g : GroupIx) : State :=
  let s1 := s.catchUp g now true
  if ((s1.group g).effective now).inAuction then s1.suspendGroup g .clock (some .untraceable) now else s1

/-- R129: the clock suspension, every group in ascending order with one now. -/
def State.clockSuspension (s : State) : State := s.eachGroup (clockSuspend s.dating)

/-! ## GROUP_ABANDON and GROUP_CLEAR (R132, R133) -/

/-- The group record of an abandonment (R132). -/
def Group.abandon (x : Group) : Group := { x with phase := .abandoned, cause := none, revealed := x.number }

/-- R132, steps 1 to 4, with a cause. -/
def State.abandonGroup (s : State) (g : GroupIx) (cause : AuctionCause) (now : Nat) (notify : Bool) : State :=
  let x := s.group g
  let y := x.abandon
  s.auctionStep g y
    { y.record g .abandon now now with
      phaseBefore := some x.phase
      accepted := some x.accepted
      lastSeq := x.lastSeq
      cause := some cause }
    notify

/-- The table of R132, entries 2 and 3, after the catch-up. -/
def abandonTest (x : Group) : Option Status :=
  match x.phase with
  | .closed => some .tooLate
  | .dormant | .abandoned => some .wrongState
  | .scheduled | .call | .random | .suspended => none

/-- GROUP_ABANDON (R132); the final draw of the reply takes 4 bytes (notes/assumptions/24.md). -/
def groupAbandon (payload : List Byte) : State → Acted :=
  groupRequest alwaysForms
    (fun g now s =>
      match abandonTest (s.group g) with
      | some st => s.says st
      | none =>
        (s.abandonGroup g .host now true).says .ok
          [fx 2 (s.group g).number, fx 4 ((s.group g).draw.getD 0), fo 8 (s.group g).tEnd])
    payload

def execGroupAbandon (s : State) : Out := live s (takeRequest 0x15 groupAbandon)

/-- The group record cleared: the auction number and the revealed-through number are kept (R133). -/
def Group.clear (x : Group) : Group := { number := x.number, revealed := x.revealed }

/-- R133: the clearing of a group, with its notice. -/
def State.clearGroup (s : State) (g : GroupIx) (now : Nat) (notify : Bool) : State :=
  let x := s.group g
  let s1 := s.setGroup g x.clear
  if notify then s1.notice .group (clearedNotice g x.number x.phase now) else s1

/-- R133 after the catch-up. -/
def State.clearRequest (s : State) (g : GroupIx) (now : Nat) : Acted :=
  match (s.group g).phase with
  | .dormant => s.says .ok
  | .scheduled => ((s.abandonGroup g .clear now true).clearGroup g now true).says .ok
  | .closed | .abandoned => (s.clearGroup g now true).says .ok
  | .call | .random | .suspended => s.says .wrongState

/-- GROUP_CLEAR (R133); it forms a record of a group that is SCHEDULED after the catch-up, and may then be refused BUSY
(R134). -/
def groupClear (payload : List Byte) : State → Acted :=
  groupRequest (fun x => decide (x.phase = .scheduled)) (fun g now s => s.clearRequest g now) payload

def execGroupClear (s : State) : Out := live s (takeRequest 0x16 groupClear)

/-! ## RESTART (R138) -/

/-- R138, step 3, for one group. -/
def restartAbandon (now : Nat) (s : State) (g : GroupIx) : State :=
  match (s.group g).phase with
  | .scheduled | .call | .random | .suspended => s.abandonGroup g .restart now false
  | .dormant | .closed | .abandoned => s

/-- R138, step 4, for one group. -/
def restartClear (now : Nat) (s : State) (g : GroupIx) : State :=
  match (s.group g).phase with
  | .closed | .abandoned => s.clearGroup g now false
  | .dormant | .scheduled | .call | .random | .suspended => s

/-- R138: with one now, the catch-up of every group, then the abandonments, then the clearings; the abandonments are taken
in ascending group order (notes/assumptions/49.md). -/
def State.restartGroups (s : State) : State :=
  let now := s.dating
  ((s.eachGroup fun x g => x.catchUp g now false).eachGroup (restartAbandon now)).eachGroup (restartClear now)

/-! ## STATUS_GROUP (R136) -/

def statusGroup (payload : List Byte) (s : State) : Acted :=
  match groupOf payload with
  | none => s.says .outOfRange
  | some g =>
    s.says .ok (groupFields (s.group g) ((s.group g).effective s.dating) (s.gs.waiting g) s.gs.records.length)

def execStatusGroup (s : State) : Out := live s (takeRequest 0x06 statusGroup)

end Sys2Proof.Machine
end

