-- ==== Sys2Proof/Machine/Boundary.lean ====
section
/-! DEFINITION. The second boundary (R4) and the reactions of the blocks to it, in the order the manual gives them:
activation (R6), the divergence bound (R53), traceability (R54) with the hand-offs to GS (R129) and TLU (R75), the
evidence interval (R57) and the TICK notice (R176). -/

namespace Sys2Proof.Machine

/-- R53, R54: B and the traceability state at a boundary of a dating time. -/
def State.evaluateTrace (s : State) (dating : Nat) : State :=
  let b := s.du.boundAt s.tb.trace.active.growth dating
  s.setDu
    { s.du with
      bound := b.map BoundInForce.bound
      trace := s.du.traceAt s.tb.trace.active b }

/-- R54, R129: the hand-off to GS. -/
def State.tellScheduler (s : State) : State := if s.du.trace = .untraceable then s.clockSuspension else s

/-- R54, R75: the hand-off to TLU. -/
def State.tellTwin (s : State) : State := if s.tlu.state.attached then s.formTwin (.status s.ownStatus) else s

/-- R54: what DU does when the state differs from the state `old` before the boundary. -/
def State.traceChanged (s : State) (old : TraceState) (dating : Nat) : State :=
  if s.du.trace = old then s
  else
    ((s.clockRecordAt (.traceState old s.du.trace s.du.bound dating) dating).tellScheduler).tellTwin

/-- R176: the TICK notice and the TICK mode after it. -/
def State.tickReaction (s : State) (b : Boundary) : State :=
  let s1 := s.notice .tick (tickNotice b s.du.trace s.du.bound)
  match s.clu.tick with
  | .off => s
  | .once => { s1 with clu := { s1.clu with tick := .off } }
  | .eachSecond => s1

/-- The reactions to one boundary; the TICK notice stands last of its notices (notes/assumptions/48.md). -/
def State.reactTo (s : State) (b : Boundary) : State :=
  let s1 := { s with tb := s.tb.activate }
  let s2 := (s1.evaluateTrace b.dating).traceChanged s.du.trace b.dating
  s2.countBoundary.tickReaction b

/-- SECOND_BOUNDARY (R4): the oldest boundary raised and not yet acted on (notes/assumptions/13.md). -/
def secondBoundary (s : State) : State :=
  match s.tb.boundaries with
  | [] => s
  | b :: rest => State.reactTo { s with tb := { s.tb with boundaries := rest } } b

def execSecondBoundary (s : State) : Out := live s secondBoundary

end Sys2Proof.Machine
end

