-- ==== Sys2Proof/Machine/Control.lean ====
section
/-! DEFINITION. The Control Link Unit (chapter 9): its receiver, request queue, transmitter, and its own requests. -/

namespace Sys2Proof.Machine

/-- The state with CLU replaced. -/
def State.setClu (s : State) (x : Control) : State := { s with clu := x }

/-! ## Arrivals (R162, R163) -/

/-- Whether the front entry is IN_SERVICE. -/
def Control.inService (x : Control) : Bool :=
  match x.queue with
  | [] => false
  | q :: _ => decide (q.status = .inService)

/-- Places of the reply list taken or held: an entry IN_SERVICE holds one (R164, R166; notes/assumptions/37.md). -/
def Control.repliesHeld (x : Control) : Nat := x.replies.length + boolCode x.inService

/-- The BUSY reply to a request (R163, R164). -/
def busyReply (q : ControlRequest) : ControlFrame := ⟨replyKind q.kind, q.tag, replyPayload .busy []⟩

/-- R163: a request joins the queue, or is answered BUSY, or its BUSY reply is dropped. -/
def Control.arrive (x : Control) (q : ControlRequest) : Control :=
  if x.queue.length < requestQueueMax then { x with queue := x.queue ++ [q] }
  else if x.repliesHeld < replyListMax then
    { x with
      replies := x.replies ++ [busyReply q]
      counters := { x.counters with refusedBusy := bump x.counters.refusedBusy } }
  else
    { x with
      counters :=
        { x.counters with
          refusedBusy := bump x.counters.refusedBusy
          busyDropped := bump x.counters.busyDropped } }

/-- R162: a frame that has arrived. -/
def Control.frameArrived (x : Control) (frame : List Byte) : Control :=
  if byteSum frame = 0 then
    Control.arrive { x with rx := [], counters := { x.counters with received := bump x.counters.received } }
      (readRequest frame)
  else { x with rx := [], counters := { x.counters with badCheck := bump x.counters.badCheck } }

/-- CONTROL_FRAME (R162, R163). -/
def controlFrame (bytes : List Byte) (s : State) : State :=
  match takeControlBytes s.clu.rx bytes with
  | .arrived frame => s.setClu (s.clu.frameArrived frame)
  | .assembling rx => s.setClu { s.clu with rx := rx }
  | .badLength => s
  | .notAFrame => s

def execControlFrame (bytes : List Byte) (s : State) : Out := live s (controlFrame bytes)

/-- R162: a payload length above 1,024 ends the frame at its third byte. -/
def Control.endForLength (x : Control) : Control :=
  { x with
    rx := []
    counters :=
      { x.counters with
        badLength := bump x.counters.badLength
        discarded := sat32 (x.counters.discarded + 3) } }

/-- CONTROL_BAD_LENGTH (R162). -/
def controlBadLength (bytes : List Byte) (s : State) : State :=
  match takeControlBytes s.clu.rx bytes with
  | .badLength => s.setClu s.clu.endForLength
  | .assembling rx => s.setClu { s.clu with rx := rx }
  | .arrived _ => s
  | .notAFrame => s

def execControlBadLength (bytes : List Byte) (s : State) : Out := live s (controlBadLength bytes)

/-- CONTROL_BYTE_DISCARDED (R162). -/
def controlByteDiscarded (byte : Byte) (s : State) : State :=
  if s.clu.rx = [] ∧ byte ≠ 0xC5#8 then
    s.setClu { s.clu with counters := { s.clu.counters with discarded := bump s.clu.counters.discarded } }
  else s

def execControlByteDiscarded (byte : Byte) (s : State) : Out := live s (controlByteDiscarded byte)

/-! ## Answers without an owning block (R164, R165) -/

/-- ANSWER_BUSY_REPLY (R164): the front entry, when ANSWER_BUSY, is answered BUSY and leaves. -/
def answerBusyReply (s : State) : State :=
  match s.clu.queue with
  | [] => s
  | q :: rest =>
    if q.status = .answerBusy ∧ s.clu.replies.length < replyListMax then
      s.setClu
        { s.clu with
          queue := rest
          replies := s.clu.replies ++ [busyReply q]
          counters := { s.clu.counters with refusedBusy := bump s.clu.counters.refusedBusy } }
    else s

def execAnswerBusyReply (s : State) : Out := live s answerBusyReply

/-- The front entry leaves with a status alone, under the counters `c` (R165). -/
def State.refuseForm (s : State) (q : ControlRequest) (st : Status) (c : ControlCounters) : State :=
  State.placeReply (s.setClu { s.clu with queue := s.clu.queue.tail, counters := c }) q (replyPayload st [])

/-- UNKNOWN_REQUEST (R165): a taken request of unknown kind or of a length not allowed. -/
def unknownRequest (s : State) : State :=
  match s.takeable with
  | none => s
  | some q =>
    if kindKnown q.kind.toNat = false then
      s.refuseForm q .unknownKind { s.clu.counters with unknownKind := bump s.clu.counters.unknownKind }
    else if lengthAllowed q.kind.toNat q.payload.length = false then
      s.refuseForm q .badLength { s.clu.counters with badRequestLength := bump s.clu.counters.badRequestLength }
    else s

def execUnknownRequest (s : State) : Out := live s unknownRequest

/-! ## The transmitter (R167) -/

/-- R167: an idle transmitter takes the front reply, or else the front notice. -/
def Control.choose (x : Control) : Control :=
  match x.tx, x.replies, x.notices with
  | .idle, f :: rest, _ => { x with tx := .reply f, replies := rest }
  | .idle, [], f :: rest => { x with tx := .notice f, notices := rest }
  | _, _, _ => x

/-- CONTROL_TRANSMIT_START (R167). -/
def controlTransmitStart (s : State) : State := s.setClu s.clu.choose

def execControlTransmitStart (s : State) : Out := live s controlTransmitStart

/-- R167: the last byte of the frame has left. -/
def Control.finish (x : Control) : Control :=
  match x.tx with
  | .idle => x
  | .reply _ => { x with tx := .idle, counters := { x.counters with repliesSent := bump x.counters.repliesSent } }
  | .notice _ => { x with tx := .idle, counters := { x.counters with noticesSent := bump x.counters.noticesSent } }

/-- CONTROL_FRAME_SENT (R167): the frame is counted, and the transmitter chooses again. -/
def controlFrameSent (s : State) : State :=
  match s.clu.tx with
  | .idle => s
  | .reply _ | .notice _ => s.setClu s.clu.finish.choose

def execControlFrameSent (s : State) : Out := live s controlFrameSent

/-! ## CLU's own requests (R172, R175) -/

/-- IDENTIFY (R172). -/
def identify (_ : List Byte) (s : State) : Acted := s.says .ok (identifyFields s)

def execIdentify (s : State) : Out := live s (takeRequest 0x01 identify)

/-- NOTICE_CONFIG (R175). -/
def noticeConfig (payload : List Byte) (s : State) : Acted :=
  match readEnables payload 0, tickModeOfCode (field payload 7 1) with
  | some e, some mode =>
    State.says (s.setClu { s.clu with enables := e, tick := mode }) .ok
      (enableFields e ++ [fx 1 (TickMode.toCode mode), fx 4 s.clu.noticesLost])
  | _, _ => s.says .outOfRange

def execNoticeConfig (s : State) : Out := live s (takeRequest 0x1B noticeConfig)

end Sys2Proof.Machine
end

