-- ==== Sys2Proof/Machine/Reference.lean ====
section
/-! DEFINITION. The reference monitors (chapter 2): edges, time messages, judgement, the fault score and qualification,
reports, and their requests. -/

namespace Sys2Proof.Machine

/-! ## Constants and small operations -/

def messageWaitTicks : Nat := 112500000
def missingTicks : Nat := 137500000
def missingAgainTicks : Nat := 125000000

/-- Largest label of a time message (Table 2-1). -/
def maxLabel : Nat := 281474976710655

/-- A last label raised without a received one (R21, R22, R24); the last label 2⁴⁸ − 1 stays
(notes/assumptions/18.md). -/
def raiseLabel (l : Option Nat) : Option Nat := l.map fun n => if n < maxLabel then n + 1 else n

/-- The last label after a completed mark whose frame check passes: the received label; a last label of 2⁴⁸ − 1 stays, so
that every later mark fails LABEL until enable or entry to EXCLUDED (R25; notes/assumptions/18.md). -/
def rebaseLabel (l : Option Nat) (received : Nat) : Option Nat := if l = some maxLabel then l else some received

/-- Whether the monitor is enabled (R32). -/
def Monitor.enabled (m : Monitor) : Bool := decide (m.state ≠ .disabled)

/-- R17: a partial frame abandoned, its bytes counted as discarded. -/
def Monitor.abandonFrame (m : Monitor) : Monitor :=
  { m with
    rx := []
    counters := { m.counters with discarded := sat32 (m.counters.discarded + m.rx.length) } }

def BadCounts.raise (c : BadCounts) : Reason → BadCounts
  | .check => { c with check := bump c.check }
  | .format => { c with format := bump c.format }
  | .code => { c with code := bump c.code }
  | .quality => { c with quality := bump c.quality }
  | .label => { c with label := bump c.label }
  | .uncertain => { c with uncertain := bump c.uncertain }
  | .frequency => { c with frequency := bump c.frequency }
  | .jump => { c with jump := bump c.jump }
  | .offset => { c with offset := bump c.offset }
  | .noLabel => { c with noLabel := bump c.noLabel }
  | .missing => { c with missing := bump c.missing }

/-! ## Fault score and qualification (R28 to R31) -/

/-- The score from which a reference is EXCLUDED (R28). -/
def excludeScore : Nat := 96
/-- The score from which a reference is WATCH (R29, R30). -/
def watchScore : Nat := 32
/-- Good marks in a row that qualify a CANDIDATE (R29). -/
def qualifyRun : Nat := 16
/-- Good marks in a row that end EXCLUDED (R31). -/
def recoverRun : Nat := 60

/-- Entry to EXCLUDED (R31). -/
def Monitor.exclude (m : Monitor) : Monitor :=
  { m with
    state := .excluded
    score := excludeScore
    goodRun := 0
    recoveryRun := 0
    lastLabel := none
    adopted := none
    leap := none }

/-- The state a score calls for outside CANDIDATE and EXCLUDED (R29, R30). -/
def stateOfScore (score : Nat) : QualState := if score < watchScore then .qualified else .watch

/-- A good mark in CANDIDATE, QUALIFIED or WATCH (R28 to R30). -/
def Monitor.goodStep (m : Monitor) : Monitor :=
  let run := bump m.goodRun
  { m with
    score := m.score - 1
    goodRun := run
    state :=
      match m.state with
      | .candidate => if qualifyRun ≤ run then stateOfScore (m.score - 1) else .candidate
      | .qualified => .qualified
      | .watch => stateOfScore (m.score - 1)
      | .excluded => .excluded
      | .disabled => .disabled }

/-- A bad mark in CANDIDATE, QUALIFIED or WATCH that does not exclude (R28 to R30). -/
def Monitor.badStep (m : Monitor) : Monitor :=
  { m with
    score := m.score + 8
    goodRun := 0
    state :=
      match m.state with
      | .qualified => stateOfScore (m.score + 8)
      | .candidate => .candidate
      | .watch => .watch
      | .excluded => .excluded
      | .disabled => .disabled }

/-- A closed mark in EXCLUDED (R31). -/
def Monitor.recoveryStep (m : Monitor) (good : Bool) : Monitor :=
  if good then
    if recoverRun ≤ m.recoveryRun + 1 then { m with state := .qualified, score := 0, goodRun := 0, recoveryRun := 0 }
    else { m with recoveryRun := m.recoveryRun + 1 }
  else { m with recoveryRun := 0 }

/-- R28 to R31: one closed mark steps the score, the runs and the state. -/
def Monitor.step (m : Monitor) (reason : Option Reason) : Monitor :=
  match m.state with
  | .disabled => m
  | .excluded => m.recoveryStep reason.isNone
  | .candidate | .qualified | .watch =>
    match reason with
    | none => m.goodStep
    | some _ => if excludeScore ≤ m.score + 8 then m.exclude else m.badStep

/-- The counters of a closed mark (Table 2-5). -/
def RefCounters.close (c : RefCounters) (reason : Option Reason) (changed : Bool) : RefCounters :=
  { c with
    good := match reason with | none => bump c.good | some _ => c.good
    bad := match reason with | none => c.bad | some x => c.bad.raise x
    stateChanges := if changed then bump c.stateChanges else c.stateChanges }

/-- The cause of a change of state by a closed mark (R34). -/
def changeCause (before : QualState) (reason : Option Reason) : RefCause :=
  match reason with
  | some x => .bad x
  | none =>
    match before with
    | .candidate => .goodRun
    | .excluded => .recovery
    | .qualified | .watch | .disabled => .good

/-- The monitor after a closed mark, its counters included. -/
def Monitor.close (m : Monitor) (reason : Option Reason) : Monitor :=
  { m.step reason with counters := m.counters.close reason (decide ((m.step reason).state ≠ m.state)) }

/-- REF notice of a change of state (R34). -/
def State.refChanged (s : State) (r : Ref) (old : QualState) (cause : RefCause) : State :=
  s.notice .ref (refNotice r old (s.mon r).state (s.mon r).score cause s.dating)

/-- What a mark holds when it closes, beside what the monitor holds. -/
structure ClosedMark where
  reason : Option Reason
  capture : Option Nat
  ticks : Option Nat
  completed : Bool := false
  fields : Option MarkFields := none
  refreshed : Bool := false
  justified : Bool := false
  deriving DecidableEq, Repr

/-- The report of a closed mark, given the monitor before and after its step (R33). -/
def markReport (r : Ref) (before after : Monitor) (c : ClosedMark) : MarkReport where
  ref := r
  reason := c.reason
  before := before.state
  after := after.state
  score := after.score
  cause := if after.state = before.state then none else some (changeCause before.state c.reason)
  capture := c.capture
  completed := c.completed
  fields := c.fields
  ticks := c.ticks
  adopted := after.adopted
  leap := after.leap
  refreshed := c.refreshed
  justified := c.justified

/-- A mark of `r` closes: the monitor steps, a change of state is noticed, and DU takes the report (R28 to R34, R42). -/
def State.closeMark (s : State) (r : Ref) (c : ClosedMark) : State :=
  let before := s.mon r
  let after := before.close c.reason
  let s1 := s.setMon r after
  let s2 := if after.state = before.state then s1 else s1.refChanged r before.state (changeCause before.state c.reason)
  s2.takeReport (markReport r before after c)

/-! ## Edges (R18, R19) -/

/-- The tick count of an edge at a tick index (R18). -/
def Monitor.tickCount (m : Monitor) (tick : Nat) : Option Nat := m.baseline.map fun b => tick - b

/-- The window of Equation 1 (R18). -/
def inWindow (ticks : Nat) : Bool := decide (124975000 ≤ ticks) && decide (ticks ≤ 125025000)

/-- Difference of two counts. -/
def countGap (x y : Nat) : Nat := if x ≤ y then y - x else x - y

/-- R18: the verdict on a tick count. -/
def tickVerdict (last : Option Nat) (ticks : Option Nat) : Verdict :=
  match ticks with
  | none => .notChecked
  | some t =>
    if inWindow t then
      match last with
      | some l => if 250 < countGap l t then .jump else .inWindow
      | none => .inWindow
    else .frequency

/-- R18: the last tick count after an edge. -/
def tickLast (last : Option Nat) (ticks : Option Nat) : Option Nat :=
  match ticks with
  | none => last
  | some t => if inWindow t then some t else none

/-- The monitor after an edge has been captured and compared (R17, R18). -/
def Monitor.capture (m : Monitor) (tick : Nat) : Monitor :=
  { m.abandonFrame with
    baseline := some tick
    lastTicks := tickLast m.lastTicks (m.tickCount tick)
    counters := { m.abandonFrame.counters with edges := bump m.counters.edges } }

/-- R21: the monitor as a NO_LABEL mark leaves it before its step. -/
def Monitor.dropMark (m : Monitor) : Monitor :=
  { m with pendingMark := none, messageWait := none, lastLabel := raiseLabel m.lastLabel }

/-- A pending mark closed as NO_LABEL (R19, R21). -/
def State.closeNoLabel (s : State) (r : Ref) (p : PendingMark) : State :=
  (s.setMon r (s.mon r).dropMark).closeMark r { reason := some .noLabel, capture := some p.raw, ticks := p.ticks }

/-- R19: an edge opens a pending mark and starts the two timers. -/
def State.openMark (s : State) (r : Ref) (p : PendingMark) : State :=
  s.setMon r
    { s.mon r with
      pendingMark := some p
      messageWait := some (s.tick + messageWaitTicks)
      missingTimer := some (s.tick + missingTicks) }

/-- MARK_EDGE (R18, R19). -/
def markEdge (r : Ref) (s : State) : State :=
  let m := s.mon r
  if m.enabled then
    let p : PendingMark := ⟨s.tb.raw, m.tickCount s.tick, tickVerdict m.lastTicks (m.tickCount s.tick)⟩
    let s1 := s.setMon r (m.capture s.tick)
    match m.pendingMark with
    | some old => (s1.closeNoLabel r old).openMark r p
    | none => s1.openMark r p
  else s

def execMarkEdge (r : Ref) (s : State) : Out := live s (markEdge r)

/-! ## Judgement (R23 to R27) -/

/-- The label check (R25). -/
def labelPasses (last : Option Nat) (label : Nat) : Bool :=
  match last with
  | none => true
  | some l => decide (label = l + 1)

/-- Whether a change of offset is justified by a leap memory (R27). -/
def justifiedBy (leap : Option LeapMemory) (adopted carried : Int) : Bool :=
  match leap with
  | some l => if l.sign then decide (carried = adopted - 1) else decide (carried = adopted + 1)
  | none => false

/-- What the offset check finds (R27). -/
inductive OffsetFinding where
  | baseline | same | justified | unjustified
  deriving DecidableEq, Repr

/-- The offset check (R27). -/
def offsetCheck (m : Monitor) (carried : Int) : OffsetFinding :=
  match m.adopted with
  | none => .baseline
  | some o => if carried = o then .same else if justifiedBy m.leap o carried then .justified else .unjustified

/-- The flags of a valid code. -/
def MarkCode.flags : MarkCode → Option MarkFlags
  | .valid f _ => some f
  | .format | .uncorrectable => none

/-- Whether a code was corrected (R23). -/
def MarkCode.corrected : MarkCode → Bool
  | .valid _ c => c
  | .format | .uncorrectable => false

/-- Checks 4 to 9 of Table 2-3, for a valid code. -/
def laterReason (m : Monitor) (msg : TimeMessage) (verdict : Verdict) (f : MarkFlags) : Option Reason :=
  if f.quality then some .quality
  else if labelPasses m.lastLabel msg.label = false then some .label
  else if m.ceiling < msg.uncertainty then some .uncertain
  else if verdict = .frequency then some .frequency
  else if verdict = .jump then some .jump
  else if offsetCheck m msg.utcOffset = .unjustified then some .offset
  else none

/-- The reason of a completed mark, absent when it is good (Table 2-3, R24). -/
def markReason (m : Monitor) (msg : TimeMessage) (verdict : Verdict) : Option Reason :=
  if msg.checkOk then
    match decodeMarkCode msg.code with
    | .format => some .format
    | .uncorrectable => some .code
    | .valid f _ => laterReason m msg verdict f
  else some .check

/-- A leap memory counted down by a completed mark (R26). -/
def countDown (leap : Option LeapMemory) : Option LeapMemory :=
  match leap with
  | some l => if l.countdown ≤ 1 then none else some { l with countdown := l.countdown - 1 }
  | none => none

/-- Whether a mark adopts a justified change: justified, and good (R27). -/
def adoptsChange (m : Monitor) (msg : TimeMessage) (verdict : Verdict) : Bool :=
  decide (offsetCheck m msg.utcOffset = .justified) && decide (markReason m msg verdict = none)

/-- The leap memory after a completed mark whose frame check passes (R26). -/
def leapAfter (m : Monitor) (msg : TimeMessage) (verdict : Verdict) : Option LeapMemory :=
  if adoptsChange m msg verdict then none
  else
    match (decodeMarkCode msg.code).flags with
    | some f => if f.leap then some ⟨f.sign, 60⟩ else countDown m.leap
    | none => countDown m.leap

/-- The adopted offset after a completed mark whose frame check passes (R27). -/
def adoptedAfter (m : Monitor) (msg : TimeMessage) (verdict : Verdict) : Option Int :=
  match offsetCheck m msg.utcOffset with
  | .baseline => some msg.utcOffset
  | .same | .unjustified => m.adopted
  | .justified => if adoptsChange m msg verdict then some msg.utcOffset else m.adopted

/-- The monitor after a completed mark has been judged, before its step (R24 to R27). -/
def Monitor.judge (m : Monitor) (msg : TimeMessage) (verdict : Verdict) : Monitor :=
  let m1 :=
    { m with
      pendingMark := none
      messageWait := none
      counters := { m.counters with completed := bump m.counters.completed } }
  if msg.checkOk then
    { m1 with
      lastLabel := rebaseLabel m.lastLabel msg.label
      adopted := adoptedAfter m msg verdict
      leap := leapAfter m msg verdict
      counters :=
        { m1.counters with
          corrected := if (decodeMarkCode msg.code).corrected then bump m.counters.corrected else m.counters.corrected } }
  else { m1 with lastLabel := raiseLabel m.lastLabel, leap := countDown m.leap }

/-- The closed mark of a message that completes it (R20, R33). -/
def completedMark (m : Monitor) (msg : TimeMessage) (p : PendingMark) : ClosedMark where
  reason := markReason m msg p.verdict
  capture := some p.raw
  ticks := p.ticks
  completed := true
  fields :=
    if msg.checkOk then
      some
        { label := msg.label
          utcOffset := msg.utcOffset
          uncertainty := msg.uncertainty
          corrected := (decodeMarkCode msg.code).corrected
          flags := (decodeMarkCode msg.code).flags }
    else none
  refreshed := msg.checkOk && m.leap.isNone && (leapAfter m msg p.verdict).isSome
  justified := msg.checkOk && adoptsChange m msg p.verdict

/-- R20: a message has arrived. -/
def State.messageArrived (s : State) (r : Ref) (msg : TimeMessage) : State :=
  let m := { s.mon r with rx := [], counters := { (s.mon r).counters with messages := bump (s.mon r).counters.messages } }
  match m.pendingMark with
  | some p => (s.setMon r (m.judge msg p.verdict)).closeMark r (completedMark m msg p)
  | none => s.setMon r { m with counters := { m.counters with orphans := bump m.counters.orphans } }

/-- TIME_MESSAGE (R17, R20). -/
def timeMessage (r : Ref) (bytes : List Byte) (s : State) : State :=
  if (s.mon r).enabled then
    match takeTimeMessage (s.mon r).rx bytes with
    | .notAFrame => s
    | .assembling rx => s.setMon r { s.mon r with rx := rx }
    | .arrived msg => s.messageArrived r msg
  else s

def execTimeMessage (r : Ref) (bytes : List Byte) (s : State) : Out := live s (timeMessage r bytes)

/-! ## Expiries (R21, R22) -/

/-- MESSAGE_WAIT_EXPIRY (R21). -/
def messageWaitExpiry (r : Ref) (s : State) : State :=
  match (s.mon r).pendingMark with
  | some p => if (s.mon r).enabled = true ∧ due (s.mon r).messageWait s.tick = true then s.closeNoLabel r p else s
  | none => s

def execMessageWaitExpiry (r : Ref) (s : State) : Out := live s (messageWaitExpiry r)

/-- R22: the monitor as an expiry of the missing-mark timer leaves it before its step. -/
def Monitor.missEdge (m : Monitor) (tick : Nat) : Monitor :=
  { m.abandonFrame with
    lastLabel := raiseLabel m.lastLabel
    baseline := none
    lastTicks := none
    missingTimer := some (tick + missingAgainTicks) }

/-- MISSING_MARK_EXPIRY (R22); a pending mark is always closed first. -/
def missingMarkExpiry (r : Ref) (s : State) : State :=
  if (s.mon r).enabled = true ∧ (s.mon r).pendingMark = none ∧ due (s.mon r).missingTimer s.tick = true then
    (s.setMon r ((s.mon r).missEdge s.tick)).closeMark r { reason := some .missing, capture := none, ticks := none }
  else s

def execMissingMarkExpiry (r : Ref) (s : State) : Out := live s (missingMarkExpiry r)

/-- REF_BYTE_DISCARDED (R17). -/
def refByteDiscarded (r : Ref) (byte : Byte) (s : State) : State :=
  let m := s.mon r
  if m.enabled = true ∧ m.rx = [] ∧ byte ≠ 0xD3#8 then
    s.setMon r { m with counters := { m.counters with discarded := bump m.counters.discarded } }
  else s

def execRefByteDiscarded (r : Ref) (byte : Byte) (s : State) : Out := live s (refByteDiscarded r byte)

/-! ## Enable and configuration (R32, R35, R170) -/

/-- The monitor with all that R32 sets at enable and disable, in a state and with a missing-mark deadline; the ceiling
and the counters are kept. -/
def Monitor.fresh (m : Monitor) (st : QualState) (deadline : Option Nat) : Monitor :=
  { state := st
    ceiling := m.ceiling
    missingTimer := deadline
    counters := m.counters }

/-- R32: the enable value of REF_CONFIG. -/
def Monitor.setEnable (m : Monitor) (enable : Bool) (tick : Nat) : Monitor :=
  if m.enabled = enable then m
  else
    let m1 := if enable then m.fresh .candidate (some (tick + missingTicks)) else m.fresh .disabled none
    { m1 with counters := { m.counters with stateChanges := bump m.counters.stateChanges } }

/-- R32, R34: the enable taken, with the notice and the state report of a change. -/
def State.setEnable (s : State) (r : Ref) (enable : Bool) : State :=
  let old := (s.mon r).state
  let s1 := s.setMon r ((s.mon r).setEnable enable s.tick)
  if (s1.mon r).state = old then s1
  else
    let cause : RefCause := if enable then .enable else .disable
    (s1.refChanged r old cause).evaluateReport r old (s1.mon r).state cause

/-- R170, step 4: a preferred reference that differs is taken and the selection evaluated (R39). -/
def State.setPreferred (s : State) (p : Ref) : State :=
  if s.du.preferred = p then s else (s.setDu { s.du with preferred := p }).evaluateSelection .preference

/-- R170, steps 1 to 4. -/
def State.configureRef (s : State) (r : Ref) (enable : Bool) (ceiling : Nat) (delay : Int) (preferred : Ref) : State :=
  let s1 := s.setEnable r enable
  let s2 := s1.setMon r { s1.mon r with ceiling := ceiling }
  let s3 := { s2 with tb := s2.tb.stageDelay r delay }
  s3.setPreferred preferred

/-- REF_CONFIG (R170, R171). -/
def refConfig (payload : List Byte) (s : State) : Acted :=
  match refOfCode (field payload 0 1), boolOfCode (field payload 1 1), refOfCode (field payload 10 1) with
  | some r, some enable, some preferred =>
    let ceiling := clampCeiling (field payload 2 4)
    let delay := clampDelay (fieldInt payload 6 4)
    let clamped := ceiling.clamped || delay.clamped
    let s1 := s.configureRef r enable ceiling.value delay.value preferred
    let taken := [fx 1 (Ref.toCode r), fx 1 (boolCode enable), fx 4 ceiling.value, fs 4 delay.value,
      fx 1 (Ref.toCode preferred)]
    let s2 := s1.configChange 0x09#8 clamped true (fieldBytes taken)
    s2.says (okStatus clamped)
      [fx 1 (QualState.toCode (s2.mon r).state), fx 4 (s2.mon r).ceiling, fs 4 delay.value,
       fx 1 (Ref.toCode s2.du.preferred), fx 1 (refCode s2.du.selection)]
  | _, _, _ => s.says .outOfRange

def execRefConfig (s : State) : Out := live s (takeRequest 0x09 refConfig)

/-- STATUS_REF (R36). -/
def statusRef (_ : List Byte) (s : State) : Acted := s.says .ok (monitorFields s.monA ++ monitorFields s.monB)

def execStatusRef (s : State) : Out := live s (takeRequest 0x03 statusRef)

end Sys2Proof.Machine
end

