-- ==== Sys2Proof/Machine/Ports.lean ====
section
/-! DEFINITION. The stamp ports (chapter 5): receivers, judgement, fault score and capture, arrivals and door refusals,
the answering of REFUSING entries, drains, the transmitter, and the port requests. -/

namespace Sys2Proof.Machine

/-- Most entries of a port's request queue (Table 5-1). -/
def portQueueMax : Nat := 8

/-- Most replies of a port's reply queue (Table 5-1). -/
def portReplyMax : Nat := 16

/-- The score from which a port is faulted (R84). -/
def faultScore : Nat := 64

/-! ## Answering REFUSING entries and the end of a drain (R89, R95) -/

/-- Refusal counters (Table 5-4). -/
def PortCounters.refuse (c : PortCounters) : DoorStatus → PortCounters
  | .queueFull => { c with queueFull := bump c.queueFull }
  | .portClosed => { c with portClosed := bump c.portClosed }
  | .portFaulted => { c with portFaulted := bump c.portFaulted }

/-- R91: a refusal placed at the back of the reply queue and counted. -/
def Port.placeRefusal (x : Port) (epoch : Nat) (tag : BitVec 32) (st : DoorStatus) : Port :=
  { x with replies := x.replies ++ [.refused tag epoch st], counters := x.counters.refuse st }

/-- R89: a REFUSING front entry answered when a place is free. -/
def Port.answerFront (x : Port) (epoch : Nat) : Port :=
  match x.requests with
  | [] => x
  | q :: rest =>
    match q.status with
    | .waiting => x
    | .refusing st =>
      if x.replies.length < portReplyMax then Port.placeRefusal { x with requests := rest } epoch q.tag st else x

/-- R89: answering repeated, once for each entry there may be. -/
def Port.answerRefusing (epoch : Nat) : Nat → Port → Port
  | 0, x => x
  | n + 1, x => Port.answerRefusing epoch n (x.answerFront epoch)

/-- The PORT notice of a change of state from `old` (R96). -/
def State.portChanged (s : State) (p : PortIx) (old : PortState) (cause : PortCause) : State :=
  s.notice .port
    (portNotice p old (s.port p).state cause (s.port p).score (s.port p).requests.length s.dating)

/-- R95: entry to CLOSED with its record and notice. -/
def State.closePort (s : State) (p : PortIx) (cause : PortCause) : State :=
  let x := s.port p
  let s1 := s.setPort p { x with state := .closed, score := 0 }
  (s1.admin (.portClosed p x.state x.grantsSinceOpen)).portChanged p x.state cause

/-- R89, R95: the port re-examines its front entry; a drain whose queue has become empty ends. -/
def State.reexamine (s : State) (p : PortIx) : State :=
  let x := Port.answerRefusing s.epoch (s.port p).requests.length (s.port p)
  let s1 := s.setPort p x
  if x.state = .draining ∧ x.requests = [] then s1.closePort p .drained else s1

/-! ## Entries made REFUSING (R85, R99) -/

/-- A WAITING entry becomes REFUSING. -/
def StampRequest.refuse (st : DoorStatus) (q : StampRequest) : StampRequest :=
  match q.status with
  | .waiting => { q with status := .refusing st }
  | .refusing _ => q

/-- Number of WAITING entries. -/
def waitingCount (requests : List StampRequest) : Nat := (requests.filter fun q => decide (q.status = .waiting)).length

/-- R85: entry to FAULTED. -/
def State.faultPort (s : State) (p : PortIx) (fault : FaultKind) : State :=
  let x := s.port p
  let s1 := s.setPort p { x with state := .faulted, requests := x.requests.map (StampRequest.refuse .portFaulted) }
  (s1.admin (.portFaulted p x.state x.score fault (waitingCount x.requests))).portChanged p x.state .fault

/-- R99, steps 1 to 3, as RESTART and the exhaustion of the epoch close a port. -/
def Port.shut (x : Port) : Port :=
  { x with state := .closed, score := 0, requests := x.requests.map (StampRequest.refuse .portClosed) }

/-- R99 for one port. -/
def restartPort (s : State) (p : PortIx) : State := (s.setPort p (s.port p).shut).reexamine p

/-- R99 for the eight ports. -/
def State.restartPorts (s : State) : State := (List.finRange 8).foldl restartPort s

/-- R111 for one port: as at RESTART, with a notice when the state changed. -/
def exhaustPort (s : State) (p : PortIx) : State :=
  let s1 := s.setPort p (s.port p).shut
  let s2 := if (s.port p).state = .closed then s1 else s1.portChanged p (s.port p).state .exhausted
  s2.reexamine p

/-! ## Bad frames (R83, R84, R86) -/

/-- Bad-frame counters (Table 5-4). -/
def PortCounters.bad (c : PortCounters) : FaultKind → PortCounters
  | .check => { c with badCheck := bump c.badCheck }
  | .kind => { c with badKind := bump c.badKind }
  | .length => { c with badLength := bump c.badLength }
  | .field => { c with badField := bump c.badField }

/-- R84: the score after a bad frame. -/
def Port.scoreBad (x : Port) : Nat := if x.openForClock then x.score + 4 else x.score

/-- R84: the score after a good frame. -/
def Port.scoreGood (x : Port) : Nat := if x.openForClock then x.score - 1 else x.score

/-- R86: the capture filled, or its later faults counted. -/
def captureFault (old : Option Capture) (fault : FaultKind) (offset dating : Nat) (state : PortState) : Capture :=
  match old with
  | none => ⟨fault, offset, dating, state, 0⟩
  | some c => { c with later := bump c.later }

/-- R86: the capture of a bad frame, with its notice when it fills. -/
def State.capture (s : State) (p : PortIx) (fault : FaultKind) (offset : Nat) (state : PortState) : State :=
  let x := s.port p
  let c := captureFault x.capture fault offset s.dating state
  let s1 := s.setPort p { x with capture := some c }
  if x.capture = none then s1.notice .port (captureNotice p state c) else s1

/-- R83: a bad frame is counted, steps the score and is captured; the notice of the capture stands after that of the
fault it causes (notes/assumptions/48.md). -/
def State.badFrame (s : State) (p : PortIx) (fault : FaultKind) (offset : Nat) : State :=
  let x := s.port p
  let s1 := s.setPort p { x with rx := [], score := x.scoreBad, counters := x.counters.bad fault }
  let s2 := if x.openForClock = true ∧ faultScore ≤ x.scoreBad then s1.faultPort p fault else s1
  (s2.capture p fault offset x.state).reexamine p

/-! ## Good frames (R87, R88) -/

/-- The refusal status of a door refusal in a port state (Table 5-4a). -/
def doorStatus : PortState → DoorStatus
  | .opened => .queueFull
  | .draining | .closed => .portClosed
  | .faulted => .portFaulted

/-- Whether a REFUSING entry waits in a request queue. -/
def anyRefusing (requests : List StampRequest) : Bool := requests.any fun q => decide (q.status ≠ .waiting)

/-- R88: a refusal at the door, placed or dropped. -/
def Port.refuseAtDoor (x : Port) (epoch : Nat) (tag : BitVec 32) : Port :=
  if x.replies.length < portReplyMax ∧ anyRefusing x.requests = false then x.placeRefusal epoch tag (doorStatus x.state)
  else { x with counters := { x.counters with dropped := bump x.counters.dropped } }

/-- R87: a request joins the queue as WAITING. -/
def Port.enqueue (x : Port) (f : StampFields) (arrival : Nat) : Port :=
  { x with
    requests := x.requests ++ [{ tag := f.tag, cls := f.cls, group := f.group, key := f.key, arrival := arrival }]
    counters := { x.counters with queued := bump x.counters.queued } }

/-- R87, R88: the arrival of a stamp request. -/
def Port.arrive (x : Port) (epoch : Nat) (f : StampFields) (arrival : Nat) : Port :=
  if x.state = .opened ∧ x.requests.length < portQueueMax then x.enqueue f arrival else x.refuseAtDoor epoch f.tag

/-- R83: a good frame. -/
def State.goodFrame (s : State) (p : PortIx) (f : StampFields) : State :=
  let x := s.port p
  let y := { x with rx := [], score := x.scoreGood, counters := { x.counters with good := bump x.counters.good } }
  (s.setPort p (y.arrive s.epoch f s.dating)).reexamine p

/-- R83: an arrived frame is judged. -/
def State.frameArrived (s : State) (p : PortIx) (frame : List Byte) : State :=
  match judgeStampFrame frame with
  | .good f => s.goodFrame p f
  | .bad fault offset => s.badFrame p fault offset

/-- Bytes kept by a receiver until the frame ends. -/
def State.assemble (s : State) (p : PortIx) (rx : List Byte) : State := s.setPort p { s.port p with rx := rx }

/-- STAMP_REQUEST_FRAME (R82, R83). -/
def stampRequestFrame (p : PortIx) (bytes : List Byte) (s : State) : State :=
  match takeStampBytes (s.port p).rx bytes with
  | .arrived frame => s.frameArrived p frame
  | .assembling rx => s.assemble p rx
  | .badLength => s
  | .notAFrame => s

def execStampRequestFrame (p : PortIx) (bytes : List Byte) (s : State) : Out := live s (stampRequestFrame p bytes)

/-- STAMP_LENGTH_FAULT (R82). -/
def stampLengthFault (p : PortIx) (bytes : List Byte) (s : State) : State :=
  match takeStampBytes (s.port p).rx bytes with
  | .badLength => s.badFrame p .length 2
  | .assembling rx => s.assemble p rx
  | .arrived _ => s
  | .notAFrame => s

def execStampLengthFault (p : PortIx) (bytes : List Byte) (s : State) : Out := live s (stampLengthFault p bytes)

/-- PORT_BYTE_DISCARDED (R82). -/
def portByteDiscarded (p : PortIx) (byte : Byte) (s : State) : State :=
  let x := s.port p
  if x.rx = [] ∧ byte ≠ 0xA7#8 then
    s.setPort p { x with counters := { x.counters with discarded := bump x.counters.discarded } }
  else s

def execPortByteDiscarded (p : PortIx) (byte : Byte) (s : State) : Out := live s (portByteDiscarded p byte)

/-! ## The transmitter (R90) -/

/-- R90: an idle transmitter takes the front reply. -/
def Port.startReply (x : Port) : Port :=
  match x.tx, x.replies with
  | none, r :: rest => { x with tx := some r, replies := rest }
  | _, _ => x

/-- PORT_TRANSMIT_START (R90); the place freed may be taken by a REFUSING entry (R89). -/
def portTransmitStart (p : PortIx) (s : State) : State :=
  if (s.port p).tx = none ∧ (s.port p).replies ≠ [] then (s.setPort p (s.port p).startReply).reexamine p else s

def execPortTransmitStart (p : PortIx) (s : State) : Out := live s (portTransmitStart p)

/-- R90: the last byte of the reply has left. -/
def Port.finishReply (x : Port) : Port :=
  { x with tx := none, counters := { x.counters with sent := bump x.counters.sent } }

/-- PORT_REPLY_SENT (R90); the transmitter takes the next reply at once. -/
def portReplySent (p : PortIx) (s : State) : State :=
  if (s.port p).tx.isSome then (s.setPort p (s.port p).finishReply.startReply).reexamine p else s

def execPortReplySent (p : PortIx) (s : State) : Out := live s (portReplySent p)

/-! ## Requests (R92, R93, R97) -/

/-- The port a request names, when it names one. -/
def portOf (payload : List Byte) : Option PortIx :=
  if h : field payload 0 1 < 8 then some ⟨field payload 0 1, h⟩ else none

/-- R92: entry to OPEN. -/
def State.openPort (s : State) (p : PortIx) : State :=
  let x := s.port p
  let s1 := s.setPort p { x with state := .opened, score := 0, grantsSinceOpen := 0 }
  ((s1.admin (.portOpen p x.state)).portChanged p x.state .openRequest).reexamine p

/-- R92 after the index and the mode. -/
def State.openRequest (s : State) (p : PortIx) : Acted :=
  match (s.port p).state with
  | .opened => s.says .ok
  | .draining => s.says .wrongState
  | .closed | .faulted => (s.openPort p).says .ok

/-- PORT_OPEN (R92). -/
def portOpen (payload : List Byte) (s : State) : Acted :=
  match portOf payload with
  | none => s.says .outOfRange
  | some p =>
    if s.sa.exhausted then s.says .exhausted
    else if s.du.mode = .unset then s.says .notSet
    else s.openRequest p

def execPortOpen (s : State) : Out := live s (takeRequest 0x0F portOpen)

/-- R93: entry to DRAINING. -/
def State.drainPort (s : State) (p : PortIx) : State :=
  ((s.setPort p { s.port p with state := .draining }).portChanged p (s.port p).state .closeRequest).reexamine p

/-- R93 after the index. -/
def State.closeRequest (s : State) (p : PortIx) : State :=
  match (s.port p).state with
  | .opened => if (s.port p).requests = [] then s.closePort p .closeRequest else s.drainPort p
  | .faulted => (s.closePort p .closeRequest).reexamine p
  | .closed | .draining => s

/-- PORT_CLOSE (R93). -/
def portClose (payload : List Byte) (s : State) : Acted :=
  match portOf payload with
  | none => s.says .outOfRange
  | some p => (s.closeRequest p).says .ok

def execPortClose (s : State) : Out := live s (takeRequest 0x10 portClose)

/-- STATUS_PORT (R97): the port's values, after which its capture is absent (R86). -/
def statusPort (payload : List Byte) (s : State) : Acted :=
  match portOf payload with
  | none => s.says .outOfRange
  | some p => State.says (s.setPort p { s.port p with capture := none }) .ok (portFields (s.port p))

def execStatusPort (s : State) : Out := live s (takeRequest 0x05 statusPort)

end Sys2Proof.Machine
end

