-- ==== Sys2Proof/Machine/Sequence.lean ====
section
/-! DEFINITION. The Sequence Allocator (chapter 6): service order, grants to ports and internal requesters, the exhausted
epoch; and the requests of the Audit Journal (chapter 8). -/

namespace Sys2Proof.Machine

/-- The state with SA replaced. -/
def State.setSa (s : State) (x : Allocator) : State := { s with sa := x }

/-! ## Requesters (R100, R101) -/

/-- Whether an internal requester holds a request (R100). -/
def State.internalHeld (s : State) : Bool :=
  !s.du.records.isEmpty || !s.gs.records.isEmpty || !s.clu.markers.isEmpty

/-- The front entry of a port's queue when the port holds a request for service (R89, R100). -/
def Port.serviceRequest (x : Port) : Option StampRequest :=
  match x.requests with
  | [] => none
  | q :: _ =>
    if q.status = .waiting ∧ x.openForClock = true ∧ x.replies.length < portReplyMax then some q else none

/-- The ports in the order of a search from the rotation pointer (R101). -/
def searchOrder (start : PortIx) : List PortIx := (List.finRange 8).map fun k => start + k

/-- The port that SA serves next (Table 6-2, entry 4). -/
def State.portToServe (s : State) : Option PortIx :=
  (searchOrder s.sa.rotation).find? fun p => (s.port p).serviceRequest.isSome

/-! ## The head of a grant (R102) and the exhausted epoch (R111) -/

/-- R102: the next sequence number and the dating read with raise, with the floored-grant count. -/
def State.beginGrant (s : State) : State :=
  { s with
    sa :=
      { s.sa with
        seq := s.sa.seq + 1
        floored := if s.tb.datingRead.floored then s.sa.floored + 1 else s.sa.floored }
    tb := s.tb.raised }

/-- Whether the counter stands at its last value (R102). -/
def Allocator.full (x : Allocator) : Bool := decide (max64 ≤ x.seq)

/-- R111: the exhausted flag set during an epoch; every port closes, and one ADMIN CONFIG_CHANGE record notes it. The
ports close in ascending index order and the record is formed last, an order the rule leaves open
(notes/assumptions/46.md). -/
def State.exhaust (s : State) : State :=
  ((List.finRange 8).foldl exhaustPort (s.setSa { s.sa with exhausted := true })).configChange 0x00#8 false false []

/-! ## Stamp grants (R103 to R108) -/

/-- The wait of Equation 1 (R103). -/
def stampWait (t arrival : Nat) : Nat := sat32 (t - arrival)

/-- Whether an accepted stamp is reported to GS (R107). -/
def reported (phase : EffPhase) : Bool :=
  match phase with
  | .call | .random | .suspended => true
  | .continuous | .closed | .abandoned => false

/-- R103: the front entry removed, with the counts of a stamp grant. -/
def Port.granted (x : Port) : Port :=
  { x with
    requests := x.requests.tail
    grantsSinceOpen := bump x.grantsSinceOpen
    counters := { x.counters with granted := bump x.counters.granted } }

/-- The STAMP record of a request at a grant that reads `t` (R103 to R106). -/
def State.stampRecord (s : State) (p : PortIx) (q : StampRequest) (t : Nat) (floored : Bool) : StampRecord :=
  let phase := (s.group q.group).effective t
  { port := p
    cls := q.cls
    group := q.group
    key := q.key
    tag := q.tag
    late := decide (phase = .closed)
    phase := phase
    quality := ⟨s.du.trace, s.du.contested, floored⟩
    wait := stampWait t q.arrival }

/-- R106: the conservation counters of a stamp grant with its journal status. -/
def Allocator.stamped (x : Allocator) (st : JournalStatus) : Allocator :=
  { x with
    granted := x.granted + 1
    recorded := if st = .recorded then x.recorded + 1 else x.recorded
    notSelected := if st = .notSelected then x.notSelected + 1 else x.notSelected
    lost := if st = .lost then x.lost + 1 else x.lost }

/-- R107, R125: the report of an accepted stamp taken by GS. -/
def Group.report (x : Group) (seq : Nat) : Group := { x with accepted := bump x.accepted, lastSeq := some seq }

/-- R107 at a grant. -/
def State.reportStamp (s : State) (r : StampRecord) (seq : Nat) : State :=
  if reported r.phase then s.setGroup r.group ((s.group r.group).report seq) else s

/-- R108: the STAMPED reply, placed at the back of the reply queue. -/
def State.placeStamp (s : State) (p : PortIx) (r : StampRecord) (seq t : Nat) (st : JournalStatus) : State :=
  s.setPort p
    { s.port p with
      replies := (s.port p).replies ++
        [.stamped r.tag s.epoch seq t r.wait r.late r.phase r.quality s.tb.utcOffset st] }

/-- R103 to R108 after the head of the grant: the port `p` is served its front entry `q`. -/
def State.stamp (s : State) (p : PortIx) (q : StampRequest) (seq t : Nat) (floored : Bool) : State :=
  let r := s.stampRecord p q t floored
  let st := (s.aj.decision (.stamp seq t r)).status
  let s1 := (s.setPort p (s.port p).granted).submit (.stamp seq t r)
  let s2 := s1.setSa { s1.sa.stamped st with rotation := p + 1 }
  (((s2.reportStamp r seq).placeStamp p r seq t st).reexamine p)

/-- R102 to R108: a grant to port `p`. -/
def State.grantPort (s : State) (p : PortIx) (q : StampRequest) : State :=
  s.beginGrant.stamp p q (s.sa.seq + 1) s.tb.datingRead.t s.tb.datingRead.floored

/-- STAMP_GRANT (R101, R103). -/
def stampGrant (s : State) : State :=
  if s.sa.exhausted = true ∨ s.internalHeld = true then s
  else
    match s.portToServe with
    | none => s
    | some p =>
      match (s.port p).serviceRequest with
      | none => s
      | some q => if s.sa.full then s.exhaust else s.grantPort p q

def execStampGrant (s : State) : Out := live s stampGrant

/-! ## The JOURNAL_MARK reply (R156) -/

/-- The journal number of an outcome. -/
def StoreOutcome.number : StoreOutcome → Option Nat
  | .recorded n => some n
  | .notSelected | .lost => none

/-- The values of the JOURNAL_MARK reply. -/
def markReply (m : Marker) (seq dating : Option Nat) (o : StoreOutcome) : List Byte :=
  replyPayload (okStatus m.degraded)
    [fo 8 seq, fo 8 dating, fo 4 o.number, fx 1 (JournalStatus.toCode o.status)]

/-- The reply to the request that is IN_SERVICE: JOURNAL_MARK (R156) and SETTINGS_SAVE (R183) stay so until theirs. -/
def State.answerInService (s : State) (payload : List Byte) : State :=
  match s.clu.queue with
  | [] => s
  | q :: _ => if q.status = .inService then s.answer q payload else s

/-! ## Internal grants (R109) and unsequenced records (R111) -/

/-- The record at the front of the internal requester that is served first, with the requester's list shortened. -/
inductive Internal where
  | clock (r : ClockRecord)
  | auction (r : AuctionRecord)
  | marker (m : Marker)
  deriving DecidableEq, Repr

/-- R101, entries 1 to 3: DU, then GS, then CLU. -/
def State.nextInternal (s : State) : Option Internal :=
  match s.du.records, s.gs.records, s.clu.markers with
  | r :: _, _, _ => some (.clock r)
  | [], r :: _, _ => some (.auction r)
  | [], [], m :: _ => some (.marker m)
  | [], [], [] => none

/-- R109: the requester removes the record from its list. -/
def State.removeInternal (s : State) : Internal → State
  | .clock _ => { s with du := { s.du with records := s.du.records.tail } }
  | .auction _ => { s with gs := { s.gs with records := s.gs.records.tail } }
  | .marker _ => { s with clu := { s.clu with markers := s.clu.markers.tail } }

/-- R109: the requester's internal-grant count. -/
def Allocator.countInternal (x : Allocator) : Internal → Allocator
  | .clock _ => { x with duGrants := x.duGrants + 1 }
  | .auction _ => { x with gsGrants := x.gsGrants + 1 }
  | .marker _ => { x with cluGrants := x.cluGrants + 1 }

/-- The record with its sequence number, if it has one, and its dating time. -/
def Internal.body (seq : Option Nat) (t : Nat) : Internal → Body
  | .clock r => .clock seq t r
  | .auction r => .auction seq t r
  | .marker m => .marker seq t m.text

/-- What follows the store decision for the requester: CLU forms the JOURNAL_MARK reply (R109, R156). -/
def State.afterInternal (s : State) (x : Internal) (seq : Option Nat) (t : Nat) (o : StoreOutcome) : State :=
  match x with
  | .clock _ | .auction _ => s
  | .marker m => s.answerInService (markReply m seq (seq.map fun _ => t) o)

/-- A record of an internal requester handed to AJ. -/
def State.handOver (s : State) (x : Internal) (seq : Option Nat) (t : Nat) : State :=
  let o := s.aj.decision (x.body seq t)
  ((s.removeInternal x).submit (x.body seq t)).afterInternal x seq t o

/-- R102, R109: a grant to an internal requester. -/
def State.grantInternal (s : State) (x : Internal) : State :=
  let s1 := s.beginGrant
  (s1.setSa (s1.sa.countInternal x)).handOver x (some (s.sa.seq + 1)) s.tb.datingRead.t

/-- INTERNAL_GRANT (R101, R109). -/
def internalGrant (s : State) : State :=
  if s.sa.exhausted then s
  else
    match s.nextInternal with
    | none => s
    | some x => if s.sa.full then s.exhaust else s.grantInternal x

def execInternalGrant (s : State) : Out := live s internalGrant

/-- UNSEQUENCED_HANDOFF (R111): while the epoch is exhausted a record goes to AJ without a sequence, dated by a plain
read. -/
def unsequencedHandoff (s : State) : State :=
  if s.sa.exhausted then
    match s.nextInternal with
    | none => s
    | some x => s.handOver x none s.dating
  else s

def execUnsequencedHandoff (s : State) : Out := live s unsequencedHandoff

/-! ## Requests of the journal -/

/-- STATUS_JOURNAL (R112, R159). -/
def statusJournal (_ : List Byte) (s : State) : Acted :=
  s.says .ok (allocatorFields s.sa s.epoch ++ journalFields s.aj)

def execStatusJournal (s : State) : Out := live s (takeRequest 0x07 statusJournal)

/-- The records a JOURNAL_READ of a starting number and a clamped count returns (R150, R151). -/
def Journal.readRecords (j : Journal) (start count : Nat) : List Record :=
  if start < j.oldest ∨ j.newest < start then [] else j.readFrom start count

/-- The status of a JOURNAL_READ (R150). -/
def Journal.readStatus (j : Journal) (start : Nat) (clamped : Bool) (records : List Record) : Status :=
  if start < j.oldest ∨ (j.pool = [] ∧ start ≤ j.newest) then .released
  else if records = [] then .ok
  else okStatus clamped

/-- The reply of a JOURNAL_READ: the 12-byte read head, then the copies of the records (R150, R152, 11.2). -/
def readReply (s : State) (st : Status) (records : List Record) : List Byte :=
  leBytes 1 (Status.toCode st) ++ leBytes 2 s.epoch ++ leBytes 4 s.aj.oldest ++ leBytes 4 s.aj.newest ++
    leBytes 1 records.length ++ records.flatMap (Record.readCopy s.gs.groups)

/-- JOURNAL_READ (R150 to R153). -/
def journalRead (payload : List Byte) (s : State) : Acted :=
  let start := field payload 0 4
  let count := clampQ 1 64 (field payload 4 1)
  let records := s.aj.readRecords start count.value
  let st := s.aj.readStatus start count.clamped records
  ⟨{ s with aj := { s.aj with readsServed := bump s.aj.readsServed } }, readReply s st records⟩

def execJournalRead (s : State) : Out := live s (takeRequest 0x17 journalRead)

/-- The code of a GAP step (notes/assumptions/26.md) and its journal number (R154), an optional field that is absent when
no GAP record was written (notes/assumptions/25.md). -/
def gapFields : GapStep → List Fld
  | .nothing => [fx 1 1, fo 4 none]
  | .written n => [fx 1 2, fo 4 (some n)]
  | .deferred => [fx 1 3, fo 4 none]

/-- JOURNAL_RELEASE (R154, R155); the bytes freed take 4 bytes in the reply (notes/assumptions/24.md). -/
def journalRelease (payload : List Byte) (s : State) : Acted :=
  let asked := field payload 0 4
  let n := min asked s.aj.newest
  let gone := s.aj.releasedBy n
  let s1 := { s with aj := s.aj.release n }
  let s2 := s1.gap
  s2.says (okStatus (decide (s.aj.newest < asked)))
    ([fx 4 gone.length, fx 4 (totalSize gone), fx 4 s2.aj.oldest] ++ gapFields s1.aj.gapStep)

def execJournalRelease (s : State) : Out := live s (takeRequest 0x18 journalRelease)

/-- A byte of a marker text as the record holds it (R156). -/
def markByte (b : Byte) : Byte := if 0x20 ≤ b.toNat ∧ b.toNat ≤ 0x7E then b else 0x3F#8

/-- The MARKER record of a text (R156). -/
def markerOf (text : List Byte) : Marker := ⟨text.map markByte, decide (text.map markByte ≠ text)⟩

/-- JOURNAL_MARK (R156): the MARKER record joins CLU's list and the request stays IN_SERVICE until its grant (R165). -/
def journalMark (s : State) : State :=
  match s.takeableOf 0x19 with
  | none => s
  | some q =>
    let s1 := s.beginService
    { s1 with clu := { s1.clu with markers := s1.clu.markers ++ [markerOf q.payload] } }

def execJournalMark (s : State) : Out := live s journalMark

/-- Whether the codes and masks of selectors lie within 0 to 4,095 (R148). -/
def Selector.inRange (x : Selector) : Bool := decide (x.code ≤ 4095) && decide (x.mask ≤ 4095)

/-- The selectors of a SELECT_CONFIG payload, absent when a value names nothing (R148). -/
def readSelectors (bytes : List Byte) (off : Nat) : Option Selectors :=
  match selectorModeOfCode (field bytes off 1), readSelector bytes (off + 1), readSelector bytes (off + 6) with
  | some mode, some x, some y => some ⟨mode, x, y⟩
  | _, _, _ => none

/-- SELECT_CONFIG (R148). -/
def selectConfig (payload : List Byte) (s : State) : Acted :=
  match readSelectors payload 0 with
  | none => s.says .outOfRange
  | some new =>
    if new.first.inRange = true ∧ new.second.inRange = true then
      (State.admin { s with aj := { s.aj with selectors := new } } (.selectorChange s.aj.selectors new)).says .ok
    else s.says .outOfRange

def execSelectConfig (s : State) : Out := live s (takeRequest 0x1A selectConfig)

end Sys2Proof.Machine
end

