-- ==== Sys2Proof/Machine/Settings.lean ====
section
/-! DEFINITION. The Settings Store, resets, start-up and RESTART (chapter 10). -/

namespace Sys2Proof.Machine

/-! ## The stored profile (Table 10-2, R181, 11.6) -/

/-- A reference's part of the profile. -/
structure RefSettings where
  enable : Bool := true
  ceiling : Nat := 1000
  delay : Int := 0
  deriving DecidableEq, Repr

/-- The values that start-up gives the blocks; the defaults are those of Table 10-2. -/
structure Settings where
  servo : Servo := {}
  trace : Trace := {}
  refA : RefSettings := {}
  refB : RefSettings := {}
  preferred : Ref := .a
  twin : TwinQuantities := ⟨50000, 2000, 16⟩
  venue : Nat := 0
  startAtReset : Bool := false
  selectors : Selectors := {}
  enables : Enables := {}
  deriving DecidableEq, Repr

/-- A reference's part of the profile, its quantities clamped (R181). -/
def readRefSettings (bytes : List Byte) (off : Nat) : Option RefSettings :=
  (boolOfCode (field bytes off 1)).map fun enable =>
    ⟨enable, (clampCeiling (field bytes (off + 1) 4)).value, (clampDelay (fieldInt bytes (off + 5) 4)).value⟩

/-- The selectors of the profile; a code or mask above 4,095 names nothing (notes/assumptions/33.md). -/
def profileSelectors (bytes : List Byte) : Option Selectors :=
  match readSelectors bytes 51 with
  | some x => if x.first.inRange = true ∧ x.second.inRange = true then some x else none
  | none => none

/-- The values of a stored profile that passed its check, absent when a naming value names nothing (R181). -/
def readProfile (bytes : List Byte) : Option Settings :=
  match readRefSettings bytes 20, readRefSettings bytes 29, refOfCode (field bytes 38 1), boolOfCode (field bytes 50 1),
      profileSelectors bytes, readEnables bytes 62 with
  | some refA, some refB, some preferred, some start, some selectors, some enables =>
    some
      { servo := (clampServo (field bytes 0 2) (field bytes 2 2) (field bytes 4 4)).value
        trace := (clampTrace (field bytes 8 2) (field bytes 10 4) (field bytes 14 4) (field bytes 18 2)).value
        refA := refA
        refB := refB
        preferred := preferred
        twin := (clampTwin (field bytes 39 4) (field bytes 43 4) (field bytes 47 1)).value
        venue := field bytes 48 2
        startAtReset := start
        selectors := selectors
        enables := enables }
  | _, _, _, _, _, _ => none

/-- The profile as it can be loaded: its check passes and every naming value names something (R181). -/
def loadProfile (stored : List Byte) : Option Settings := if profileCheck stored then readProfile stored else none

/-! ## RESET (R179, R180, R184) -/

/-- R184: the stored profile after a save cut short, byte by byte the new value or the old one; `torn` counts such saves
(notes/assumptions/7.md). -/
def tornBytes (torn : Nat) : Nat → List Byte → List Byte → List Byte
  | i, x :: old, y :: new => (if Config.tornSaveTaken torn i then y else x) :: tornBytes torn (i + 1) old new
  | _, old, _ => old

/-- R180: the epoch issued, and whether it is exhausted. -/
structure Issued where
  epoch : Nat
  exhausted : Bool
  deriving DecidableEq, Repr

/-- R180. -/
def issueEpoch (counter : Nat) : Issued := if counter < 65535 then ⟨counter + 1, false⟩ else ⟨65535, true⟩

/-- What the non-volatile storage holds after a reset, the save in progress ended (R184). The epoch counter stays: the
first step of start-up alone raises it (R180). -/
def Store.afterReset (x : Store) : Store :=
  { epochCounter := x.epochCounter
    profile := match x.save with | some sv => tornBytes x.torn 0 x.profile sv.copy | none => x.profile
    torn := match x.save with | some _ => x.torn + 1 | none => x.torn }

/-- The part held in reset: what is not non-volatile, fixed in the part or the model's own returns to its first value
(notes/assumptions/38.md). The cause is that of the latest reset, also when the part was held and no start-up had begun
(notes/assumptions/16.md). -/
def resetHeld (cause : ResetCause) (s : State) : State where
  power := .held cause
  cause := cause
  epoch := s.ss.epochCounter
  serial := s.serial
  gs := { demands := s.gs.demands }
  ss := s.ss.afterReset
  pending := s.pending

/-- RESET (R179): taken in every state, that of a reset already held included. One asserted during start-up is taken
before START_UP or after it, as the epoch counter had been written back or not (notes/assumptions/16.md). -/
def execReset (cause : ResetCause) (s : State) : Out := .next (resetHeld cause s)

/-! ## START_UP (R180 to R182) -/

/-- R37: a monitor at start-up. -/
def startMonitor (x : RefSettings) : Monitor :=
  if x.enable then { state := .candidate, ceiling := x.ceiling, missingTimer := some missingTicks }
  else { state := .disabled, ceiling := x.ceiling, missingTimer := none }

/-- R15: the Time Base at start-up. -/
def startTimeBase (x : Settings) : TimeBase where
  servo := ⟨x.servo, none⟩
  trace := ⟨x.trace, none⟩
  delayA := ⟨x.refA.delay, none⟩
  delayB := ⟨x.refB.delay, none⟩

/-- R80: TLU at start-up; with the start-at-reset flag it begins in DETACHED. -/
def startTwin (x : Settings) : TwinLink where
  state := if x.startAtReset then .detached else .off
  limit := x.twin.limit
  allowance := x.twin.allowance
  period := x.twin.period
  venue := x.venue
  startAtReset := x.startAtReset

/-- R180, R181: every block at its initial state (R15, R37, R61, R80, R98, R113, R137, R160, R177). -/
def blocksSet (cause : ResetCause) (i : Issued) (x : Settings) (status : SettingsStatus) (s : State) : State where
  power := .running
  cause := cause
  epoch := i.epoch
  serial := s.serial
  tb := startTimeBase x
  monA := startMonitor x.refA
  monB := startMonitor x.refB
  du := { preferred := x.preferred }
  tlu := startTwin x
  sa := { exhausted := i.exhausted }
  gs := { demands := s.gs.demands }
  aj := { chain := BitVec.ofNat 32 i.epoch, selectors := x.selectors }
  clu := { enables := x.enables }
  ss := { s.ss with epochCounter := i.epoch, status := status, save := none }
  pending := s.pending

/-- R80: the first OFFER of a part whose start-at-reset flag is set (notes/assumptions/23.md). -/
def State.offerAtStart (s : State) : State :=
  if s.tlu.startAtReset then s.openOffer.twinChanged .detached .offer none else s

/-- R180 to R182: start-up from a reset of a cause. -/
def startUpFrom (cause : ResetCause) (s : State) : State :=
  let i := issueEpoch s.ss.epochCounter
  let loaded := loadProfile s.ss.profile
  let status : SettingsStatus := if loaded.isSome then .loaded else .defaulted
  let s1 := blocksSet cause i (loaded.getD {}) status s
  let s2 := s1.admin (.startup cause i.epoch i.exhausted status)
  (s2.notice .startup (startupNotice cause i.epoch i.exhausted status s.serial)).offerAtStart

/-- START_UP (R180): the reset cause has ended (notes/assumptions/16.md). -/
def startUp (s : State) : State :=
  match s.power with
  | .running => s
  | .held cause => startUpFrom cause s

def execStartUp (s : State) : Out := .next (startUp s)

/-! ## SETTINGS_SAVE (R183) -/

/-- R183: the copy gathered at the taking of the request, and which slots had a pending record. -/
def State.gatherSave (s : State) : Save where
  copy := closeProfile (gatherProfile s)
  pendingServo := s.tb.servo.pending.isSome
  pendingTrace := s.tb.trace.pending.isSome
  pendingA := s.tb.delayA.pending.isSome
  pendingB := s.tb.delayB.pending.isSome

/-- SETTINGS_SAVE (R183): the save begins, and the request stays IN_SERVICE. -/
def settingsSave (s : State) : State :=
  match s.takeableOf 0x1C with
  | none => s
  | some _ => { s.beginService with ss := { s.ss with save := some s.gatherSave } }

def execSettingsSave (s : State) : Out := live s settingsSave

/-- The outcome of a save whose copy is read back as `readBack` (R183). -/
def Save.outcome (x : Save) (readBack : List Byte) : SaveOutcome := if readBack = x.copy then .saved else .failed

/-- The values of the SETTINGS_SAVE reply (R183): the outcome, and the list of the four slots with its count (R188, 5). -/
def Save.reply (x : Save) (o : SaveOutcome) : List Fld :=
  [fx 1 (SaveOutcome.toCode o), fx 1 4, fx 1 (boolCode x.pendingServo), fx 1 (boolCode x.pendingTrace),
   fx 1 (boolCode x.pendingA), fx 1 (boolCode x.pendingB)]

/-- SETTINGS_SAVE_COMPLETE (R183): the storage holds what is read back (notes/assumptions/17.md). -/
def settingsSaveComplete (readBack : List Byte) (s : State) : State :=
  match s.ss.save with
  | none => s
  | some sv =>
    if readBack.length = 73 then
      let s1 := { s with ss := { s.ss with profile := readBack, save := none } }
      (s1.admin (.settingsSaved (sv.outcome readBack))).answerInService
        (replyPayload .ok (sv.reply (sv.outcome readBack)))
    else s

def execSettingsSaveComplete (readBack : List Byte) (s : State) : Out := live s (settingsSaveComplete readBack)

/-! ## RESTART (R185, R178) -/

/-- The notice enables that RESTART takes from the stored profile (R178, R185). -/
def restartEnables (stored : List Byte) : Enables :=
  if profileCheck stored then (readEnables stored 62).getD {} else {}

/-- Ports that are OPEN, DRAINING or FAULTED. -/
def State.portsNotClosed (s : State) : Nat := ((List.finRange 8).filter fun p => decide ((s.port p).state ≠ .closed)).length

/-- WAITING entries of all ports. -/
def State.waitingEntries (s : State) : Nat := ((List.finRange 8).map fun p => waitingCount (s.port p).requests).sum

/-- The stored phase of a group after its catch-up. -/
def State.phaseCaughtUp (s : State) (g : GroupIx) : Phase := ((s.catchUp g s.dating false).group g).phase

/-- Whether RESTART abandons a group (R138). -/
def State.willAbandon (s : State) (g : GroupIx) : Bool :=
  match s.phaseCaughtUp g with
  | .scheduled | .call | .random | .suspended => true
  | .dormant | .closed | .abandoned => false

/-- Whether RESTART's catch-up closes a group (R138). -/
def State.willClose (s : State) (g : GroupIx) : Bool :=
  decide ((s.group g).phase ≠ .closed) && decide (s.phaseCaughtUp g = .closed)

/-- The values of the RESTART reply, from the state before the restart (R185); its four numbers take one byte each
(notes/assumptions/24.md). -/
def State.restartReply (s : State) : List Fld :=
  [fx 1 s.portsNotClosed, fx 1 s.waitingEntries, fx 1 ((List.finRange 16).filter s.willAbandon).length,
   fx 1 ((List.finRange 16).filter s.willClose).length] ++ enableFields (restartEnables s.ss.profile)

/-- R178, step 2: WAITING entries become ANSWER_BUSY. -/
def ControlRequest.answerLater (q : ControlRequest) : ControlRequest :=
  match q.status with
  | .waiting => { q with status := .answerBusy }
  | .inService | .answerBusy => q

/-- R178, steps 2 and 3. -/
def State.restartControl (s : State) : State :=
  { s with
    clu :=
      { s.clu with
        queue := s.clu.queue.map ControlRequest.answerLater
        enables := restartEnables s.ss.profile
        tick := .off } }

/-- R185, steps 1 to 3. -/
def State.restartBlocks (s : State) : State := s.restartPorts.restartGroups.admin .restart

/-- RESTART (R185). -/
def restart (s : State) : State :=
  match s.takeableOf 0x1D with
  | none => s
  | some q =>
    let s1 := s.beginService
    (s1.restartBlocks.answer q (replyPayload .ok s1.restartReply)).restartControl

def execRestart (s : State) : Out := live s restart

end Sys2Proof.Machine
end

