-- ==== Sys2Proof/Machine/Dispatch.lean ====
section
/-! DEFINITION. The dispatch of the commands: one arm for each row of spec/opcode_table.json. -/

namespace Sys2Proof.Machine

def exec (i : Instr) (s : State) : Host.Outcome State Fault Refusal :=
  match i with
  | .reset cause => Sys2Proof.Machine.execReset cause s
  | .startUp => Sys2Proof.Machine.execStartUp s
  | .oscillatorTick => Sys2Proof.Machine.execOscillatorTick s
  | .secondBoundary => Sys2Proof.Machine.execSecondBoundary s
  | .callStartExpiry => Sys2Proof.Machine.execCallStartExpiry s
  | .windowStartExpiry => Sys2Proof.Machine.execWindowStartExpiry s
  | .closeExpiry => Sys2Proof.Machine.execCloseExpiry s
  | .markEdge r => Sys2Proof.Machine.execMarkEdge r s
  | .timeMessage r bytes => Sys2Proof.Machine.execTimeMessage r bytes s
  | .messageWaitExpiry r => Sys2Proof.Machine.execMessageWaitExpiry r s
  | .missingMarkExpiry r => Sys2Proof.Machine.execMissingMarkExpiry r s
  | .twinBadFrame bytes => Sys2Proof.Machine.execTwinBadFrame bytes s
  | .offerReceived bytes => Sys2Proof.Machine.execOfferReceived bytes s
  | .acceptReceived bytes => Sys2Proof.Machine.execAcceptReceived bytes s
  | .refuseReceived bytes => Sys2Proof.Machine.execRefuseReceived bytes s
  | .byeReceived bytes => Sys2Proof.Machine.execByeReceived bytes s
  | .probeReceived bytes => Sys2Proof.Machine.execProbeReceived bytes s
  | .echoReceived bytes => Sys2Proof.Machine.execEchoReceived bytes s
  | .statusReceived bytes => Sys2Proof.Machine.execStatusReceived bytes s
  | .twinFrameSend => Sys2Proof.Machine.execTwinFrameSend s
  | .offerTimerExpiry => Sys2Proof.Machine.execOfferTimerExpiry s
  | .retryTimerExpiry => Sys2Proof.Machine.execRetryTimerExpiry s
  | .probeSpacingExpiry => Sys2Proof.Machine.execProbeSpacingExpiry s
  | .probeTimeout => Sys2Proof.Machine.execProbeTimeout s
  | .checkTimerExpiry => Sys2Proof.Machine.execCheckTimerExpiry s
  | .statusAgeLimit => Sys2Proof.Machine.execStatusAgeLimit s
  | .stampRequestFrame p bytes => Sys2Proof.Machine.execStampRequestFrame p bytes s
  | .stampLengthFault p bytes => Sys2Proof.Machine.execStampLengthFault p bytes s
  | .stampGrant => Sys2Proof.Machine.execStampGrant s
  | .internalGrant => Sys2Proof.Machine.execInternalGrant s
  | .unsequencedHandoff => Sys2Proof.Machine.execUnsequencedHandoff s
  | .portTransmitStart p => Sys2Proof.Machine.execPortTransmitStart p s
  | .portReplySent p => Sys2Proof.Machine.execPortReplySent p s
  | .controlFrame bytes => Sys2Proof.Machine.execControlFrame bytes s
  | .controlBadLength bytes => Sys2Proof.Machine.execControlBadLength bytes s
  | .answerBusyReply => Sys2Proof.Machine.execAnswerBusyReply s
  | .unknownRequest => Sys2Proof.Machine.execUnknownRequest s
  | .controlTransmitStart => Sys2Proof.Machine.execControlTransmitStart s
  | .controlFrameSent => Sys2Proof.Machine.execControlFrameSent s
  | .identify => Sys2Proof.Machine.execIdentify s
  | .statusClock => Sys2Proof.Machine.execStatusClock s
  | .statusRef => Sys2Proof.Machine.execStatusRef s
  | .statusTwin => Sys2Proof.Machine.execStatusTwin s
  | .statusPort => Sys2Proof.Machine.execStatusPort s
  | .statusGroup => Sys2Proof.Machine.execStatusGroup s
  | .statusJournal => Sys2Proof.Machine.execStatusJournal s
  | .clockSet => Sys2Proof.Machine.execClockSet s
  | .refConfig => Sys2Proof.Machine.execRefConfig s
  | .servoConfig => Sys2Proof.Machine.execServoConfig s
  | .traceConfig => Sys2Proof.Machine.execTraceConfig s
  | .twinConfig => Sys2Proof.Machine.execTwinConfig s
  | .twinStart => Sys2Proof.Machine.execTwinStart s
  | .twinStop => Sys2Proof.Machine.execTwinStop s
  | .portOpen => Sys2Proof.Machine.execPortOpen s
  | .portClose => Sys2Proof.Machine.execPortClose s
  | .groupSchedule => Sys2Proof.Machine.execGroupSchedule s
  | .groupExtend => Sys2Proof.Machine.execGroupExtend s
  | .groupSuspend => Sys2Proof.Machine.execGroupSuspend s
  | .groupResume => Sys2Proof.Machine.execGroupResume s
  | .groupAbandon => Sys2Proof.Machine.execGroupAbandon s
  | .groupClear => Sys2Proof.Machine.execGroupClear s
  | .journalRead => Sys2Proof.Machine.execJournalRead s
  | .journalRelease => Sys2Proof.Machine.execJournalRelease s
  | .journalMark => Sys2Proof.Machine.execJournalMark s
  | .selectConfig => Sys2Proof.Machine.execSelectConfig s
  | .noticeConfig => Sys2Proof.Machine.execNoticeConfig s
  | .settingsSave => Sys2Proof.Machine.execSettingsSave s
  | .settingsSaveComplete readBack => Sys2Proof.Machine.execSettingsSaveComplete readBack s
  | .restart => Sys2Proof.Machine.execRestart s
  | .refByteDiscarded r byte => Sys2Proof.Machine.execRefByteDiscarded r byte s
  | .twinByteDiscarded byte => Sys2Proof.Machine.execTwinByteDiscarded byte s
  | .portByteDiscarded p byte => Sys2Proof.Machine.execPortByteDiscarded p byte s
  | .controlByteDiscarded byte => Sys2Proof.Machine.execControlByteDiscarded byte s

end Sys2Proof.Machine
end

