-- ==== Sys2Proof/Safety.lean ====
section
/-! DEFINITION. The words in which statements speak about the part: what a command may change, when a request can be
taken, and the invariants that the rules of the manual give each block. -/

namespace Sys2Proof.Machine

/-! ## Frames -/

/-- The parts of the state that a frame names. -/
inductive Block where
  | power | cause | epoch | serial | tick | tb
  | mon (r : Ref)
  | du | tlu
  | port (p : PortIx)
  | sa
  | group (g : GroupIx)
  | auctions | demands | aj | clu | ss | pending
  deriving DecidableEq, Repr

/-- Two states hold the same in a block. -/
def State.agreesOn (s t : State) : Block → Prop
  | .power => t.power = s.power
  | .cause => t.cause = s.cause
  | .epoch => t.epoch = s.epoch
  | .serial => t.serial = s.serial
  | .tick => t.tick = s.tick
  | .tb => t.tb = s.tb
  | .mon r => t.mon r = s.mon r
  | .du => t.du = s.du
  | .tlu => t.tlu = s.tlu
  | .port p => t.port p = s.port p
  | .sa => t.sa = s.sa
  | .group g => t.group g = s.group g
  | .auctions => t.gs.records = s.gs.records
  | .demands => t.gs.demands = s.gs.demands
  | .aj => t.aj = s.aj
  | .clu => t.clu = s.clu
  | .ss => t.ss = s.ss
  | .pending => t.pending = s.pending

/-- `t` holds what `s` holds, but for the blocks listed. -/
def State.SameBut (s t : State) (bs : List Block) : Prop := ∀ b, b ∉ bs → s.agreesOn t b

/-- The eight port blocks. -/
def allPorts : List Block := (List.finRange 8).map Block.port

/-- The sixteen group blocks. -/
def allGroups : List Block := (List.finRange 16).map Block.group

/-! ## Requests and replies -/

/-- CLU can take the front request of the queue, which is of a kind and of an allowed length (R164, R165). -/
abbrev State.CanTake (s : State) (kind : Nat) (q : ControlRequest) : Prop :=
  s.power = .running ∧ s.clu.queue.head? = some q ∧ q.status = .waiting ∧ q.kind.toNat = kind ∧
    lengthAllowed kind q.payload.length = true ∧ s.clu.replies.length < replyListMax

/-- The frame of a reply to a request (11.2). -/
def replyFrame (q : ControlRequest) (payload : List Byte) : ControlFrame := ⟨replyKind q.kind, q.tag, payload⟩

/-- The request has left the queue, counted as served, and its reply stands at the back of the reply list (R165). -/
def State.Replied (s t : State) (q : ControlRequest) (payload : List Byte) : Prop :=
  t.clu.queue = s.clu.queue.tail ∧ t.clu.replies = s.clu.replies ++ [replyFrame q payload] ∧
    t.clu.counters = { s.clu.counters with served := bump s.clu.counters.served }

/-- The state with the front request answered and nothing else changed. -/
def State.answered (s : State) (q : ControlRequest) (payload : List Byte) : State :=
  { s with
    clu :=
      { s.clu with
        queue := s.clu.queue.tail
        replies := s.clu.replies ++ [replyFrame q payload]
        counters := { s.clu.counters with served := bump s.clu.counters.served } } }

/-- The expected tail of a queue whose front is taken into service, as a block sees it while it acts. -/
def State.inService (s : State) : State := { s with clu := { s.clu with queue := serveFront s.clu.queue } }

/-! ## Lost CLOCK records -/

/-- What a CLOCK record formed while 32 wait in DU's list does to the journal (R58, R145, R158): it is lost without a
sequence, counted in the tally and among the lost CLOCK records, and raises a LOSS notice when the tally was zero (its
layout is notes/assumptions/24.md and 44.md). -/
def State.losesClock (s : State) : State :=
  let tally : Tally := { s.aj.tally with others := min 4294967295 (s.aj.tally.others + 1) }
  { s with
    aj := { s.aj with
      tally := tally
      lost := { s.aj.lost with clock := min 4294967295 (s.aj.lost.clock + 1) } }
    clu :=
      if s.aj.tally.stamps = 0 ∧ s.aj.tally.others = 0 then s.clu.notice .journal
        ([fx 1 3, fx 4 s.aj.used, fx 4 (32768 - s.aj.used), fx 4 s.aj.pool.length, fx 4 s.aj.oldest, fx 4 s.aj.newest] ++
          tallyFields tally ++ [fx 8 s.dating, fo 1 (some 2), fo 8 none])
      else s.clu }

/-! ## Frames of the twin and its evaluations -/

/-- R64: a frame formed joins the back of the transmit list, and is dropped and counted when 8 wait. -/
def TwinLink.joined (x : TwinLink) (f : TwinFrame) : TwinLink :=
  { x with
    transmit := if x.transmit.length < 8 then x.transmit ++ [f] else x.transmit
    counters :=
      { x.counters with
        transmitDrops :=
          if x.transmit.length < 8 then x.counters.transmitDrops else min 4294967295 (x.counters.transmitDrops + 1) } }

/-- What a successful evaluation with the result `m` leaves (R72, R74 to R76). TLU holds the result, is AGREED when |θ| is
within the twin limit, the offset becoming the last agreed one, and DISAGREE otherwise, and forms a STATUS frame. DU is
contested when TLU has become DISAGREE, and not when it has become AGREED, with a CONTESTED record of the change (R55). In
AGREED, with a TRACEABLE status no older than 2 × P, the assisted anchor of Equation 3 is held out and handed to DU (twin B
is free when the status carries none, notes/assumptions/9.md); otherwise one held out is withdrawn. -/
def State.Evaluated (s t : State) (m : Measured) (checkTimer : Option Nat) : Prop :=
  let agrees := m.theta.natAbs ≤ s.tlu.limit
  let st : TwinState := if agrees then .agreed else .disagree
  let age := min 4294967295 ((s.tick - s.tlu.statusTick) / 125000000)
  let contested := if st = s.tlu.state then s.du.contested else decide (st = .disagree)
  s.SameBut t [.tlu, .du, .aj, .clu] ∧
  t.tlu = TwinLink.joined
    { s.tlu with
      state := st
      measured := some m
      agreed := if agrees then some m.theta else s.tlu.agreed
      failures := 0
      probes := []
      checkTimer := checkTimer
      heldOut := t.tlu.heldOut }
    (.status ⟨s.du.trace, s.du.bound, s.du.mode, s.du.selection, s.epoch⟩) ∧
  t.du = { s.du with contested := contested, assisted := t.du.assisted, records := t.du.records } ∧
  (contested = s.du.contested → t.du.records = s.du.records) ∧
  (contested ≠ s.du.contested → s.du.records.length < 32 → t.du.records = s.du.records ++
    [⟨if agrees then .contestedClear .agreed (some m.theta) else .contestedSet m.theta s.tlu.limit, s.du.mode,
      s.du.bound⟩]) ∧
  (∀ x, s.tlu.status = some x → agrees → x.trace = .traceable → age ≤ 2 * s.tlu.period →
    ∃ b : Nat, (∀ v, x.bound = some v → b = v) ∧ t.du.assisted = t.tlu.heldOut ∧
      t.tlu.heldOut = some ⟨min 4294967295 (b + m.theta.natAbs + s.tlu.allowance + 16), max s.tb.raw s.tb.hwm⟩) ∧
  ((¬ agrees ∨ s.tlu.status = none ∨ (∃ x, s.tlu.status = some x ∧ x.trace ≠ .traceable) ∨ 2 * s.tlu.period < age) →
    t.tlu.heldOut = none ∧ t.du.assisted = if s.tlu.heldOut.isSome then none else s.du.assisted)

/-! ## Invariants -/

/-- The Time Base keeps its ranges, and INC corresponds to the rate word (Table 1-1, R2). -/
abbrev TimeBase.Wf (x : TimeBase) : Prop :=
  x.raw ≤ max64 ∧ x.hwm ≤ max64 ∧ x.frac < fracUnit ∧ -200000000 ≤ x.rate ∧ x.rate ≤ 200000000 ∧
    (x.inc : Int) = 34359738368 + rateDelta x.rate

/-- What a slot of the settings table holds, active and pending, meets a range (Table 1-1). -/
abbrev Slot.All {α : Type} (p : α → Prop) (x : Slot α) : Prop := p x.active ∧ ∀ v, x.pending = some v → p v

/-- The ranges of a SERVO record (Table 9-2). -/
abbrev Servo.InRange (x : Servo) : Prop := x.gp ≤ 1000 ∧ x.gi ≤ 250 ∧ 10000 ≤ x.threshold ∧ x.threshold ≤ 10000000

/-- The ranges of a TRACE record (Table 9-2): the advisory threshold is never above the limit. -/
abbrev Trace.InRange (x : Trace) : Prop :=
  1 ≤ x.growth ∧ x.growth ≤ 10000 ∧ 1000 ≤ x.advisory ∧ x.advisory ≤ x.limit ∧ x.limit ≤ 1000000 ∧
    10 ≤ x.interval ∧ x.interval ≤ 3600

/-- The range of a cable delay (Table 9-2). -/
abbrev delayInRange (d : Int) : Prop := -100000 ≤ d ∧ d ≤ 100000

/-- The range of a UTC offset (Table 1-1). -/
abbrev offsetInRange (o : Int) : Prop := -128 ≤ o ∧ o ≤ 127

/-- The settings keep the ranges to which they are clamped or refused, and the UTC offsets theirs (Tables 1-1 and 9-2,
R35, R78, R148). -/
abbrev State.SettingsWf (s : State) : Prop :=
  s.tb.servo.All Servo.InRange ∧ s.tb.trace.All Trace.InRange ∧ s.tb.delayA.All delayInRange ∧
    s.tb.delayB.All delayInRange ∧ offsetInRange s.tb.utcOffset ∧
    (∀ r, 10 ≤ (s.mon r).ceiling ∧ (s.mon r).ceiling ≤ 1000000 ∧
      ∀ o, (s.mon r).adopted = some o → offsetInRange o) ∧
    1000 ≤ s.tlu.limit ∧ s.tlu.limit ≤ 1000000 ∧ s.tlu.allowance ≤ 100000 ∧ 4 ≤ s.tlu.period ∧ s.tlu.period ≤ 60 ∧
    s.tlu.venue ≤ 65535 ∧ s.aj.selectors.first.inRange = true ∧ s.aj.selectors.second.inRange = true

/-- The two balances of R110, and the range of the counter. -/
abbrev Allocator.Conserved (x : Allocator) : Prop :=
  x.granted = x.recorded + x.notSelected + x.lost ∧ x.seq = x.granted + x.duGrants + x.gsGrants + x.cluGrants ∧
    x.seq ≤ max64

/-- Records carry consecutive journal numbers from `n`. -/
def numbersFrom : Nat → List Record → Bool
  | _, [] => true
  | n, r :: rs => decide (r.number = n) && numbersFrom (n + 1) rs

/-- The pool of the journal (Table 8-3, R141): used bytes, consecutive numbers up to the newest issued. -/
abbrev Journal.Wf (x : Journal) : Prop :=
  x.used = totalSize x.pool ∧ x.used ≤ poolSize ∧ numbersFrom x.oldest x.pool = true ∧
    (∀ n, x.next = some n → 1 ≤ n ∧ n ≤ max32) ∧ (x.pool ≠ [] → 1 ≤ x.oldest ∧ x.oldest + x.pool.length = x.newest + 1)

/-- Marker texts hold at most 32 bytes, and records at most the 104 bytes of the longest kind (R156, Table 8-1). -/
abbrev State.RecordsFit (s : State) : Prop :=
  (∀ m ∈ s.clu.markers, m.text.length ≤ 32) ∧ ∀ r ∈ s.aj.pool, r.body.size ≤ 104

/-- The fault score a port state allows (R84). -/
def Port.scoreRange (x : Port) : Bool :=
  match x.state with
  | .closed => decide (x.score = 0)
  | .opened | .draining => decide (x.score ≤ 63)
  | .faulted => decide (64 ≤ x.score) && decide (x.score ≤ 67)

/-- No REFUSING entry stands behind a WAITING one (5.1). -/
def refusingFirst : List StampRequest → Bool
  | [] => true
  | q :: rest =>
    match q.status with
    | .refusing _ => refusingFirst rest
    | .waiting => decide (refusingCount rest = 0)

/-- A stamp port keeps Table 5-1 and the score ranges of R84; CLOSED and FAULTED ports hold no WAITING entry, and a drain
has entries left (R85, R95, R99). -/
abbrev Port.Wf (x : Port) : Prop :=
  x.scoreRange = true ∧ x.requests.length ≤ portQueueMax ∧ x.replies.length ≤ portReplyMax ∧
    refusingFirst x.requests = true ∧ (x.openForClock = false → waitingCount x.requests = 0) ∧
    (x.state = .draining → x.requests ≠ [])

/-- What a qualification state says of the score and the runs (Table 2-4, R28 to R32). -/
def Monitor.scoreRange (x : Monitor) : Bool :=
  match x.state with
  | .disabled => decide (x.score = 0) && decide (x.goodRun = 0) && decide (x.recoveryRun = 0)
  | .candidate => decide (x.score ≤ 95) && decide (x.goodRun < 16) && decide (x.recoveryRun = 0)
  | .qualified => decide (x.score < 32) && decide (x.recoveryRun = 0)
  | .watch => decide (32 ≤ x.score) && decide (x.score ≤ 95) && decide (x.recoveryRun = 0)
  | .excluded => decide (x.score = 96) && decide (x.goodRun = 0) && decide (x.recoveryRun < 60)

/-- A monitor keeps its score ranges; the message wait runs exactly while a mark is pending (2.1.2); a disabled monitor
has no pending mark and no timer (R32); a usable or running-up reference has an adopted offset (R40). -/
abbrev Monitor.Wf (x : Monitor) : Prop :=
  x.scoreRange = true ∧ x.pendingMark.isSome = x.messageWait.isSome ∧
    (x.state = .disabled → x.pendingMark = none ∧ x.missingTimer = none) ∧
    (x.state = .qualified ∨ x.state = .watch ∨ 0 < x.goodRun ∨ 0 < x.recoveryRun → x.adopted.isSome = true)

/-- A reference that DU may use (2.6). -/
def QualState.usable : QualState → Bool
  | .qualified | .watch => true
  | .disabled | .candidate | .excluded => false

/-- The Discipline Unit (3.1, 3.2): the disciplining reference is QUALIFIED or WATCH; an anchor is present in every mode
except UNSET; in UNSET no port is open for the clock and I and R are 0; I and R keep their ranges, and R is the rate TB
holds; in SLEWING R is −200,000,000. -/
abbrev State.DisciplineWf (s : State) : Prop :=
  (∀ r, s.du.selection = some r → (s.mon r).state.usable = true) ∧
    (s.du.mode = .unset ↔ s.du.anchor = none) ∧
    (s.du.mode = .unset → s.anyPortOpen = false ∧ s.du.integral = 0 ∧ s.du.rate = 0) ∧
    -200000000 ≤ s.du.integral ∧ s.du.integral ≤ 200000000 ∧ -200000000 ≤ s.du.rate ∧ s.du.rate ≤ 200000000 ∧
    s.tb.rate = s.du.rate ∧ (s.du.mode = .slewing → s.du.rate = -200000000)

/-- TLU and DU hold the same assisted anchor, and hold one out only while an attachment stands (R52, R76); the transmit
list holds at most 8 frames (R64), the probe table at most 8 probes, and the spacing timer runs only while the cycle has
another probe to form (R72). -/
abbrev State.TwinWf (s : State) : Prop :=
  s.tlu.heldOut = s.du.assisted ∧ (s.tlu.heldOut.isSome = true → s.tlu.state.attached = true) ∧
    s.tlu.transmit.length ≤ twinListMax ∧ s.tlu.probes.length ≤ 8 ∧
    (s.tlu.spacingTimer.isSome = true → s.tlu.probes.length < s.tlu.state.cycleLength)

/-- Which optional fields a stored phase has (Table 7-2). -/
def Group.fieldsOf (x : Group) : Bool :=
  match x.phase with
  | .dormant =>
    x.tc.isNone && x.tMin.isNone && x.window.isNone && x.draw.isNone && x.tEnd.isNone && x.extensions.isEmpty &&
      decide (x.accepted = 0) && x.lastSeq.isNone && x.cause.isNone && x.closeQuality.isNone
  | .scheduled | .call | .random =>
    x.tc.isSome && x.tMin.isSome && x.window.isSome && x.draw.isSome && x.tEnd.isSome && x.cause.isNone &&
      x.closeQuality.isNone
  | .suspended =>
    x.tc.isSome && x.tMin.isSome && x.window.isSome && x.draw.isSome && x.tEnd.isNone && x.cause.isSome &&
      x.closeQuality.isNone
  | .closed =>
    x.tc.isSome && x.tMin.isSome && x.window.isSome && x.draw.isSome && x.tEnd.isSome && x.cause.isNone &&
      x.closeQuality.isSome
  | .abandoned =>
    x.tc.isSome && x.tMin.isSome && x.window.isSome && x.draw.isSome && x.cause.isNone && x.closeQuality.isNone

/-- The draws of the current auction are sealed before its end and revealed after it (R118, Table 7-2). -/
def Group.sealedUntilEnd (x : Group) : Bool :=
  match x.phase with
  | .scheduled | .call | .random | .suspended => decide (x.revealed < x.number)
  | .closed | .abandoned => decide (x.revealed = x.number)
  | .dormant => decide (x.revealed ≤ x.number)

/-- A group record follows Table 7-2, its draw lies within its window (R117), its extension list within four entries
(R126), its auction number within 65,535, and its draws are sealed until its end. -/
abbrev Group.Wf (x : Group) : Prop :=
  x.fieldsOf = true ∧ x.sealedUntilEnd = true ∧ x.extensions.length ≤ extensionMax ∧ x.number ≤ 65535 ∧
    x.draw.getD 0 ≤ 1000 * x.window.getD 0 ∧ x.window.getD 0 ≤ 600

/-- No entry but the front one is IN_SERVICE. -/
def noneInService (queue : List ControlRequest) : Bool := queue.all fun q => decide (q.status ≠ .inService)

/-- The control link keeps Table 9-1, and the reply to a taken request always finds a free place (R164, R166). -/
abbrev Control.Wf (x : Control) : Prop :=
  x.queue.length ≤ requestQueueMax ∧ x.notices.length ≤ noticeListMax ∧ x.repliesHeld ≤ replyListMax ∧
    noneInService x.queue.tail = true

end Sys2Proof.Machine
end

