-- ==== Sys2Proof/Certificates/Slice0/Obligations.lean ====
section
/-! DEFINITION. The statements for the provers: what the commands do and leave as it is, and the invariants that every
step keeps. Each names the rules of spec/ it formalises. -/

section
open Sys2Proof Sys2Proof.Machine

/-! ## The queue of commands, resets and start-up -/

/-- The step takes the command at the front of the queue and runs it on the state with the queue's rest. -/
def Obligations.StepRunsFrontCommand : Prop :=
  ∀ (c : Instr) (rest : List Instr) (s : State), s.pending = c :: rest → step s = exec c { s with pending := rest }

/-- Every command is answered with a next state, and none changes the commands that wait or the serial number: an event
that cannot occur in the state leaves it as it is (the model's choice, notes/assumptions/1.md). An empty queue leaves
the part as it is (the model's choice, notes/assumptions/2.md). While a reset is held the part takes nothing but a reset
and its end (R179). -/
def Obligations.EveryCommandAnswersAndKeepsTheQueue : Prop :=
  (∀ (c : Instr) (s : State), ∃ t, exec c s = .next t ∧ t.pending = s.pending ∧ t.serial = s.serial) ∧
    (∀ s : State, s.pending = [] → step s = .next s) ∧
    ∀ (c : Instr) (cause : ResetCause) (s : State),
      s.power = .held cause → (∀ k, c ≠ .reset k) → c ≠ .startUp → exec c s = .next s

/-- RESET is taken in every state and holds the part with its cause (R179; that of the latest reset where the part was
held already, notes/assumptions/16.md). The epoch counter stays: start-up alone raises it (R180). A start-up that the
next reset ends shows in the epoch counter alone, which it stepped. Each byte of the stored profile stays, or holds the
new value when the reset cuts a save short: the byte as the unit of that mixture is the model's choice (R184,
notes/assumptions/7.md). What of the volatile state is cleared at once is notes/assumptions/38.md. -/
def Obligations.ResetHoldsThePart : Prop :=
  ∀ (cause : ResetCause) (s : State), ∃ t, exec (.reset cause) s = .next t ∧
    t.power = .held cause ∧ t.cause = cause ∧ t.ss.save = none ∧ t.epoch = t.ss.epochCounter ∧
    t.ss.epochCounter = s.ss.epochCounter ∧
    (∀ k, s.power = .held k → ∃ u v, exec .startUp s = .next u ∧ exec (.reset cause) u = .next v ∧
      v.power = .held cause ∧ v.cause = cause ∧ v.ss.epochCounter = min 65535 (s.ss.epochCounter + 1) ∧
      v.ss.profile = s.ss.profile ∧ v.aj = {} ∧ v.clu = {}) ∧
    t.serial = s.serial ∧ t.pending = s.pending ∧ t.ss.profile.length = s.ss.profile.length ∧
    (s.ss.save = none → t.ss.profile = s.ss.profile) ∧
    ∀ (sv : Save) (i : Nat), s.ss.save = some sv →
      t.ss.profile[i]? = s.ss.profile[i]? ∨ t.ss.profile[i]? = sv.copy[i]?

/-- START_UP of a held part issues the next epoch, or the last one again as exhausted (R180), judges the stored profile
and takes its values or the defaults of Table 10-2 (R181), gives every block its first state (R15, R37, R61, R80, R98,
R113, R137, R160, R177), the tally, level notices and counters of the journal and the receivers, lists, transmitter and
counters of CLU among it, stores the STARTUP record as journal number 1, dated 0 and chained from the epoch (R182, R160,
R149), and raises the STARTUP notice when its class is on (R182). With the start-at-reset flag TLU forms its first OFFER
(R80); the TWIN notice of that offer is notes/assumptions/23.md. -/
def Obligations.StartUpGivesTheFirstState : Prop :=
  ∀ (cause : ResetCause) (s : State), s.power = .held cause → ∃ t, exec .startUp s = .next t ∧
    t.power = .running ∧ t.cause = cause ∧ t.tick = 0 ∧
    t.epoch = min 65535 (s.ss.epochCounter + 1) ∧ t.ss.epochCounter = t.epoch ∧
    (t.sa.exhausted = true ↔ 65535 ≤ s.ss.epochCounter) ∧ t.sa = { exhausted := t.sa.exhausted } ∧
    (t.ss.status = .loaded ↔ (loadProfile s.ss.profile).isSome = true) ∧ t.ss.profile = s.ss.profile ∧
    t.ss.save = none ∧
    t.tb.raw = 0 ∧ t.tb.frac = 0 ∧ t.tb.rate = 0 ∧ t.tb.inc = 34359738368 ∧ t.tb.hwm = 0 ∧ t.tb.utcOffset = 0 ∧
    t.tb.boundaries = [] ∧ t.tb.servo.pending = none ∧ t.tb.trace.pending = none ∧ t.tb.delayA.pending = none ∧
    t.tb.delayB.pending = none ∧
    t.du = { preferred := t.du.preferred } ∧ (∀ p, t.port p = {}) ∧ (∀ g, t.group g = {}) ∧ t.gs.records = [] ∧
    t.gs.demands = s.gs.demands ∧
    (let body : Body := .admin 0 (.startup cause t.epoch t.sa.exhausted t.ss.status)
     let chain := crc32 (recordBytes 1 (BitVec.ofNat 32 t.epoch) false body)
     t.aj =
       { pool := [⟨1, chain, body⟩]
         used := 40
         next := some 2
         chain := chain
         tally := ⟨0, 0, none⟩
         selectors := t.aj.selectors
         level50 := .armed
         level75 := .armed
         stored := { admin := 1 } }) ∧
    t.clu =
      { rx := []
        queue := []
        replies := []
        notices := t.clu.notices
        tx := .idle
        enables := t.clu.enables
        tick := .off
        noticesLost := 0
        markers := [] } ∧
    (let startup : ControlFrame := ⟨0x67#8, 0#16, leBytes 4 0 ++ layout
        [fx 1 (ResetCause.toCode cause), fx 2 t.epoch, fx 1 (boolCode t.sa.exhausted),
         fx 1 (SettingsStatus.toCode t.ss.status), fx 4 s.serial.toNat]⟩
     let first := if t.clu.enables.startup then [startup] else []
     (t.tlu.startAtReset = false → t.clu.notices = first) ∧ first <+: t.clu.notices) ∧
    (let x : Settings := (loadProfile s.ss.profile).getD
        { servo := ⟨250, 16, 200000⟩, trace := ⟨50, 20000, 100000, 60⟩, refA := ⟨true, 1000, 0⟩, refB := ⟨true, 1000, 0⟩,
          preferred := .a, twin := ⟨50000, 2000, 16⟩, venue := 0, startAtReset := false,
          selectors := ⟨.single, ⟨true, 0, 0⟩, ⟨false, 0, 0⟩⟩,
          enables := ⟨true, true, true, true, true, true, true⟩ }
     let monitor (m : Monitor) (v : RefSettings) :=
       m = { state := if v.enable then .candidate else .disabled
             ceiling := v.ceiling
             missingTimer := if v.enable then some 137500000 else none }
     t.tb.servo.active = x.servo ∧ t.tb.trace.active = x.trace ∧ t.tb.delayA.active = x.refA.delay ∧
       t.tb.delayB.active = x.refB.delay ∧ monitor t.monA x.refA ∧ monitor t.monB x.refB ∧
       t.du.preferred = x.preferred ∧ t.aj.selectors = x.selectors ∧ t.clu.enables = x.enables ∧
       t.tlu =
         { state := if x.startAtReset then .offering else .off
           offerTimer := if x.startAtReset then some 250000000 else none
           transmit := if x.startAtReset then [.offer ⟨x.venue, s.serial.toNat, t.epoch⟩] else []
           limit := x.twin.limit
           allowance := x.twin.allowance
           period := x.twin.period
           venue := x.venue
           startAtReset := x.startAtReset })

/-- The state after reset (notes/assumptions/3.md) meets every invariant. -/
def Obligations.ResetStateMeetsTheInvariants : Prop :=
  State.reset.tb.Wf ∧ State.reset.sa.Conserved ∧ State.reset.aj.Wf ∧ (∀ p, (State.reset.port p).Wf) ∧
    (∀ r, (State.reset.mon r).Wf) ∧ State.reset.DisciplineWf ∧ State.reset.TwinWf ∧
    (∀ g, (State.reset.group g).Wf) ∧ State.reset.clu.Wf ∧ State.reset.SettingsWf ∧ State.reset.RecordsFit

/-! ## Time Base -/

/-- R1: a tick adds INC to the fraction, carries into raw time by 7, 8 or 9 ns, is held at the top of raw time, and
moves the tick index; rate, INC, high-water mark, offset and slots stay. R4: a boundary is raised when the whole-second
count increases, and waits in the model's own queue of boundaries (the model's choice, notes/assumptions/13.md). -/
def Obligations.TickAdvancesRawTime : Prop :=
  ∀ s : State, s.power = .running → s.tb.Wf → ∃ t, exec .oscillatorTick s = .next t ∧
    s.SameBut t [.tick, .tb] ∧ t.tick = s.tick + 1 ∧
    t.tb = { s.tb with raw := t.tb.raw, frac := t.tb.frac, boundaries := t.tb.boundaries } ∧
    7 ≤ (s.tb.frac + s.tb.inc) / 4294967296 ∧ (s.tb.frac + s.tb.inc) / 4294967296 ≤ 9 ∧
    (s.tb.raw + (s.tb.frac + s.tb.inc) / 4294967296 ≤ 18446744073709551615 →
      t.tb.raw = s.tb.raw + (s.tb.frac + s.tb.inc) / 4294967296 ∧
        t.tb.frac = (s.tb.frac + s.tb.inc) % 4294967296) ∧
    (18446744073709551615 < s.tb.raw + (s.tb.frac + s.tb.inc) / 4294967296 →
      t.tb.raw = 18446744073709551615 ∧ t.tb.frac = 4294967295) ∧
    (s.tb.raw / 1000000000 < t.tb.raw / 1000000000 →
      t.tb.boundaries = s.tb.boundaries ++ [⟨t.tb.raw / 1000000000, max t.tb.raw t.tb.hwm⟩]) ∧
    (¬ s.tb.raw / 1000000000 < t.tb.raw / 1000000000 → t.tb.boundaries = s.tb.boundaries)

/-- R2: a rate word is clamped to ±200,000,000 ppt, INC less 2³⁵ is the nearest whole number to R × 2³⁵ ÷ 10¹², and
nothing else of the part changes. -/
def Obligations.RateWordFormsTheIncrement : Prop :=
  ∀ (s : State) (r : Int),
    s.SameBut (s.presentRate r) [.tb] ∧
    (s.presentRate r).tb = { s.tb with rate := (s.presentRate r).tb.rate, inc := (s.presentRate r).tb.inc } ∧
    (s.presentRate r).tb.rate = max (-200000000) (min 200000000 r) ∧
    (2 * (((s.presentRate r).tb.inc : Int) - 34359738368) * 1000000000000 -
        2 * (s.presentRate r).tb.rate * 34359738368).natAbs ≤ 1000000000000 ∧
    34352866420 ≤ (s.presentRate r).tb.inc ∧ (s.presentRate r).tb.inc ≤ 34366610316

/-- R10: within an epoch no command lowers dating time or the high-water mark. R9: while any stamp port is OPEN or
DRAINING, no command but a reset and its end lowers raw time. -/
def Obligations.DatingTimeNeverDecreases : Prop :=
  ∀ (c : Instr) (s t : State), s.tb.Wf → (∀ k, c ≠ .reset k) → c ≠ .startUp → exec c s = .next t →
    s.dating ≤ t.dating ∧ s.tb.hwm ≤ t.tb.hwm ∧ (s.anyPortOpen = true → s.tb.raw ≤ t.tb.raw)

/-- Over every step the Time Base keeps the ranges of raw time, the fraction, the high-water mark, the rate word and
INC, and INC its correspondence to the rate word (Table 1-1, R2); and over every step the UTC offset and the four slots
of the settings table keep theirs, active and pending, together with the adopted offsets they come from, the ceilings,
the twin settings and the selectors (Tables 1-1 and 9-2, R148). -/
def Obligations.TimeBaseKeepsItsRanges : Prop :=
  (∀ s t : State, s.tb.Wf → step s = .next t → t.tb.Wf) ∧
    ∀ s t : State, s.SettingsWf → step s = .next t → t.SettingsWf

/-! ## Second boundaries -/

/-- R4 and R6: SECOND_BOUNDARY takes the oldest boundary of the model's own queue (the model's choice,
notes/assumptions/13.md), each slot with a pending record takes it as its active record, and raw time, the rate and the
offset stay. DU keeps its mode, selection, I, R and anchors. A change of the traceability state forms a TRACE_STATE
record with its CLOCK notice, is told to GS, which an UNTRACEABLE clock makes suspend its auctions, and while attached
forms a STATUS to the twin (R54, R59, R75). Formed while 32 records wait in DU's list, that record is lost instead of
joining it (R58, R145). The boundary count rises, or the evidence interval ends: an EVIDENCE record of the interval is
submitted, and the count and the statistics become zero (R57). The TICK mode ONCE becomes OFF, and a TICK notice with
the boundary's values and the traceability state and B after it is raised unless the mode is OFF (R176). The blocks a
boundary does not reach stay. The model's choices in the notices are the mark of its own of the B of TRACE_STATE
(notes/assumptions/25.md), the 6 bytes of the second number of TICK, its notices-lost count given once, at the front
(notes/assumptions/50.md), and the fields and the cause code of the JOURNAL notice of a lost record
(notes/assumptions/24.md, 26.md, 44.md), which stands before its CLOCK notice, and the place of the TICK notice after
the JOURNAL notices (notes/assumptions/48.md). -/
def Obligations.SecondBoundaryReactions : Prop :=
  ∀ (s : State) (b : Boundary) (rest : List Boundary), s.power = .running → s.tb.boundaries = b :: rest →
    ∃ t, exec .secondBoundary s = .next t ∧
      s.SameBut t ([.tb, .du, .tlu, .auctions, .aj, .clu] ++ allGroups) ∧
      t.tb = { s.tb with
        boundaries := rest
        servo := ⟨s.tb.servo.pending.getD s.tb.servo.active, none⟩
        trace := ⟨s.tb.trace.pending.getD s.tb.trace.active, none⟩
        delayA := ⟨s.tb.delayA.pending.getD s.tb.delayA.active, none⟩
        delayB := ⟨s.tb.delayB.pending.getD s.tb.delayB.active, none⟩ } ∧
      t.du = { s.du with
        bound := t.du.bound
        trace := t.du.trace
        boundaryCount := t.du.boundaryCount
        stats := t.du.stats
        records := t.du.records } ∧
      (s.du.boundaryCount + 1 < t.tb.trace.active.interval →
        t.du.boundaryCount = s.du.boundaryCount + 1 ∧ t.du.stats = s.du.stats) ∧
      (t.tb.trace.active.interval ≤ s.du.boundaryCount + 1 → t.du.boundaryCount = 0 ∧ t.du.stats = {}) ∧
      (t.du.trace = s.du.trace → t.gs = s.gs) ∧
      t.clu.queue = s.clu.queue ∧ t.clu.replies = s.clu.replies ∧
      t.clu.tick = (if s.clu.tick = .once then .off else s.clu.tick) ∧
      (let same := t.du.trace = s.du.trace
        let full := 32 ≤ s.du.records.length
        let told : State :=
          if same then s
          else
            let y := if full then s.losesClock else s
            let x := State.notice (y.setDu { s.du with trace := t.du.trace }) .clock
              [fx 1 8, fx 1 (TraceState.toCode s.du.trace), fx 1 (TraceState.toCode t.du.trace), fo 4 t.du.bound,
               fx 8 b.dating, fx 1 (Mode.toCode s.du.mode), fx 1 (TraceState.toCode t.du.trace), fo 4 t.du.bound,
               fx 8 b.dating]
            if t.du.trace = .untraceable then x.clockSuspension else x
        let x := s.du.stats
        let evidence : EvidenceRecord :=
          { stats := x
            mean := if x.used = 0 then none else some (Int.tdiv x.sumE x.used)
            rate := s.du.rate
            bound := t.du.bound
            trace := t.du.trace
            mode := s.du.mode
            contested := s.du.contested
            selection := s.du.selection
            interval := t.tb.trace.active.interval
            theta := s.tlu.agreed }
        let counted :=
          if t.tb.trace.active.interval ≤ s.du.boundaryCount + 1 then told.submit (.evidence s.dating evidence) else told
        t.du.records = s.du.records ++ (if same ∨ full then []
          else [⟨.traceState s.du.trace t.du.trace t.du.bound b.dating, s.du.mode, t.du.bound⟩]) ∧
        t.tlu = (if same ∨ s.tlu.state.attached = false then s.tlu
          else s.tlu.joined (.status ⟨t.du.trace, t.du.bound, s.du.mode, s.du.selection, s.epoch⟩)) ∧
        t.aj = counted.aj ∧
        t.clu.notices =
          if s.clu.tick = .off then counted.clu.notices
          else (counted.clu.notice .tick [fx 6 b.second, fx 8 b.dating, fx 1 (TraceState.toCode t.du.trace),
            fo 4 t.du.bound]).notices)

/-- R53 and R54: at a boundary B is the anchor bound grown by G for each whole second since the anchor instant, in
HOLDOVER the smaller of that and the assisted bound grown alike, and absent in UNSET; the traceability state is the
first entry of Table 3-4 that applies. G and the thresholds are those activated at this boundary; an instant later than
the boundary counts 0 seconds (the model's choice, notes/assumptions/39.md). -/
def Obligations.BoundAndTraceabilityAtABoundary : Prop :=
  ∀ (s : State) (b : Boundary) (rest : List Boundary), s.power = .running → s.tb.boundaries = b :: rest →
    ∃ t, exec .secondBoundary s = .next t ∧
      (s.du.mode = .unset → t.du.bound = none ∧ t.du.trace = .unset) ∧
      ∀ a : Anchor, s.du.mode ≠ .unset → s.du.anchor = some a →
        let tr : Trace := s.tb.trace.pending.getD s.tb.trace.active
        let hold := min 4294967295 (a.bound + tr.growth * ((b.dating - a.instant) / 1000000000))
        let assist := s.du.assisted.map fun y =>
          min 4294967295 (y.bound + tr.growth * ((b.dating - y.instant) / 1000000000))
        let byTwin := s.du.mode = .holdover ∧ ∃ x, assist = some x ∧ x < hold
        ∃ bound, t.du.bound = some bound ∧
          (byTwin → assist = some bound) ∧ (¬ byTwin → bound = hold) ∧
          (a.source = .host ∧ ¬ byTwin → t.du.trace = .untraceable) ∧
          (tr.limit < bound → t.du.trace = .untraceable) ∧
          (s.du.trace = .untraceable ∧ (byTwin ∨ a.source ≠ .ref ∨ a.qualified = false) →
            t.du.trace = .untraceable) ∧
          (¬ (a.source = .host ∧ ¬ byTwin) ∧ bound ≤ tr.limit ∧
              (s.du.trace ≠ .untraceable ∨ ¬ byTwin ∧ a.source = .ref ∧ a.qualified = true) →
            t.du.trace = if tr.advisory < bound then .degraded else .traceable)

/-- R129: when a boundary makes the traceability state UNTRACEABLE from another, every group, after its catch-up, is
suspended with cause CLOCK when its effective phase is CALL or RANDOM, and left as the catch-up leaves it otherwise.
GS's list takes, in ascending group order, the records of each group's catch-up and then its SUSPEND record, with cause
CLOCK and the traceability state UNTRACEABLE, the values of R128 and T_end absent (its list length is the model's
choice, notes/assumptions/40.md). At any other boundary the groups, GS's list and the demands on RS stay. -/
def Obligations.ClockSuspensionAtABoundary : Prop :=
  ∀ (s : State) (b : Boundary) (rest : List Boundary), s.power = .running → s.tb.boundaries = b :: rest →
    ∃ t, exec .secondBoundary s = .next t ∧
      (t.du.trace = .untraceable → s.du.trace ≠ .untraceable →
        ∀ g, t.group g =
          let x := ((State.setDu s t.du).catchUp g s.dating true).group g
          if x.effective s.dating = .call ∨ x.effective s.dating = .random then
            { x with phase := .suspended, cause := some .clock, tEnd := none }
          else x) ∧
      (t.du.trace = .untraceable → s.du.trace ≠ .untraceable →
        t.gs.demands = s.gs.demands ∧
        t.gs.records = s.gs.records ++ (List.finRange 16).flatMap fun g =>
          let caught := (State.setDu s t.du).catchUp g s.dating true
          let x := caught.group g
          let suspension : AuctionRecord :=
            { group := g
              number := x.number
              step := .suspend
              instant := s.dating
              now := s.dating
              tc := x.tc.getD 0
              tMin := x.tMin.getD 0
              window := x.window.getD 0
              draw := x.draw
              tEnd := none
              listLength := x.extensions.length
              cause := some .clock
              trace := some .untraceable }
          caught.gs.records.drop s.gs.records.length ++
            if x.effective s.dating = .call ∨ x.effective s.dating = .random then [suspension] else []) ∧
      (t.du.trace ≠ .untraceable ∨ s.du.trace = .untraceable → t.gs = s.gs)

/-! ## Expiries -/

/-- R120 to R123: the expiry commands. When the group whose reached instant comes first awaits its call start, its
window start or its end, the command takes every reached expiry (notes/assumptions/15.md): each group stands as its own
catch-up leaves it, no reached instant is left, and nothing but the groups, GS's list and the notices changes. The
records carry the dating time of the command, and where the instants in force of each group in SCHEDULED, CALL or RANDOM
are in order they are formed in order of instant, and of group index at equal instants. -/
def Obligations.ExpiriesTakeEveryReachedInstant : Prop :=
  ∀ (s : State) (g : GroupIx) (c : Instr), s.power = .running → s.nextExpiry s.dating = some g →
    ((c = .callStartExpiry ∧ (s.group g).phase = .scheduled) ∨
      (c = .windowStartExpiry ∧ (s.group g).phase = .call) ∨ (c = .closeExpiry ∧ (s.group g).phase = .random)) →
    ∃ t, exec c s = .next t ∧ s.SameBut t ([.auctions, .clu] ++ allGroups) ∧
      (∀ k, t.group k = (s.catchUp k s.dating true).group k ∧ (t.group k).reached s.dating = none) ∧
      ∃ rs : List AuctionRecord, t.gs.records = s.gs.records ++ rs ∧ rs ≠ [] ∧
        (∀ r ∈ rs, r.now = s.dating ∧ r.instant ≤ s.dating) ∧
        ((∀ k, (s.group k).phase = .scheduled ∨ (s.group k).phase = .call ∨ (s.group k).phase = .random →
            (s.group k).tc.getD 0 ≤ (s.group k).tMin.getD 0 ∧ (s.group k).tMin.getD 0 ≤ (s.group k).tEnd.getD 0) →
          rs.Pairwise fun r q => r.instant < q.instant ∨ r.instant = q.instant ∧ r.group ≤ q.group)

/-- R119 to R122: the catch-up of a group. Before the pending instant nothing at all changes; once it is reached the
stored phase follows the instants in force, one record for each reached instant joins GS's list, in order and with the
now of the catch-up, and a group whose T_end is reached is CLOSED with the traceability state as close quality and its
draws revealed. A group in any other phase, whatever its fields, is left as it is. -/
def Obligations.CatchUpFollowsTheInstants : Prop :=
  ∀ (s : State) (g : GroupIx) (now : Nat) (notify : Bool),
    let x := s.group g
    let y := (s.catchUp g now notify).group g
    (∀ tc tm te, x.tc = some tc → x.tMin = some tm → x.tEnd = some te → tc ≤ tm → tm ≤ te →
      s.SameBut (s.catchUp g now notify) [.group g, .auctions, .clu] ∧
      (x.phase = .scheduled → now < tc → s.catchUp g now notify = s) ∧
      (x.phase = .call → now < tm → s.catchUp g now notify = s) ∧
      (x.phase = .random → now < te → s.catchUp g now notify = s) ∧
      (x.phase = .scheduled → tc ≤ now →
        y = if now < tm then { x with phase := .call }
            else if now < te then { x with phase := .random }
            else { x with phase := .closed, closeQuality := some s.du.trace, revealed := x.number }) ∧
      (x.phase = .call → tm ≤ now →
        y = if now < te then { x with phase := .random }
            else { x with phase := .closed, closeQuality := some s.du.trace, revealed := x.number }) ∧
      (x.phase = .random → te ≤ now →
        y = { x with phase := .closed, closeQuality := some s.du.trace, revealed := x.number }) ∧
      (x.phase = .scheduled ∨ x.phase = .call ∨ x.phase = .random →
        ∃ rs : List AuctionRecord, (s.catchUp g now notify).gs.records = s.gs.records ++ rs ∧
          (∀ r ∈ rs, r.group = g ∧ r.number = x.number ∧ r.now = now) ∧
          rs.map (fun r => (r.step, r.instant)) =
            (if x.phase = .scheduled ∧ tc ≤ now then [(.callStart, tc)] else []) ++
              (if (x.phase = .scheduled ∨ x.phase = .call) ∧ tm ≤ now then [(.windowStart, tm)] else []) ++
              (if te ≤ now then [(.close, te)] else []))) ∧
    (x.phase = .dormant ∨ x.phase = .suspended ∨ x.phase = .closed ∨ x.phase = .abandoned →
      s.catchUp g now notify = s)

/-! ## Reference monitors -/

/-- R17 to R20: an edge at an enabled monitor without a pending mark opens one, with its capture, tick count and
verdict, and starts the two timers; bytes short of a message's end stay in the receiver; a message without a pending
mark is an orphan. Nothing but the monitor changes. -/
def Obligations.EdgesAndMessagesWithoutAMark : Prop :=
  ∀ (s : State) (r : Ref), s.power = .running → (s.mon r).state ≠ .disabled → (s.mon r).pendingMark = none →
    (∃ t, exec (.markEdge r) s = .next t ∧ s.SameBut t [.mon r] ∧
      t.mon r = { s.mon r with
        pendingMark := (t.mon r).pendingMark
        baseline := some s.tick
        lastTicks := (t.mon r).lastTicks
        messageWait := some (s.tick + 112500000)
        missingTimer := some (s.tick + 137500000)
        rx := []
        counters := { (s.mon r).counters with
          edges := bump (s.mon r).counters.edges
          discarded := sat32 ((s.mon r).counters.discarded + (s.mon r).rx.length) } } ∧
      ((s.mon r).baseline = none →
        (t.mon r).pendingMark = some ⟨s.tb.raw, none, .notChecked⟩ ∧ (t.mon r).lastTicks = (s.mon r).lastTicks) ∧
      ∀ x, (s.mon r).baseline = some x →
        (¬ (124975000 ≤ s.tick - x ∧ s.tick - x ≤ 125025000) →
          (t.mon r).pendingMark = some ⟨s.tb.raw, some (s.tick - x), .frequency⟩ ∧ (t.mon r).lastTicks = none) ∧
        (124975000 ≤ s.tick - x → s.tick - x ≤ 125025000 → (t.mon r).lastTicks = some (s.tick - x) ∧
          ((s.mon r).lastTicks = none →
            (t.mon r).pendingMark = some ⟨s.tb.raw, some (s.tick - x), .inWindow⟩) ∧
          ∀ l, (s.mon r).lastTicks = some l →
            (t.mon r).pendingMark = some ⟨s.tb.raw, some (s.tick - x),
              if 250 < (((s.tick - x : Nat) : Int) - l).natAbs then .jump else .inWindow⟩)) ∧
    (∀ bytes rx, takeTimeMessage (s.mon r).rx bytes = .assembling rx →
      exec (.timeMessage r bytes) s = .next (s.setMon r { s.mon r with rx := rx })) ∧
    ∀ bytes msg, takeTimeMessage (s.mon r).rx bytes = .arrived msg →
      exec (.timeMessage r bytes) s = .next (s.setMon r
        { s.mon r with
          rx := []
          counters := { (s.mon r).counters with
            messages := bump (s.mon r).counters.messages
            orphans := bump (s.mon r).counters.orphans } })

/-- R19, R21 and R22: an edge while a mark is pending closes that mark as NO_LABEL and opens a new one; an expiry of the
message wait closes it as NO_LABEL; an expiry of the missing-mark timer closes a MISSING mark, clears the baseline and
the last tick count and restarts with 1,000 ms. Each steps the monitor as a bad mark, leaves the adopted offset and the
leap memory (R26, R27) and, when it leaves the state of the disciplining reference, counts as a bad mark of the evidence
interval, with its tick count (R56). An expiry may be taken after its deadline, its successor counting from that tick
(the model's choice, notes/assumptions/14.md), and a last label of 2⁴⁸ − 1 stays when it is raised (the model's choice,
notes/assumptions/18.md). -/
def Obligations.NoLabelAndMissingMarks : Prop :=
  ∀ (s : State) (r : Ref) (p : PendingMark), s.power = .running → (s.mon r).state ≠ .disabled →
    let m := s.mon r
    let x := s.du.stats
    let counts (reason : Reason) (ticks : Option Nat) (t : State) : Prop :=
      (m.step (some reason)).state = m.state → t.du.stats =
        if s.du.selection ≠ some r then x
        else { x with
          bad := bump x.bad
          minTicks := match ticks with | none => x.minTicks | some k => some (min k (x.minTicks.getD k))
          maxTicks := match ticks with | none => x.maxTicks | some k => some (max k (x.maxTicks.getD k)) }
    ((s.mon r).pendingMark = some p →
      (∃ t, exec (.markEdge r) s = .next t ∧ s.SameBut t [.mon r, .tb, .tlu, .du, .aj, .clu] ∧
        (t.mon r).pendingMark.map PendingMark.raw = some s.tb.raw ∧ (t.mon r).baseline = some s.tick ∧
        (t.mon r).messageWait = some (s.tick + 112500000) ∧ (t.mon r).missingTimer = some (s.tick + 137500000) ∧
        (t.mon r).counters.bad.noLabel = bump m.counters.bad.noLabel ∧
        (t.mon r).counters.edges = bump m.counters.edges ∧ (t.mon r).counters.good = m.counters.good ∧
        (t.mon r).state = (m.step (some .noLabel)).state ∧ (t.mon r).score = (m.step (some .noLabel)).score ∧
        ((m.step (some .noLabel)).state ≠ .excluded ∨ m.state = .excluded →
          (t.mon r).lastLabel = raiseLabel m.lastLabel ∧ (t.mon r).adopted = m.adopted ∧ (t.mon r).leap = m.leap) ∧
        counts .noLabel p.ticks t) ∧
      (∀ d, m.messageWait = some d → d ≤ s.tick →
        ∃ t, exec (.messageWaitExpiry r) s = .next t ∧ s.SameBut t [.mon r, .tb, .tlu, .du, .aj, .clu] ∧
          (t.mon r).pendingMark = none ∧ (t.mon r).messageWait = none ∧ (t.mon r).baseline = m.baseline ∧
          (t.mon r).lastTicks = m.lastTicks ∧ (t.mon r).missingTimer = m.missingTimer ∧
          (t.mon r).counters.bad.noLabel = bump m.counters.bad.noLabel ∧
          (t.mon r).counters.good = m.counters.good ∧
          (t.mon r).state = (m.step (some .noLabel)).state ∧ (t.mon r).score = (m.step (some .noLabel)).score ∧
          ((m.step (some .noLabel)).state ≠ .excluded ∨ m.state = .excluded →
            (t.mon r).lastLabel = raiseLabel m.lastLabel ∧ (t.mon r).adopted = m.adopted ∧
              (t.mon r).leap = m.leap) ∧
          counts .noLabel p.ticks t)) ∧
    ((s.mon r).pendingMark = none → ∀ d, m.missingTimer = some d → d ≤ s.tick →
      ∃ t, exec (.missingMarkExpiry r) s = .next t ∧ s.SameBut t [.mon r, .tb, .tlu, .du, .aj, .clu] ∧
        (t.mon r).pendingMark = none ∧ (t.mon r).baseline = none ∧ (t.mon r).lastTicks = none ∧
        (t.mon r).missingTimer = some (s.tick + 125000000) ∧ (t.mon r).rx = [] ∧
        (t.mon r).counters.bad.missing = bump m.counters.bad.missing ∧ (t.mon r).counters.good = m.counters.good ∧
        (t.mon r).state = (m.step (some .missing)).state ∧ (t.mon r).score = (m.step (some .missing)).score ∧
        ((m.step (some .missing)).state ≠ .excluded ∨ m.state = .excluded →
          (t.mon r).lastLabel = raiseLabel m.lastLabel ∧ (t.mon r).adopted = m.adopted ∧ (t.mon r).leap = m.leap) ∧
        counts .missing none t)

/-- R20 and R24 to R28: a message that completes a pending mark is counted, the mark leaves, and the mark is good or bad
as the nine checks say; a frame check that passes makes its label the last label, but for a last label of 2⁴⁸ − 1, from
which every later mark fails LABEL (R25); the last label raised at a CHECK mark stays there too (the model's choice,
notes/assumptions/18.md). The monitor steps its score and state, and nothing but it, TB, TLU, DU, the journal and the
notices changes. -/
def Obligations.MessageCompletesTheMark : Prop :=
  ∀ (s : State) (r : Ref) (bytes : List Byte) (msg : TimeMessage) (p : PendingMark), s.power = .running →
    (s.mon r).state ≠ .disabled → (s.mon r).pendingMark = some p →
    takeTimeMessage (s.mon r).rx bytes = .arrived msg →
    let m := s.mon r
    let reason := markReason m msg p.verdict
    ∃ t, exec (.timeMessage r bytes) s = .next t ∧ s.SameBut t [.mon r, .tb, .tlu, .du, .aj, .clu] ∧
      (t.mon r).pendingMark = none ∧ (t.mon r).messageWait = none ∧ (t.mon r).rx = [] ∧
      (t.mon r).baseline = m.baseline ∧ (t.mon r).lastTicks = m.lastTicks ∧ (t.mon r).ceiling = m.ceiling ∧
      (t.mon r).missingTimer = m.missingTimer ∧
      (t.mon r).counters.messages = bump m.counters.messages ∧
      (t.mon r).counters.completed = bump m.counters.completed ∧
      (reason = none → (t.mon r).counters.good = bump m.counters.good ∧
        (t.mon r).counters.bad = m.counters.bad) ∧
      (∀ x, reason = some x → (t.mon r).counters.good = m.counters.good ∧
        (t.mon r).counters.bad = m.counters.bad.raise x) ∧
      (t.mon r).state = (m.step reason).state ∧ (t.mon r).score = (m.step reason).score ∧
      (t.mon r).goodRun = (m.step reason).goodRun ∧ (t.mon r).recoveryRun = (m.step reason).recoveryRun ∧
      ((m.step reason).state ≠ .excluded ∨ m.state = .excluded →
        (t.mon r).lastLabel = (if m.lastLabel = some 281474976710655 then m.lastLabel
          else if msg.checkOk then some msg.label
          else m.lastLabel.map fun l => if l < 281474976710655 then l + 1 else l) ∧
        (m.lastLabel = some 281474976710655 → msg.label ≤ 281474976710655 → msg.checkOk = true → reason ≠ none) ∧
        (t.mon r).leap = (
          let counted := if (m.leap.map LeapMemory.countdown).getD 0 ≤ 1 then none
            else m.leap.map fun l => { l with countdown := l.countdown - 1 }
          if msg.checkOk = false then counted
          else if reason = none ∧ m.adopted ≠ none ∧ m.adopted ≠ some msg.utcOffset then none
          else
            match decodeMarkCode msg.code with
            | .valid f _ => if f.leap then some ⟨f.sign, 60⟩ else counted
            | .format | .uncorrectable => counted) ∧
        (msg.checkOk = false → (t.mon r).adopted = m.adopted) ∧
        (msg.checkOk = true → m.adopted = none → (t.mon r).adopted = some msg.utcOffset) ∧
        (msg.checkOk = true → ∀ o, m.adopted = some o →
          (t.mon r).adopted =
            if reason = none ∧ msg.utcOffset ≠ o then some msg.utcOffset else some o)) ∧
      ((m.step reason).state = .excluded → m.state ≠ .excluded →
        (t.mon r).lastLabel = none ∧ (t.mon r).adopted = none ∧ (t.mon r).leap = none)

/-- Table 2-3 with R23 to R27: a completed mark is good exactly when its frame check passes, its code is valid without
the quality flag, its label follows the last label or there is none, its uncertainty is within the ceiling, its verdict
is neither FREQUENCY nor JUMP, and its offset is the adopted one, or there is none, or a leap memory justifies it. -/
def Obligations.AMarkIsGoodWhenItPassesAllNineChecks : Prop :=
  ∀ (m : Monitor) (msg : TimeMessage) (v : Verdict),
    markReason m msg v = none ↔
      msg.checkOk = true ∧ (∃ f c, decodeMarkCode msg.code = .valid f c ∧ f.quality = false) ∧
        (∀ l, m.lastLabel = some l → msg.label = l + 1) ∧ msg.uncertainty ≤ m.ceiling ∧
        v ≠ .frequency ∧ v ≠ .jump ∧
        ∀ o, m.adopted = some o → msg.utcOffset = o ∨
          ∃ l, m.leap = some l ∧ msg.utcOffset = if l.sign then o - 1 else o + 1

/-- R28 to R31: what a closed mark does to the fault score, the good run, the recovery run and the qualification state.
-/
def Obligations.FaultScoreAndQualification : Prop :=
  ∀ (m : Monitor) (x : Reason),
    (m.state = .candidate ∨ m.state = .qualified ∨ m.state = .watch →
      (m.step none).score = m.score - 1 ∧ (m.step none).goodRun = min 4294967295 (m.goodRun + 1) ∧
      (m.score + 8 < 96 → (m.step (some x)).score = m.score + 8 ∧ (m.step (some x)).goodRun = 0) ∧
      (96 ≤ m.score + 8 → m.step (some x) =
        { m with state := .excluded, score := 96, goodRun := 0, recoveryRun := 0, lastLabel := none,
                 adopted := none, leap := none })) ∧
    (m.state = .candidate →
      (m.goodRun + 1 < 16 → (m.step none).state = .candidate) ∧
      (16 ≤ m.goodRun + 1 → m.score - 1 < 32 → (m.step none).state = .qualified) ∧
      (16 ≤ m.goodRun + 1 → 32 ≤ m.score - 1 → (m.step none).state = .watch) ∧
      (m.score + 8 < 96 → (m.step (some x)).state = .candidate)) ∧
    (m.state = .qualified →
      (m.step none).state = .qualified ∧ (m.score + 8 < 32 → (m.step (some x)).state = .qualified) ∧
      (32 ≤ m.score + 8 → m.score + 8 < 96 → (m.step (some x)).state = .watch)) ∧
    (m.state = .watch →
      (m.score - 1 < 32 → (m.step none).state = .qualified) ∧ (32 ≤ m.score - 1 → (m.step none).state = .watch) ∧
      (m.score + 8 < 96 → (m.step (some x)).state = .watch)) ∧
    (m.state = .excluded →
      m.step (some x) = { m with recoveryRun := 0 } ∧
      (m.recoveryRun + 1 < 60 → m.step none = { m with recoveryRun := m.recoveryRun + 1 }) ∧
      (60 ≤ m.recoveryRun + 1 →
        m.step none = { m with state := .qualified, score := 0, goodRun := 0, recoveryRun := 0 }))

/-! ## Discipline Unit -/

/-- R42 to R45 and R51: in LOCKED or HOLDOVER, a message that completes a good mark of the disciplining reference, which
is QUALIFIED, or WATCH and stays WATCH, whose stale flag is clear and whose offset is the one in force without a leap
announced, and whose phase error e is within the step threshold, makes a servo update: I gains e × GI, R is the negative
of e × GP + I, both clamped, TB takes R, the anchor is |e| + U + 8 ns, in WATCH |e| + 2 × U + 8 ns, at the dating time,
qualified when the reference is QUALIFIED, and the mode is LOCKED. From HOLDOVER an ACQUIRED record is formed (R44) and
its CLOCK notice raised (R59). Raw time, the offset and every other block stay. -/
def Obligations.AGoodMarkMakesAServoUpdate : Prop :=
  ∀ (s : State) (r : Ref) (bytes : List Byte) (msg : TimeMessage) (p : PendingMark) (o : Int) (f : MarkFlags)
      (corrected : Bool),
    s.power = .running → (s.mon r).state = .qualified ∨ (s.mon r).state = .watch ∧ 32 ≤ (s.mon r).score - 1 →
    (s.mon r).pendingMark = some p →
    takeTimeMessage (s.mon r).rx bytes = .arrived msg → markReason (s.mon r) msg p.verdict = none →
    decodeMarkCode msg.code = .valid f corrected → f.leap = false → (s.mon r).leap = none →
    (s.mon r).adopted = some o → msg.utcOffset = o → s.tb.utcOffset = o →
    s.du.selection = some r → s.du.stale r = false → s.du.mode = .locked ∨ s.du.mode = .holdover →
    let st := (s.mon r).state
    let e : Int := max (-9223372036854775807)
      (min 9223372036854775807 ((p.raw : Int) - ((msg.label : Int) * 1000000000 + s.tb.cableDelay r)))
    (e.natAbs : Int) ≤ s.tb.servo.active.threshold →
    let i : Int := max (-200000000) (min 200000000 (s.du.integral + e * s.tb.servo.active.gi))
    let rate : Int := max (-200000000) (min 200000000 (-(e * s.tb.servo.active.gp + i)))
    let u := if st = .qualified then msg.uncertainty else min 4294967295 (2 * msg.uncertainty)
    ∃ t, exec (.timeMessage r bytes) s = .next t ∧ s.SameBut t [.mon r, .tb, .du, .aj, .clu] ∧
      t.tb = { s.tb with rate := rate, inc := t.tb.inc } ∧ (t.tb.inc : Int) = 34359738368 + rateDelta rate ∧
      t.du = { s.du with
        mode := .locked
        integral := i
        rate := rate
        anchor := some ⟨min 4294967295 (e.natAbs + u + 8), s.dating, .ref, decide (st = .qualified)⟩
        leap := none
        stats := t.du.stats
        records := t.du.records } ∧
      t.du.stats.used = bump s.du.stats.used ∧ t.du.stats.completed = bump s.du.stats.completed ∧
      t.du.stats.bad = s.du.stats.bad ∧
      (s.du.mode = .locked → t.du.records = s.du.records ∧ t.aj = s.aj ∧ t.clu = s.clu) ∧
      (s.du.mode = .holdover → s.du.records.length < 32 → t.aj = s.aj ∧
        t.du.records = s.du.records ++ [⟨.acquired .holdover r e msg.uncertainty st, .locked, s.du.bound⟩] ∧
        t.clu = s.clu.notice .clock
          [fx 1 2, fx 1 (Mode.toCode .holdover), fx 1 (Ref.toCode r), fs 8 e, fx 4 msg.uncertainty,
           fx 1 (QualState.toCode st), fx 1 (Mode.toCode .locked), fx 1 (TraceState.toCode s.du.trace),
           fo 4 s.du.bound, fx 8 s.dating])

/-- R33, R34, R39 to R43, R50, R51 and R56: a message that completes a mark, as DU takes its report. At a change of the
reference's state, with its REF notice (its fault score in one byte is the model's choice, notes/assumptions/24.md), DU
selects by Table 3-2 and writes a REF_SWITCH record when the selection changes or the change is the disciplining
reference's own; a new reference gives its adopted offset (OFFSET_CHANGE, cause SWITCH) and its leap memory; with no
selection left a slew is abandoned and HOLDOVER entered, but not from UNSET. A mark of another reference then leaves DU
but for the stale flag. For the disciplining reference the offset in force becomes the adopted one and the leap memory
follows, with an OFFSET_CHANGE record of cause LEAP at a justified change and REFERENCE otherwise and a LEAP_ANNOUNCED
record when the memory comes to hold a leap, in this order (the order is the model's choice, notes/assumptions/42.md);
the report is counted into the statistics of Table 3-5, which a mark of another reference leaves; then, when the mark is
good and its reference not stale, DU acts on it with its phase error and sets the anchor at the dating time at which it
took the report; and the stale flag is cleared. -/
def Obligations.MarksReachTheDisciplineUnit : Prop :=
  ∀ (s : State) (r : Ref) (bytes : List Byte) (msg : TimeMessage) (p : PendingMark), s.power = .running →
    (s.mon r).state ≠ .disabled → (s.mon r).pendingMark = some p →
    takeTimeMessage (s.mon r).rx bytes = .arrived msg →
    let m := s.mon r
    let reason := markReason m msg p.verdict
    let now := (m.step reason).state
    let st (x : Ref) : QualState := if x = r then now else (s.mon x).state
    let first := s.du.preferred
    let second : Ref := match first with | .a => .b | .b => .a
    let old := s.du.selection
    let selected : Option Ref :=
      if now = m.state then old
      else if st first = .qualified then some first
      else if st second = .qualified then some second
      else if old.map st = some .watch then old
      else if st first = .watch then some first
      else if st second = .watch then some second
      else none
    let cause : RefCause := match reason, m.state with
      | some x, _ => .bad x
      | none, .candidate => .goodRun
      | none, .excluded => .recovery
      | none, _ => .good
    let unstale (x : State) : State :=
      x.setDu (match r with | .a => { x.du with staleA := false } | .b => { x.du with staleB := false })
    ∃ t s0 : State, exec (.timeMessage r bytes) s = .next t ∧ s.SameBut t [.mon r, .tb, .tlu, .du, .aj, .clu] ∧
      -- the evaluation of the selection
      (let base := s.setMon r (t.mon r)
       let seen := if now = m.state then base else base.notice .ref
         [fx 1 (Ref.toCode r), fx 1 (QualState.toCode m.state), fx 1 (QualState.toCode now), fx 1 (t.mon r).score,
          fx 1 (RefCause.toCode cause), fx 8 s.dating]
       let switched := (seen.setDu { s.du with selection := selected }).clockRecord
         (.refSwitch old selected (old.map st) (selected.map st) (.report r cause))
       let lost := switched.setDu { switched.du with leap := none }
       let rate := max (-200000000) (min 200000000 (-s.du.integral))
       let hold (x : State) := ((x.setDu { x.du with mode := .holdover, rate := rate }).presentRate rate).clockRecord
         (.holdoverStart s.du.mode s.du.integral rate)
       s0 =
         if now = m.state ∨ selected = old ∧ old ≠ some r then seen
         else if selected = old then seen.clockRecord (.refSwitch old old (some m.state) (some now) (.report r cause))
         else
           match selected, s.du.mode with
           | some n, _ =>
             let offset := (base.mon n).adopted.getD s.tb.utcOffset
             let x := if offset = s.tb.utcOffset then switched
               else State.clockRecord { switched with tb := { s.tb with utcOffset := offset } }
                 (.offsetChange s.tb.utcOffset offset .switch)
             x.setDu { x.du with leap := (base.mon n).leap.map fun l => ⟨l.sign, n⟩ }
           | none, .unset => lost
           | none, .slewing => hold (lost.clockRecord (.slewEnd .loss (s.du.lastSlew.getD 0)))
           | none, _ => hold lost) ∧
      (s0.du.selection ≠ some r → t = unstale s0) ∧
      (s0.du.selection = some r → ∃ s1 : State,
        s0.SameBut s1 [.tb, .du, .aj, .clu] ∧
        (let adopted := (t.mon r).adopted
         let leap := (t.mon r).leap
         let offset := adopted.getD s0.tb.utcOffset
         let justified := m.adopted ≠ none ∧ adopted ≠ m.adopted
         s1.tb = { s0.tb with utcOffset := offset } ∧
         s1.du = { s0.du with leap := s1.du.leap, stats := s1.du.stats, records := s1.du.records } ∧
         (leap = none → s1.du.leap = none) ∧
         (∀ l, leap = some l → s1.du.leap = if m.leap = none then some ⟨l.sign, r⟩ else s0.du.leap) ∧
         (s0.du.records.length ≤ 30 → s1.aj = s0.aj ∧ s1.du.records = s0.du.records ++
           (if offset = s0.tb.utcOffset then []
            else [⟨.offsetChange s0.tb.utcOffset offset (if justified then .leap else .reference), s0.du.mode,
              s0.du.bound⟩]) ++
           (match m.leap, leap with
            | none, some l => [⟨.leapAnnounced l.sign r msg.label, s0.du.mode, s0.du.bound⟩]
            | _, _ => []))) ∧
        (let used := reason = none ∧ s.du.stale r = false
         let e : Int := max (-9223372036854775807)
           (min 9223372036854775807 ((p.raw : Int) - ((msg.label : Int) * 1000000000 + s.tb.cableDelay r)))
         let a := s1.actOnMark ⟨r, e, msg.uncertainty, now⟩
         let u := if now = .qualified then msg.uncertainty else min 4294967295 (2 * msg.uncertainty)
         let bound := min 4294967295 ((if a.stepped then 0 else e.natAbs) + u + 8)
         let x := s.du.stats
         let corrected : Bool := msg.checkOk &&
           (match decodeMarkCode msg.code with | .valid _ c => c | .format | .uncorrectable => false)
         s1.du.stats = { x with
           completed := bump x.completed
           bad := if reason = none then x.bad else bump x.bad
           corrected := if corrected then bump x.corrected else x.corrected
           used := if used then bump x.used else x.used
           minE := if used then some (min e (x.minE.getD e)) else x.minE
           maxE := if used then some (max e (x.maxE.getD e)) else x.maxE
           sumE :=
             if used then max (-9223372036854775808) (min 9223372036854775807 (x.sumE + e)) else x.sumE
           minTicks := match p.ticks with | none => x.minTicks | some k => some (min k (x.minTicks.getD k))
           maxTicks := match p.ticks with | none => x.maxTicks | some k => some (max k (x.maxTicks.getD k)) } ∧
         t = unstale
           (if used then a.state.setDu { a.state.du with anchor := some ⟨bound, s.dating, .ref, decide (now = .qualified)⟩ }
            else s1)))

/-- Table 3-3 with R43 to R48: DU's action on a used mark of phase error e. In UNSET the clock steps by −e, whatever e
is, and acquires. In LOCKED and HOLDOVER a mark within the step threshold makes a servo update; behind it venue time
steps forward; ahead of it with no port open for the clock it steps back while dating time stays; ahead of it with a
port open the part slews at −200,000,000 ppt without a step. In SLEWING a mark within the threshold ends the slew by a
servo update, a mark ahead with a port open only becomes the last slew, and any other ends it by a step, with R at the
negative of I. A step sets the stale flag of each reference with a mark pending and reaches the twin. The CLOCK records
are named where no probe is outstanding at a step (otherwise a CONTESTED record may stand among them,
notes/assumptions/20.md). In UNSET no port is open for the clock, or e is not above 0, here (R92,
notes/assumptions/34.md); a step of 0 is a step (notes/assumptions/21.md). -/
def Obligations.TheActionOnAUsedMark : Prop :=
  ∀ (s : State) (m : UsedMark),
    let a := s.actOnMark m
    let th : Int := s.tb.servo.active.threshold
    let target := min 18446744073709551615 ((s.tb.raw : Int) - m.e).toNat
    let steps := a.stepped = true ∧ a.state.tb.raw = target ∧
      a.state.tb.hwm = (if 0 < m.e then max s.tb.raw s.tb.hwm else s.tb.hwm) ∧ a.state.du.mode = .locked ∧
      a.state.du.integral = s.du.integral ∧ a.state.tlu = (s.stepTime (-m.e)).tlu ∧
      a.state.du.staleA = (s.du.staleA || s.monA.pendingMark.isSome) ∧
      a.state.du.staleB = (s.du.staleB || s.monB.pendingMark.isSome)
    let keepsRate := a.state.du.rate = s.du.rate ∧ a.state.tb.rate = s.tb.rate ∧ a.state.tb.inc = s.tb.inc
    let servo :=
      let i : Int := max (-200000000) (min 200000000 (s.du.integral + m.e * s.tb.servo.active.gi))
      a.stepped = false ∧ a.state.tb.raw = s.tb.raw ∧ a.state.tb.hwm = s.tb.hwm ∧ a.state.du.mode = .locked ∧
        a.state.du.integral = i ∧
        a.state.du.rate = max (-200000000) (min 200000000 (-(m.e * s.tb.servo.active.gp + i))) ∧
        a.state.tb.rate = a.state.du.rate ∧ a.state.tlu = s.tlu
    let noProbe := ∀ x ∈ s.tlu.probes, x.outcome ≠ .outstanding
    let writes (es : List (ClockEvent × Mode)) := s.du.records.length + es.length ≤ 32 →
      a.state.aj = s.aj ∧ a.state.du.records = s.du.records ++ es.map fun x => ⟨x.1, x.2, s.du.bound⟩
    let step : ClockEvent := .step s.tb.raw target m.e
    let acquired : List (ClockEvent × Mode) :=
      if s.du.mode = .locked then [] else [(.acquired s.du.mode m.ref m.e m.u m.state, .locked)]
    s.SameBut a.state [.tb, .tlu, .du, .aj, .clu] ∧ a.state.du.selection = s.du.selection ∧
    a.state.du.anchor = s.du.anchor ∧
    (s.du.mode = .unset → s.anyPortOpen = false ∨ m.e ≤ 0 →
      steps ∧ keepsRate ∧ (noProbe → writes ((step, .unset) :: acquired))) ∧
    (s.du.mode = .locked ∨ s.du.mode = .holdover →
      ((m.e.natAbs : Int) ≤ th → servo ∧ writes acquired) ∧
      (m.e < -th ∨ th < m.e ∧ s.anyPortOpen = false →
        steps ∧ keepsRate ∧ (noProbe → writes ((step, s.du.mode) :: acquired))) ∧
      (th < m.e → s.anyPortOpen = true →
        a.stepped = false ∧ a.state.tb.raw = s.tb.raw ∧ a.state.tb.hwm = s.tb.hwm ∧ a.state.du.mode = .slewing ∧
          a.state.du.integral = s.du.integral ∧ a.state.du.rate = -200000000 ∧ a.state.tb.rate = -200000000 ∧
          a.state.du.lastSlew = some m.e ∧ a.state.tlu = s.tlu ∧
          writes [(.slewStart m.e s.du.mode s.du.integral, .slewing)])) ∧
    (s.du.mode = .slewing → a.state.du.lastSlew = some m.e ∧
      ((m.e.natAbs : Int) ≤ th → servo ∧ writes [(.slewEnd .reached m.e, .slewing)]) ∧
      (th < m.e → s.anyPortOpen = true →
        a.stepped = false ∧ a.state = { s with du := { s.du with lastSlew := some m.e } }) ∧
      (m.e < -th ∨ th < m.e ∧ s.anyPortOpen = false →
        steps ∧ a.state.du.rate = max (-200000000) (min 200000000 (-s.du.integral)) ∧
          a.state.tb.rate = a.state.du.rate ∧
          (noProbe → writes [(.slewEnd .step m.e, .slewing), (step, .slewing)])))

/-- R7 to R9, R70 and R73: an applied step. Raw time moves by the amount within 64 bits, a backward step first raises
the high-water mark to dating time, and a forward step into a later second raises a boundary (waiting in the model's own
queue, notes/assumptions/13.md). Every waiting ECHO leaves the twin's transmit list and is counted as withheld, and the
outstanding probe closes INVALID with reason STEP, which ends its cycle when it is the last (the order of the two is
DEDUCED, notes/assumptions/20.md; that a step of 0, which R7 answers APPLIED, does so too is the model's choice,
notes/assumptions/21.md). That the close stops the timeout, and that a PROBE still waiting stays in the list to be sent,
is the model's choice too (notes/assumptions/51.md). Nothing else changes but by that evaluation. -/
def Obligations.AnAppliedStepReachesTheTwin : Prop :=
  ∀ (s : State) (amount : Int),
    let raw := min 18446744073709551615 ((s.tb.raw : Int) + amount).toNat
    let hwm := if amount < 0 then max s.tb.raw s.tb.hwm else s.tb.hwm
    let withheld : TwinLink := { s.tlu with
      transmit := s.tlu.transmit.filter (fun f => !f.isEcho)
      counters := { s.tlu.counters with
        echoesWithheld := min 4294967295
          (s.tlu.counters.echoesWithheld + (s.tlu.transmit.filter fun f => f.isEcho).length) } }
    let moved : State := { s with
      tb := { s.tb with
        raw := raw
        hwm := hwm
        boundaries := s.tb.boundaries ++
          if s.tb.raw / 1000000000 < raw / 1000000000 then [⟨raw / 1000000000, max raw hwm⟩] else [] }
      tlu := withheld }
    ((∀ x ∈ s.tlu.probes, x.outcome ≠ .outstanding) → s.stepTime amount = moved) ∧
    ∀ (older : List Probe) (x : Probe), s.tlu.probes = older ++ [x] → (∀ y ∈ older, y.outcome ≠ .outstanding) →
      x.outcome = .outstanding → s.tlu.state.attached = true →
      let closed := moved.setTlu
        { withheld with
          probes := older ++ [{ x with outcome := .invalid .step }]
          probeTimer := none
          counters := { withheld.counters with invalidStep := bump withheld.counters.invalidStep } }
      s.stepTime amount =
        if older.length + 1 ≠ (if s.tlu.state = .measuring then 8 else 4) then closed
        else if s.tlu.state = .measuring then closed.evaluateMeasurement else closed.evaluateCheck

/-- R39, R41 and R32: REF_CONFIG that disables the disciplining reference while the other is neither QUALIFIED nor WATCH
leaves no selection: LOCKED, HOLDOVER and SLEWING become HOLDOVER with R at the clamped negative of I, which TB takes;
I, the anchor, raw time and the UTC offset stay. In UNSET the mode stays. -/
def Obligations.LosingTheLastReferenceEntersHoldover : Prop :=
  ∀ (s : State) (q : ControlRequest) (r other preferred : Ref), s.CanTake 0x09 q → other ≠ r →
    field q.payload 0 1 = (match r with | .a => 1 | .b => 2) → field q.payload 1 1 = 0 →
    field q.payload 10 1 = (match preferred with | .a => 1 | .b => 2) →
    s.du.selection = some r → (s.mon r).state ≠ .disabled →
    (s.mon other).state ≠ .qualified → (s.mon other).state ≠ .watch →
    ∃ t, exec .refConfig s = .next t ∧ (t.mon r).state = .disabled ∧ t.mon other = s.mon other ∧
      t.du.selection = none ∧ t.du.leap = none ∧ t.du.integral = s.du.integral ∧ t.du.anchor = s.du.anchor ∧
      t.tb.raw = s.tb.raw ∧ t.tb.hwm = s.tb.hwm ∧ t.tb.utcOffset = s.tb.utcOffset ∧
      (s.du.mode = .unset → t.du.mode = .unset ∧ t.du.rate = s.du.rate ∧ t.tb.rate = s.tb.rate) ∧
      (s.du.mode ≠ .unset → t.du.mode = .holdover ∧
        t.du.rate = max (-200000000) (min 200000000 (-s.du.integral)) ∧ t.tb.rate = t.du.rate ∧
        (t.tb.inc : Int) = 34359738368 + rateDelta t.du.rate)

/-! ## Twin Link Unit -/

/-- R64, R66 and R69: an acceptable OFFER in any state but OFF is answered with an ACCEPT, and an acceptable ACCEPT is
taken in DETACHED and OFFERING: TLU enters MEASURING with the identity recorded, the first probe formed, the spacing and
probe timers running and the others stopped, no status, no failures and no anchor held out. A frame formed with 8 in the
transmit list is dropped and counted (R64). The PROBE of a forgotten probe, if it still waits, stays in the list (the
model's choice, notes/assumptions/51.md). DU changes only by the withdrawal of the assisted anchor. -/
def Obligations.AnAcceptableOfferOrAcceptAttaches : Prop :=
  ∀ (s : State) (bytes : List Byte) (id : TwinIdentity) (t4 : Nat) (c : Instr), s.power = .running →
    id.venue = s.tlu.venue → id.serial ≠ s.serial.toNat →
    (c = .offerReceived bytes ∧ takeTwinBytes s.tlu.rx bytes s.tb.raw = .good (.offer id) t4 ∧ s.tlu.state ≠ .off ∨
      c = .acceptReceived bytes ∧ takeTwinBytes s.tlu.rx bytes s.tb.raw = .good (.accept id) t4 ∧
        (s.tlu.state = .detached ∨ s.tlu.state = .offering)) →
    let entered : TwinLink := { s.tlu with
      state := .measuring
      identity := some id
      failures := 0
      status := none
      heldOut := none
      probes := [{ number := s.tlu.nextProbe }]
      nextProbe := if s.tlu.nextProbe < 65535 then s.tlu.nextProbe + 1 else 1
      offerTimer := none
      retryTimer := none
      checkTimer := none
      spacingTimer := some (s.tick + 31250000)
      probeTimer := some (s.tick + 12500000)
      rx := none
      counters := { s.tlu.counters with
        received := bump s.tlu.counters.received
        attachments := bump s.tlu.counters.attachments } }
    ∃ t, exec c s = .next t ∧ s.SameBut t [.tlu, .du, .clu] ∧
      t.tlu = TwinLink.joined
        (if c = .offerReceived bytes then entered.joined (.accept ⟨s.tlu.venue, s.serial.toNat, s.epoch⟩) else entered)
        (.probe s.tlu.nextProbe) ∧
      t.du = (if s.tlu.heldOut.isSome then { s.du with assisted := none } else s.du)

/-- R63, R64, R66, R67 and R69: an OFFER or ACCEPT of another venue or of this part's own serial is answered with a
REFUSE, dropped when 8 frames wait; a REFUSE or BYE ends the attempt or the attachment; in each case TLU enters DETACHED
with the fault, its probe table and waiting echoes gone and only the retry timer running. In OFF every frame is ignored,
in DETACHED a REFUSE or BYE, while attached an acceptable ACCEPT, and outside an attachment an ECHO or STATUS. -/
def Obligations.RefusalsEndTheAttachment : Prop :=
  ∀ (s : State) (bytes : List Byte) (t4 : Nat), s.power = .running →
    (∀ (c : Instr) (fault : TwinFault) (refused : Bool),
      (s.tlu.state ≠ .off ∧ refused = true ∧
          (∃ id, (c = .offerReceived bytes ∧ takeTwinBytes s.tlu.rx bytes s.tb.raw = .good (.offer id) t4 ∨
              c = .acceptReceived bytes ∧ takeTwinBytes s.tlu.rx bytes s.tb.raw = .good (.accept id) t4) ∧
            (id.venue ≠ s.tlu.venue ∧ fault = .venue ∨
              id.venue = s.tlu.venue ∧ id.serial = s.serial.toNat ∧ fault = .loop)) ∨
        s.tlu.state ≠ .off ∧ s.tlu.state ≠ .detached ∧ refused = false ∧
          (c = .refuseReceived bytes ∧ fault = .refused ∧
              (∃ v n, takeTwinBytes s.tlu.rx bytes s.tb.raw = .good (.refuse v n) t4) ∨
            c = .byeReceived bytes ∧ fault = .bye ∧
              takeTwinBytes s.tlu.rx bytes s.tb.raw = .good .bye t4)) →
      let answered := if refused then s.tlu.joined (.refuse s.tlu.venue s.serial.toNat) else s.tlu
      ∃ t, exec c s = .next t ∧ s.SameBut t [.tlu, .du, .clu] ∧
        t.tlu = { answered with
          state := .detached
          fault := some fault
          heldOut := none
          probes := []
          transmit := answered.transmit.filter fun f => !f.isEcho
          offerTimer := none
          retryTimer := some (s.tick + 1000000000)
          spacingTimer := none
          probeTimer := none
          checkTimer := none
          rx := none
          counters := { answered.counters with
            received := bump s.tlu.counters.received
            detachments := bump s.tlu.counters.detachments } } ∧
        t.du = (if s.tlu.heldOut.isSome then { s.du with assisted := none } else s.du)) ∧
    ∀ (c : Instr) (msg : TwinMessage), takeTwinBytes s.tlu.rx bytes s.tb.raw = .good msg t4 →
      (s.tlu.state = .off ∨ s.tlu.state = .detached ∧ (msg = .bye ∨ ∃ v n, msg = .refuse v n) ∨
        s.tlu.state.attached = false ∧ ((∃ n t2 t3, msg = .echo n t2 t3) ∨ ∃ st, msg = .status st) ∨
        s.tlu.state.attached = true ∧ ∃ id, msg = .accept id ∧ id.venue = s.tlu.venue ∧ id.serial ≠ s.serial.toNat) →
      (c = .offerReceived bytes ∧ (∃ id, msg = .offer id) ∨ c = .acceptReceived bytes ∧ (∃ id, msg = .accept id) ∨
        c = .refuseReceived bytes ∧ (∃ v n, msg = .refuse v n) ∨ c = .byeReceived bytes ∧ msg = .bye ∨
        c = .echoReceived bytes ∧ (∃ n t2 t3, msg = .echo n t2 t3) ∨
        c = .statusReceived bytes ∧ ∃ st, msg = .status st) →
      exec c s = .next (s.setTlu
        { s.tlu with
          rx := none
          counters := { s.tlu.counters with
            received := bump s.tlu.counters.received
            ignored := bump s.tlu.counters.ignored } })

/-- R73 and R64: in MEASURING, AGREED and DISAGREE a PROBE is answered with an ECHO of its number and of the raw time of
its start byte, dropped when 8 frames wait; in the other states it is ignored. Nothing but TLU changes. -/
def Obligations.AProbeIsEchoed : Prop :=
  ∀ (s : State) (bytes : List Byte) (n t2 : Nat), s.power = .running →
    takeTwinBytes s.tlu.rx bytes s.tb.raw = .good (.probe n) t2 →
    let got := { s.tlu with
      rx := none
      counters := { s.tlu.counters with received := bump s.tlu.counters.received } }
    exec (.probeReceived bytes) s = .next (s.setTlu
      (if s.tlu.state = .measuring ∨ s.tlu.state = .agreed ∨ s.tlu.state = .disagree then
        if s.tlu.transmit.length < 8 then { got with transmit := s.tlu.transmit ++ [.echo n t2] }
        else { got with counters := { got.counters with transmitDrops := bump got.counters.transmitDrops } }
      else { got with counters := { got.counters with ignored := bump got.counters.ignored } }))

/-- R70 to R72 and R74: an ECHO while attached. With no probe outstanding it is late. With one outstanding of another
number the probe closes INVALID, NUMBER. With the outstanding number the probe closes VALID with θ and the delay of
Equations 1 and 2 when the delay is at least 0, and INVALID, ORDER otherwise (the quotients stay within 64 bits here;
notes/assumptions/10.md). That the close stops the timeout and takes no PROBE out of the transmit list is the model's
choice (notes/assumptions/51.md). While probes of the cycle are still to be formed, nothing but TLU changes; the closing
of the last one, the eighth of a measurement or the fourth of a check, leads to the evaluation at once. -/
def Obligations.AnEchoClosesTheProbe : Prop :=
  ∀ (s : State) (bytes : List Byte) (n t2 t3 t4 : Nat), s.power = .running →
    takeTwinBytes s.tlu.rx bytes s.tb.raw = .good (.echo n t2 t3) t4 →
    s.tlu.state = .measuring ∨ s.tlu.state = .agreed ∨ s.tlu.state = .disagree →
    let got := { s.tlu with
      rx := none
      counters := { s.tlu.counters with received := bump s.tlu.counters.received } }
    ((∀ x ∈ s.tlu.probes, x.outcome ≠ .outstanding) →
      exec (.echoReceived bytes) s = .next (s.setTlu
        { got with counters := { got.counters with lateEchoes := bump got.counters.lateEchoes } })) ∧
    ∀ (older : List Probe) (x : Probe) (t1 : Nat),
      s.tlu.probes = older ++ [x] → (∀ y ∈ older, y.outcome ≠ .outstanding) → x.outcome = .outstanding →
      x.t1 = some t1 →
      let theta : Int := Int.tdiv (((t2 : Int) - t1) - ((t4 : Int) - t3)) 2
      let delay : Int := Int.tdiv (((t4 : Int) - t1) - ((t3 : Int) - t2)) 2
      let closed := fun (o : ProbeOutcome) (k : TwinCounters) =>
        let y := s.setTlu { got with probes := older ++ [{ x with outcome := o }], probeTimer := none, counters := k }
        if older.length + 1 ≠ (if s.tlu.state = .measuring then 8 else 4) then y
        else if s.tlu.state = .measuring then y.evaluateMeasurement else y.evaluateCheck
      (x.number ≠ n → exec (.echoReceived bytes) s = .next (closed (.invalid .number)
        { got.counters with invalidNumber := bump got.counters.invalidNumber })) ∧
      (x.number = n → theta.natAbs < 9223372036854775808 → delay.natAbs < 9223372036854775808 →
        exec (.echoReceived bytes) s = .next
          (if 0 ≤ delay then closed (.valid t2 t3 t4 theta delay)
              { got.counters with probesValid := bump got.counters.probesValid }
            else closed (.invalid .order)
              { got.counters with invalidOrder := bump got.counters.invalidOrder }))

/-- R75 and R76: while attached, a STATUS of the recorded epoch is recorded with its age at 0, and one that is not
TRACEABLE withdraws the held-out anchor; of another epoch it is only counted. A status older than 2 × P withdraws the
anchor at STATUS_AGE_LIMIT, P being the one in force at that command (DEDUCED, notes/assumptions/29.md). -/
def Obligations.TwinStatusIsRecordedAndAges : Prop :=
  ∀ (s : State), s.power = .running → s.tlu.state = .measuring ∨ s.tlu.state = .agreed ∨ s.tlu.state = .disagree →
    (∀ (bytes : List Byte) (st : TwinStatus) (id : TwinIdentity) (t4 : Nat),
      takeTwinBytes s.tlu.rx bytes s.tb.raw = .good (.status st) t4 → s.tlu.identity = some id →
      (id.epoch = st.epoch → ∃ t, exec (.statusReceived bytes) s = .next t ∧ s.SameBut t [.tlu, .du] ∧
        t.tlu = { s.tlu with
          rx := none
          status := some st
          statusTick := s.tick
          heldOut := if st.trace = .traceable then s.tlu.heldOut else none
          counters := { s.tlu.counters with
            received := bump s.tlu.counters.received
            statusReceived := bump s.tlu.counters.statusReceived } } ∧
        t.du = (if st.trace = .traceable ∨ s.tlu.heldOut = none then s.du else { s.du with assisted := none })) ∧
      (id.epoch ≠ st.epoch → exec (.statusReceived bytes) s = .next (s.setTlu
        { s.tlu with
          rx := none
          counters := { s.tlu.counters with
            received := bump s.tlu.counters.received
            statusMismatches := bump s.tlu.counters.statusMismatches } }))) ∧
    (s.tlu.status.isSome = true → 2 * s.tlu.period < s.tlu.statusAge s.tick → s.tlu.heldOut.isSome = true →
      exec .statusAgeLimit s = .next
        { s with tlu := { s.tlu with heldOut := none }, du := { s.du with assisted := none } })

/-- R64 and 11.5: the front frame of the transmit list leaves in the layout of its kind, closed by its check byte; a
PROBE gives its probe the raw time t1, an ECHO carries the raw time t3 in its last eight bytes before the check byte,
and OFFERs, PROBEs and ECHOs are counted. Nothing but TLU changes. The bytes that leave stand in tlu.lastSent, the
model's own view of the frame that left last (the model's choice, notes/assumptions/36.md). -/
def Obligations.TheFrontTwinFrameLeaves : Prop :=
  ∀ (s : State) (f : TwinFrame) (rest : List TwinFrame), s.power = .running → s.tlu.transmit = f :: rest →
    ∃ t, exec .twinFrameSend s = .next t ∧ s.SameBut t [.tlu] ∧
      t.tlu = { s.tlu with
        transmit := rest
        probes := t.tlu.probes
        lastSent := t.tlu.lastSent
        counters := t.tlu.counters } ∧
      (∀ n, f = .probe n →
        t.tlu.probes = s.tlu.probes.map (fun x => if x.number = n then { x with t1 := some s.tb.raw } else x) ∧
        t.tlu.counters = { s.tlu.counters with probesSent := bump s.tlu.counters.probesSent }) ∧
      ((∀ n, f ≠ .probe n) → t.tlu.probes = s.tlu.probes) ∧
      (∀ n t2, f = .echo n t2 →
        t.tlu.counters = { s.tlu.counters with echoesSent := bump s.tlu.counters.echoesSent } ∧
        t.tlu.lastSent.length = 21 ∧ slice t.tlu.lastSent 2 2 = leBytes 2 n ∧
        slice t.tlu.lastSent 4 8 = leBytes 8 t2 ∧ slice t.tlu.lastSent 12 8 = leBytes 8 s.tb.raw) ∧
      (∀ id, f = .offer id →
        t.tlu.counters = { s.tlu.counters with offersSent := bump s.tlu.counters.offersSent }) ∧
      (let identity (id : TwinIdentity) := leBytes 2 id.venue ++ leBytes 4 id.serial ++ leBytes 2 id.epoch
       t.tlu.lastSent.dropLast = 0x3C#8 ::
         match f with
         | .offer id => 1#8 :: identity id
         | .accept id => 2#8 :: identity id
         | .refuse venue serial => 3#8 :: leBytes 2 venue ++ leBytes 4 serial
         | .probe n => 4#8 :: leBytes 2 n
         | .echo n t2 => 5#8 :: leBytes 2 n ++ leBytes 8 t2 ++ leBytes 8 s.tb.raw
         | .status st =>
           [6#8, BitVec.ofNat 8 (TraceState.toCode st.trace), if st.bound.isSome then 1#8 else 0#8] ++
             leBytes 4 (st.bound.getD 0) ++
             [BitVec.ofNat 8 (Mode.toCode st.mode), match st.selected with | none => 0#8 | some .a => 1#8 | some .b => 2#8] ++
             leBytes 2 st.epoch
         | .bye => [7#8]) ∧
      byteSum t.tlu.lastSent = 0

/-- R64, R68, R70, R72 and R74: the five timers of TLU. The offer timer ends OFFERING in DETACHED with fault TIMEOUT;
the retry timer forms a fresh OFFER, with its TWIN notice (R77; that it carries every optional field, absent, and the
numbers of one byte are the model's choice, notes/assumptions/24.md, 25.md); the spacing timer forms the next probe of a
cycle; the probe timeout closes the outstanding probe as TIMEOUT, takes its PROBE out of the transmit list and leads to
the evaluation when the probe is the last of its cycle; the check timer starts a check and restarts with P. A frame
formed with 8 in the transmit list is dropped and counted (R64). An expiry may be taken after its deadline, its
successors counting from that tick (the model's choice, notes/assumptions/14.md). -/
def Obligations.TwinTimersExpire : Prop :=
  ∀ (s : State) (d : Nat), s.power = .running → d ≤ s.tick →
    let next := if s.tlu.nextProbe < 65535 then s.tlu.nextProbe + 1 else 1
    (s.tlu.state = .offering → s.tlu.offerTimer = some d →
      ∃ t, exec .offerTimerExpiry s = .next t ∧ s.SameBut t [.tlu, .du, .clu] ∧ t.tlu.state = .detached ∧
        t.tlu.fault = some .timeout ∧ t.tlu.retryTimer = some (s.tick + 1000000000) ∧ t.tlu.offerTimer = none ∧
        t.tlu.probes = [] ∧ t.tlu.transmit = s.tlu.transmit.filter (fun f => !f.isEcho) ∧
        t.tlu.counters = { s.tlu.counters with
          offerTimeouts := bump s.tlu.counters.offerTimeouts
          detachments := bump s.tlu.counters.detachments }) ∧
    (s.tlu.state = .detached → s.tlu.retryTimer = some d →
      ∃ t, exec .retryTimerExpiry s = .next t ∧ s.SameBut t [.tlu, .clu] ∧
        t.tlu = TwinLink.joined
          { s.tlu with
            state := .offering
            offerTimer := some (s.tick + 250000000)
            retryTimer := none }
          (.offer ⟨s.tlu.venue, s.serial.toNat, s.epoch⟩) ∧
        t.clu = s.clu.notice .twin
          [fx 1 (TwinState.toCode .detached), fx 1 (TwinState.toCode .offering), fx 1 (TwinCause.toCode .offer),
           fso 8 none, fso 8 none, fo 1 none, fx 1 (boolCode s.tlu.heldOut.isSome), fx 8 s.dating]) ∧
    (s.tlu.state = .measuring ∨ s.tlu.state = .agreed ∨ s.tlu.state = .disagree → s.tlu.spacingTimer = some d →
      (∀ x ∈ s.tlu.probes, x.outcome ≠ .outstanding) →
      exec .probeSpacingExpiry s = .next (s.setTlu (TwinLink.joined
        { s.tlu with
          probes := s.tlu.probes ++ [{ number := s.tlu.nextProbe }]
          nextProbe := next
          probeTimer := some (s.tick + 12500000)
          spacingTimer :=
            if s.tlu.probes.length + 1 < (if s.tlu.state = .measuring then 8 else 4) then some (s.tick + 31250000)
            else none }
        (.probe s.tlu.nextProbe)))) ∧
    (∀ (older : List Probe) (x : Probe), s.tlu.probes = older ++ [x] →
      (∀ y ∈ older, y.outcome ≠ .outstanding) → x.outcome = .outstanding → s.tlu.probeTimer = some d →
      s.tlu.state = .measuring ∨ s.tlu.state = .agreed ∨ s.tlu.state = .disagree →
      let closed := s.setTlu
        { s.tlu with
          probes := older ++ [{ x with outcome := .invalid .timeout }]
          probeTimer := none
          transmit := s.tlu.transmit.filter (fun f => decide (f ≠ .probe x.number))
          counters := { s.tlu.counters with invalidTimeout := bump s.tlu.counters.invalidTimeout } }
      exec .probeTimeout s = .next
        (if older.length + 1 ≠ (if s.tlu.state = .measuring then 8 else 4) then closed
         else if s.tlu.state = .measuring then closed.evaluateMeasurement else closed.evaluateCheck)) ∧
    (s.tlu.state = .agreed ∨ s.tlu.state = .disagree → s.tlu.checkTimer = some d → s.tlu.probes = [] →
      exec .checkTimerExpiry s = .next (s.setTlu (TwinLink.joined
        { s.tlu with
          checkTimer := some (s.tick + s.tlu.period * 125000000)
          probes := [{ number := s.tlu.nextProbe }]
          nextProbe := next
          probeTimer := some (s.tick + 12500000)
          spacingTimer := some (s.tick + 31250000) }
        (.probe s.tlu.nextProbe))))

/-- R72, R55 and R76: the evaluation of a measurement. With 4 or more VALID probes the result is a VALID probe of least
delay, earlier ones being of greater delay, and the evaluation succeeds with it; the check timer starts with P. With
fewer TLU enters DETACHED with fault MEASURE, the anchor withdrawn. The probe table is emptied at the evaluation
(DEDUCED, notes/assumptions/19.md). -/
def Obligations.AMeasurementIsEvaluated : Prop :=
  ∀ s : State, s.tlu.state = .measuring →
    let valid := s.tlu.validProbes
    let t := s.evaluateMeasurement
    s.SameBut t [.tlu, .du, .aj, .clu] ∧
    (4 ≤ valid.length → ∃ before m after, valid = before ++ m :: after ∧
      (∀ x ∈ before, m.delay < x.delay) ∧ (∀ x ∈ after, m.delay ≤ x.delay) ∧
      s.Evaluated t m (some (s.tick + s.tlu.period * 125000000))) ∧
    (valid.length < 4 → t.tlu.state = .detached ∧ t.tlu.fault = some .measure ∧ t.tlu.probes = [] ∧
      t.tlu.retryTimer = some (s.tick + 1000000000) ∧ t.tlu.checkTimer = none ∧ t.tlu.heldOut = none ∧
      t.tlu.agreed = s.tlu.agreed ∧ t.tlu.transmit = s.tlu.transmit.filter (fun f => !f.isEcho) ∧
      t.du = (if s.tlu.heldOut.isSome then { s.du with assisted := none } else s.du))

/-- R74, R55, R69 and R76: the evaluation of a check. With 2 or more VALID probes the evaluation succeeds as a
measurement's does, the check timer running on. With fewer the check fails: it is counted, and the first failure in a
row keeps the state, the last agreed offset, the anchor held out and DU's contested attribute, and forms a STATUS; the
second leads to DETACHED with fault CHECK and the anchor withdrawn (the count stays 1 there, DEDUCED,
notes/assumptions/22.md). The probe table is emptied at the evaluation (DEDUCED, notes/assumptions/19.md). -/
def Obligations.ACheckIsEvaluated : Prop :=
  ∀ s : State, s.tlu.state = .agreed ∨ s.tlu.state = .disagree →
    let valid := s.tlu.validProbes
    let t := s.evaluateCheck
    let failed : TwinLink := { s.tlu with
      probes := []
      failures := 1
      counters := { s.tlu.counters with checksFailed := bump s.tlu.counters.checksFailed } }
    s.SameBut t [.tlu, .du, .aj, .clu] ∧
    (2 ≤ valid.length → ∃ before m after, valid = before ++ m :: after ∧
      (∀ x ∈ before, m.delay < x.delay) ∧ (∀ x ∈ after, m.delay ≤ x.delay) ∧ s.Evaluated t m s.tlu.checkTimer) ∧
    (valid.length < 2 → s.tlu.failures = 0 → s.SameBut t [.tlu, .clu] ∧
      t.tlu = failed.joined (.status ⟨s.du.trace, s.du.bound, s.du.mode, s.du.selection, s.epoch⟩)) ∧
    (valid.length < 2 → s.tlu.failures ≠ 0 →
      t.tlu = { failed with
        state := .detached
        fault := some .check
        heldOut := none
        transmit := s.tlu.transmit.filter fun f => !f.isEcho
        offerTimer := none
        retryTimer := some (s.tick + 1000000000)
        spacingTimer := none
        probeTimer := none
        checkTimer := none
        counters := { failed.counters with detachments := bump s.tlu.counters.detachments } } ∧
      t.du = (if s.tlu.heldOut.isSome then { s.du with assisted := none } else s.du))

/-- R64, R65, R55, R77 and R78: TWIN_START in OFF opens an OFFER with a TWIN notice of cause START, and elsewhere is
only answered; TWIN_STOP in OFF is only answered, and elsewhere stops every timer, forms a BYE, drops the waiting
echoes, the status and the last agreed offset, withdraws the anchor, clears the contested attribute, with a
CONTESTED_CLEAR record of cause STOP and its CLOCK notice when it was set (the record lost when 32 wait, R58), and
enters OFF with a TWIN notice of cause STOP; TWIN_CONFIG takes its clamped values at once with a CONFIG_CHANGE record,
is refused OUT_OF_RANGE for a flag that is neither 0 nor 1, and WRONG_STATE for another venue identity outside OFF and
DETACHED. A frame formed with 8 in the transmit list is dropped and counted (R64). The place of the JOURNAL notice of a
lost record before its CLOCK notice (notes/assumptions/48.md), the widths, the codes and the absent optional fields of
the notices, and the byte of P in the TWIN_CONFIG reply, are the model's choice (notes/assumptions/24.md, 25.md, 26.md,
44.md). -/
def Obligations.TwinRequests : Prop :=
  ∀ (s : State) (q : ControlRequest),
    let twinNotice (x : State) (old new : TwinState) (cause : Nat) (heldOut : Bool) : Control := x.clu.notice .twin
      [fx 1 (TwinState.toCode old), fx 1 (TwinState.toCode new), fx 1 cause, fso 8 none, fso 8 none, fo 1 none,
       fx 1 (boolCode heldOut), fx 8 s.dating]
    (s.CanTake 0x0D q → s.tlu.state = .off → ∃ t, exec .twinStart s = .next t ∧ s.SameBut t [.tlu, .clu] ∧
      s.Replied t q [0#8] ∧
      t.tlu = TwinLink.joined
        { s.tlu with
          state := .offering
          offerTimer := some (s.tick + 250000000)
          retryTimer := none }
        (.offer ⟨s.tlu.venue, s.serial.toNat, s.epoch⟩) ∧
      t.clu.notices = (twinNotice s .off .offering 1 s.tlu.heldOut.isSome).notices) ∧
    (s.CanTake 0x0D q → s.tlu.state ≠ .off → exec .twinStart s = .next (s.answered q [0#8])) ∧
    (s.CanTake 0x0E q → s.tlu.state = .off → exec .twinStop s = .next (s.answered q [0#8])) ∧
    (s.CanTake 0x0E q → s.tlu.state ≠ .off → ∃ t, exec .twinStop s = .next t ∧
      s.SameBut t [.tlu, .du, .aj, .clu] ∧ s.Replied t q [0#8] ∧
      t.tlu = { s.tlu.joined .bye with
        state := .off
        offerTimer := none
        retryTimer := none
        spacingTimer := none
        probeTimer := none
        checkTimer := none
        probes := []
        heldOut := none
        status := none
        agreed := none
        transmit := (s.tlu.joined .bye).transmit.filter fun f => !f.isEcho } ∧
      t.du.contested = false ∧
      t.du = { s.du with contested := false, assisted := t.du.assisted, records := t.du.records } ∧
      (s.tlu.heldOut.isSome = true → t.du.assisted = none) ∧
      (let full := 32 ≤ s.du.records.length
       let lost := if full then s.losesClock else s
       let told := if s.du.contested = false then s else lost.notice .clock
         [fx 1 12, fx 1 2, fso 8 none, fx 1 (Mode.toCode s.du.mode), fx 1 (TraceState.toCode s.du.trace),
          fo 4 s.du.bound, fx 8 s.dating]
       t.du.records = s.du.records ++ (if s.du.contested = false ∨ full then []
         else [⟨.contestedClear .stop none, s.du.mode, s.du.bound⟩]) ∧
       t.aj = told.aj ∧ t.clu.notices = (twinNotice told s.tlu.state .off 2 false).notices)) ∧
    (s.CanTake 0x0C q →
      (1 < field q.payload 11 1 → exec .twinConfig s = .next (s.answered q [4#8])) ∧
      (field q.payload 11 1 ≤ 1 → field q.payload 9 2 ≠ s.tlu.venue → s.tlu.state ≠ .off → s.tlu.state ≠ .detached →
        exec .twinConfig s = .next (s.answered q [5#8])) ∧
      (field q.payload 11 1 ≤ 1 →
        field q.payload 9 2 = s.tlu.venue ∨ s.tlu.state = .off ∨ s.tlu.state = .detached →
        ∃ t, exec .twinConfig s = .next t ∧ s.SameBut t [.tlu, .aj, .clu] ∧
          t.tlu = { s.tlu with
            limit := max 1000 (min 1000000 (field q.payload 0 4))
            allowance := max 0 (min 100000 (field q.payload 4 4))
            period := max 4 (min 60 (field q.payload 8 1))
            venue := field q.payload 9 2
            startAtReset := decide (field q.payload 11 1 = 1) } ∧
          (∃ clamped, t.aj = (s.configChange 0x0C#8 clamped false (fieldBytes (twinConfigFields t.tlu))).aj ∧
            (clamped = true ↔ t.tlu.limit ≠ field q.payload 0 4 ∨ t.tlu.allowance ≠ field q.payload 4 4 ∨
              t.tlu.period ≠ field q.payload 8 1) ∧
            s.Replied t q (replyPayload (if clamped then .okClamped else .ok) (twinConfigFields t.tlu)))))

/-! ## Stamp ports -/

/-- R82, R83, R87 and R88: a frame is good when its 18 bytes sum to 0 modulo 256, its kind is 0x01, its length byte 18,
its event class one of the eight and its group 0 to 15. A good frame at an OPEN port with room joins the queue as a
WAITING entry with the dating time of its arrival; any other is refused at the door with the status of Table 5-4a, the
refusal placed when the reply queue has a place and no REFUSING entry waits, and dropped when it is full. The score
falls by 1 while the port is open for the clock. Bytes short of the frame's end, the length of its third byte, stay in
the receiver, taken alike by both frame commands (the model's choice, notes/assumptions/11.md). Nothing but the port
changes. -/
def Obligations.AGoodStampFrameIsQueuedOrRefusedAtTheDoor : Prop :=
  ∀ (s : State) (p : PortIx) (bytes : List Byte), s.power = .running →
    let x := s.port p
    let frame := x.rx ++ bytes
    let n := field frame 2 1
    (frame.head? = some 0xA7#8 → frame.length < 3 ∨ 4 ≤ n ∧ n ≤ 64 ∧ frame.length < n →
      exec (.stampRequestFrame p bytes) s = .next (s.setPort p { x with rx := frame }) ∧
      exec (.stampLengthFault p bytes) s = .next (s.setPort p { x with rx := frame })) ∧
    ∀ (tag : BitVec 32) (cls : EventClass) (group : GroupIx) (key : BitVec 64),
      frame.head? = some 0xA7#8 → frame.length = 18 →
      (frame.map BitVec.toNat).sum % 256 = 0 → field frame 1 1 = 1 → n = 18 →
      field frame 7 1 = cls.toCode → field frame 8 1 = group.val →
      field frame 3 4 = tag.toNat → field frame 9 8 = key.toNat →
      (x.state = .draining → x.requests ≠ []) →
      let score := if x.state = .opened ∨ x.state = .draining then x.score - 1 else x.score
      let status : DoorStatus :=
        if x.state = .opened then .queueFull else if x.state = .faulted then .portFaulted else .portClosed
      (x.state = .opened → x.requests.length < 8 →
        (∀ e ∈ x.requests, e.status = .waiting) ∨ 16 ≤ x.replies.length →
        exec (.stampRequestFrame p bytes) s = .next (s.setPort p
          { x with
            rx := []
            score := score
            requests := x.requests ++ [⟨tag, cls, group, key, s.dating, .waiting⟩]
            counters := { x.counters with
              good := bump x.counters.good
              queued := bump x.counters.queued } })) ∧
      (x.state ≠ .opened ∨ 8 ≤ x.requests.length →
        ((∀ e ∈ x.requests, e.status = .waiting) → x.replies.length < 16 →
          exec (.stampRequestFrame p bytes) s = .next (s.setPort p
            { x with
              rx := []
              score := score
              replies := x.replies ++ [.refused tag s.epoch status]
              counters := { x.counters with
                good := bump x.counters.good
                queueFull := if status = .queueFull then bump x.counters.queueFull else x.counters.queueFull
                portClosed := if status = .portClosed then bump x.counters.portClosed else x.counters.portClosed
                portFaulted :=
                  if status = .portFaulted then bump x.counters.portFaulted else x.counters.portFaulted } })) ∧
        (16 ≤ x.replies.length →
          exec (.stampRequestFrame p bytes) s = .next (s.setPort p
            { x with
              rx := []
              score := score
              counters := { x.counters with
                good := bump x.counters.good
                dropped := bump x.counters.dropped } })))

/-- R82 to R86 and R96: an arrived frame is bad by the first it fails of four checks, with the fault kind and byte
offset of that check: its bytes sum to 0 modulo 256 (CHECK, its last byte), its kind is 0x01 (KIND, 1), its length byte
18 (LENGTH, 2), its event class one of the eight (FIELD, 7) and its group 0 to 15 (FIELD, 8); a third byte below 4 or
above 64 is a LENGTH fault at offset 2. The fault is counted under its fault kind, raises the score by 4 while the port
is open for the clock, and fills the first-fault capture with a PORT notice of its values, or only raises its count of
later faults (the port state in the capture is that before the frame, and the byte offset takes one byte in the notice:
the model's choices, notes/assumptions/28.md, 24.md). At a score of 64 or more the port is FAULTED: every WAITING entry
becomes REFUSING with PORT_FAULTED, and is answered as places are free, and a PORT_FAULTED record is submitted (R85). -/
def Obligations.ABadStampFrameIsCountedScoredAndCaptured : Prop :=
  ∀ (s : State) (p : PortIx) (bytes : List Byte) (c : Instr) (fault : FaultKind) (offset : Nat),
    s.power = .running →
    let x := s.port p
    let frame := x.rx ++ bytes
    let n := field frame 2 1
    let failed : Option (FaultKind × Nat) :=
      if (frame.map BitVec.toNat).sum % 256 ≠ 0 then some (.check, frame.length - 1)
      else if field frame 1 1 ≠ 1 then some (.kind, 1)
      else if n ≠ 18 then some (.length, 2)
      else if 7 < field frame 7 1 then some (.field, 7)
      else if 15 < field frame 8 1 then some (.field, 8)
      else none
    frame.head? = some 0xA7#8 →
    (c = .stampLengthFault p bytes ∧ frame.length = 3 ∧ (n < 4 ∨ 64 < n) ∧ fault = .length ∧ offset = 2 ∨
      c = .stampRequestFrame p bytes ∧ 4 ≤ n ∧ n ≤ 64 ∧ frame.length = n ∧ failed = some (fault, offset)) →
    let isOpen := x.state = .opened ∨ x.state = .draining
    let counters : PortCounters := { x.counters with
      badCheck := if fault = .check then bump x.counters.badCheck else x.counters.badCheck
      badKind := if fault = .kind then bump x.counters.badKind else x.counters.badKind
      badLength := if fault = .length then bump x.counters.badLength else x.counters.badLength
      badField := if fault = .field then bump x.counters.badField else x.counters.badField }
    let captured : Capture := match x.capture with
      | none => ⟨fault, offset, s.dating, x.state, 0⟩
      | some k => { k with later := bump k.later }
    ((x.state = .draining → x.requests ≠ []) → (∀ e ∈ x.requests, e.status = .waiting) ∨ 16 ≤ x.replies.length →
      (isOpen → x.score + 4 < 64) →
      ∃ t, exec c s = .next t ∧ s.SameBut t [.port p, .clu] ∧
        t.port p = { x with
          rx := []
          score := if isOpen then x.score + 4 else x.score
          capture := some captured
          counters := counters } ∧
        t.clu = (match x.capture with
          | none => s.clu.notice .port
              [fx 1 p.val, fx 1 (PortState.toCode x.state), fx 1 (PortState.toCode x.state), fx 1 6,
               fx 1 (FaultKind.toCode fault), fx 1 offset, fx 8 s.dating]
          | some _ => s.clu)) ∧
    (isOpen → 64 ≤ x.score + 4 →
      ∃ t, exec c s = .next t ∧ s.SameBut t [.port p, .aj, .clu] ∧
        (t.port p).state = .faulted ∧ (t.port p).score = x.score + 4 ∧ (t.port p).rx = [] ∧
        (t.port p).capture = some captured ∧
        (∀ e ∈ (t.port p).requests, e.status ≠ .waiting) ∧
        (t.port p).requests.length + (t.port p).replies.length = x.requests.length + x.replies.length ∧
        (16 ≤ x.replies.length → (t.port p).replies = x.replies ∧ (t.port p).counters = counters ∧
          (t.port p).requests =
            x.requests.map fun e => if e.status = .waiting then { e with status := .refusing .portFaulted } else e) ∧
        t.aj = (s.admin (.portFaulted p x.state (x.score + 4) fault
          (x.requests.filter fun e => decide (e.status = .waiting)).length)).aj)

/-- R89, R90, R91, R95 and R96: an idle transmitter takes the front reply; a reply sent is counted and the transmitter
takes the next at once. Into the places then free go, oldest first, the refusals of the REFUSING entries at the front of
the request queue, each counted under its status. A DRAINING port whose request queue is then empty enters CLOSED with
score 0, a PORT_CLOSED record of its grants since open, and a PORT notice of cause DRAINED (one-byte numbers are the
model's choice, notes/assumptions/24.md); otherwise nothing but the port changes. -/
def Obligations.ThePortTransmitterSendsTheFrontReply : Prop :=
  ∀ (s : State) (p : PortIx), s.power = .running →
    let x := s.port p
    -- `y` is the port once the transmitter has acted.
    let sends (c : Instr) (y : Port) : Prop :=
      let moved := (y.requests.takeWhile fun e => decide (e.status ≠ .waiting)).take (16 - y.replies.length)
      let refusals := moved.filterMap fun e =>
        match e.status with
        | .waiting => none
        | .refusing st => some (e.tag, st)
      let z := { y with
        requests := y.requests.drop moved.length
        replies := y.replies ++ refusals.map fun e => .refused e.1 s.epoch e.2
        counters := refusals.foldl (fun k e => k.refuse e.2) y.counters }
      (y.state ≠ .draining ∨ z.requests ≠ [] → exec c s = .next (s.setPort p z)) ∧
      (y.state = .draining → z.requests = [] →
        let record := s.admin (.portClosed p .draining y.grantsSinceOpen)
        ∃ t, exec c s = .next t ∧ s.SameBut t [.port p, .aj, .clu] ∧
          t.port p = { z with state := .closed, score := 0 } ∧ t.aj = record.aj ∧
          t.clu = record.clu.notice .port
            [fx 1 p.val, fx 1 (PortState.toCode .draining), fx 1 (PortState.toCode .closed), fx 1 3, fx 1 0, fx 1 0,
             fx 8 s.dating])
    (∀ r rest, x.tx = none → x.replies = r :: rest →
      sends (.portTransmitStart p) { x with tx := some r, replies := rest }) ∧
    ∀ r, x.tx = some r →
      sends (.portReplySent p)
        { x with
          tx := x.replies.head?
          replies := x.replies.tail
          counters := { x.counters with sent := bump x.counters.sent } }

/-- R92, R93 and R97: PORT_OPEN is refused for an index above 7, an exhausted epoch, mode UNSET and a DRAINING port, is
only answered for an OPEN port, and opens a CLOSED or FAULTED one with score and grants at 0 and a PORT_OPEN record.
PORT_CLOSE closes an OPEN port without entries and a FAULTED port with a PORT_CLOSED record, drains an OPEN port with
entries, and is otherwise only answered. STATUS_PORT answers with the port's values and makes the capture absent. No
REFUSING entry finds a free place here (R89). -/
def Obligations.PortRequests : Prop :=
  ∀ (s : State) (q : ControlRequest),
    (∀ c ∈ [(0x0F, Instr.portOpen), (0x10, .portClose), (0x05, .statusPort)],
      s.CanTake c.1 q → 7 < field q.payload 0 1 → exec c.2 s = .next (s.answered q [4#8])) ∧
    ∀ p : PortIx, field q.payload 0 1 = p.val →
      let x := s.port p
      (s.CanTake 0x0F q →
        (s.sa.exhausted = true → exec .portOpen s = .next (s.answered q [11#8])) ∧
        (s.sa.exhausted = false → s.du.mode = .unset → exec .portOpen s = .next (s.answered q [8#8])) ∧
        (s.sa.exhausted = false → s.du.mode ≠ .unset → x.state = .opened →
          exec .portOpen s = .next (s.answered q [0#8])) ∧
        (s.sa.exhausted = false → s.du.mode ≠ .unset → x.state = .draining →
          exec .portOpen s = .next (s.answered q [5#8])) ∧
        (s.sa.exhausted = false → s.du.mode ≠ .unset → x.state = .closed ∨ x.state = .faulted →
          x.requests = [] ∨ 16 ≤ x.replies.length →
          ∃ t, exec .portOpen s = .next t ∧ s.SameBut t [.port p, .aj, .clu] ∧ s.Replied t q [0#8] ∧
            t.port p = { x with state := .opened, score := 0, grantsSinceOpen := 0 } ∧
            t.aj = (s.admin (.portOpen p x.state)).aj)) ∧
      (s.CanTake 0x10 q →
        (x.state = .opened ∧ x.requests = [] ∨ x.state = .faulted ∧ (x.requests = [] ∨ 16 ≤ x.replies.length) →
          ∃ t, exec .portClose s = .next t ∧ s.SameBut t [.port p, .aj, .clu] ∧ s.Replied t q [0#8] ∧
            t.port p = { x with state := .closed, score := 0 } ∧
            t.aj = (s.admin (.portClosed p x.state x.grantsSinceOpen)).aj) ∧
        (x.state = .opened → x.requests ≠ [] → (∀ e ∈ x.requests, e.status = .waiting) ∨ 16 ≤ x.replies.length →
          ∃ t, exec .portClose s = .next t ∧ s.SameBut t [.port p, .clu] ∧ s.Replied t q [0#8] ∧
            t.port p = { x with state := .draining }) ∧
        (x.state = .closed ∨ x.state = .draining → exec .portClose s = .next (s.answered q [0#8]))) ∧
      (s.CanTake 0x05 q → exec .statusPort s = .next
        ((s.setPort p { x with capture := none }).answered q (replyPayload .ok (portFields x))))

/-! ## Sequence Allocator -/

/-- R101 to R108, with R94 and R95: a grant to a port. It goes to the first port that holds a request, searching from
the rotation pointer, when no internal requester holds one. The request at the front of the queue takes the next
sequence number and the dating time, which becomes the high-water mark; its stamp carries the effective phase of its
group at that time, the disposition, the quality, the offset and the journal status; an accepted stamp in CALL, RANDOM
or SUSPENDED is counted in its group; the counts and the rotation pointer move; and a drain whose last entry it was
ends. -/
def Obligations.AGrantStampsTheFrontRequest : Prop :=
  ∀ (s : State) (p : PortIx) (q : StampRequest) (rest : List StampRequest), s.power = .running →
    s.sa.exhausted = false → s.sa.seq < 18446744073709551615 →
    s.du.records = [] → s.gs.records = [] → s.clu.markers = [] →
    (∀ j : Fin 8, j < p - s.sa.rotation → (s.port (s.sa.rotation + j)).serviceRequest = none) →
    let x := s.port p
    x.requests = q :: rest → q.status = .waiting → (∀ e ∈ rest, e.status = .waiting) →
    x.state = .opened ∨ x.state = .draining → x.replies.length < 16 →
    let seq := s.sa.seq + 1
    let now := max s.tb.raw s.tb.hwm
    let phase := (s.group q.group).effective now
    let quality : Quality := ⟨s.du.trace, s.du.contested, decide (s.tb.raw < s.tb.hwm)⟩
    let wait := min 4294967295 (now - q.arrival)
    let record : StampRecord := ⟨p, q.cls, q.group, q.key, q.tag, decide (phase = .closed), phase, quality, wait⟩
    let st := (s.aj.decision (.stamp seq now record)).status
    let drained := x.state = .draining ∧ rest = []
    ∃ t, exec .stampGrant s = .next t ∧ s.SameBut t [.tb, .sa, .port p, .group q.group, .aj, .clu] ∧
      t.tb = { s.tb with hwm := now } ∧
      t.sa = { s.sa with
        seq := seq
        rotation := p + 1
        granted := s.sa.granted + 1
        recorded := if st = .recorded then s.sa.recorded + 1 else s.sa.recorded
        notSelected := if st = .notSelected then s.sa.notSelected + 1 else s.sa.notSelected
        lost := if st = .lost then s.sa.lost + 1 else s.sa.lost
        floored := if s.tb.raw < s.tb.hwm then s.sa.floored + 1 else s.sa.floored } ∧
      t.group q.group =
        (if phase = .call ∨ phase = .random ∨ phase = .suspended then
          { s.group q.group with accepted := bump (s.group q.group).accepted, lastSeq := some seq }
        else s.group q.group) ∧
      t.port p = { x with
        state := if drained then .closed else x.state
        score := if drained then 0 else x.score
        requests := rest
        replies := x.replies ++
          [.stamped q.tag s.epoch seq now wait (decide (phase = .closed)) phase quality s.tb.utcOffset st]
        grantsSinceOpen := bump x.grantsSinceOpen
        counters := { x.counters with granted := bump x.counters.granted } } ∧
      (¬ drained → t.aj = (s.submit (.stamp seq now record)).aj) ∧
      (drained → t.aj = ((s.submit (.stamp seq now record)).admin
        (.portClosed p .draining (bump x.grantsSinceOpen))).aj)

/-- R101, R102, R109, R111 and R156: internal records. Outside an exhausted epoch a grant gives the front record of DU,
else of GS, else of CLU, the next sequence number and the dating time, and raises the high-water mark and the
requester's count; in an exhausted epoch the record goes to the journal without a sequence, dated by a plain read, and
TB and SA stay. The JOURNAL_MARK reply follows its record. -/
def Obligations.InternalRecordsReachTheJournal : Prop :=
  ∀ (s : State) (c : Instr) (sequenced : Bool), s.power = .running →
    (c = .internalGrant ∧ s.sa.exhausted = false ∧ s.sa.seq < 18446744073709551615 ∧ sequenced = true ∨
      c = .unsequencedHandoff ∧ s.sa.exhausted = true ∧ sequenced = false) →
    let now := max s.tb.raw s.tb.hwm
    let seq := if sequenced then some (s.sa.seq + 1) else none
    let tb := if sequenced then { s.tb with hwm := now } else s.tb
    let sa := if sequenced then
        { s.sa with
          seq := s.sa.seq + 1
          floored := if s.tb.raw < s.tb.hwm then s.sa.floored + 1 else s.sa.floored }
      else s.sa
    let one := if sequenced then 1 else 0
    (∀ r rest, s.du.records = r :: rest → ∃ t, exec c s = .next t ∧ s.SameBut t [.tb, .du, .sa, .aj, .clu] ∧
      t.tb = tb ∧ t.du = { s.du with records := rest } ∧ t.sa = { sa with duGrants := s.sa.duGrants + one } ∧
      t.aj = (s.submit (.clock seq now r)).aj ∧ t.clu.markers = s.clu.markers) ∧
    (∀ r rest, s.du.records = [] → s.gs.records = r :: rest →
      ∃ t, exec c s = .next t ∧ s.SameBut t [.tb, .auctions, .sa, .aj, .clu] ∧
        t.tb = tb ∧ t.gs = { s.gs with records := rest } ∧ t.sa = { sa with gsGrants := s.sa.gsGrants + one } ∧
        t.aj = (s.submit (.auction seq now r)).aj ∧ t.clu.markers = s.clu.markers) ∧
    (∀ m rest q later, s.du.records = [] → s.gs.records = [] → s.clu.markers = m :: rest →
      s.clu.queue = q :: later → q.status = .inService →
      let outcome := s.aj.decision (.marker seq now m.text)
      ∃ t, exec c s = .next t ∧ s.SameBut t [.tb, .sa, .aj, .clu] ∧
        t.tb = tb ∧ t.clu.markers = rest ∧ t.sa = { sa with cluGrants := s.sa.cluGrants + one } ∧
        t.aj = (s.submit (.marker seq now m.text)).aj ∧
        s.Replied t q (replyPayload (if m.degraded then .okClamped else .ok)
          [fo 8 seq, fo 8 (seq.map fun _ => now), fo 4 outcome.number,
           fx 1 (JournalStatus.toCode outcome.status)]))

/-- R102 and R111: a grant that finds the counter at its last value sets the exhausted flag instead: the counter and the
counts stay, every port is CLOSED with score 0 and no WAITING entry, and one CONFIG_CHANGE record is submitted. -/
def Obligations.TheLastSequenceNumberExhaustsTheEpoch : Prop :=
  ∀ (s : State) (c : Instr), s.power = .running → s.sa.exhausted = false → s.sa.seq = 18446744073709551615 →
    (c = .internalGrant ∧ s.nextInternal.isSome = true ∨
      c = .stampGrant ∧ s.internalHeld = false ∧ s.portToServe.isSome = true) →
    ∃ t, exec c s = .next t ∧ s.SameBut t ([.sa, .aj, .clu] ++ allPorts) ∧
      t.sa = { s.sa with exhausted := true } ∧
      (∀ p, (t.port p).state = .closed ∧ (t.port p).score = 0 ∧ (∀ e ∈ (t.port p).requests, e.status ≠ .waiting) ∧
        (t.port p).requests.length + (t.port p).replies.length =
          (s.port p).requests.length + (s.port p).replies.length) ∧
      t.aj = (s.configChange 0x00#8 false false []).aj

/-- R110: stamps granted are the sum of the recorded, the not selected and the lost, and the sequence counter is the
stamps granted plus the internal grants; every step keeps both, and outside a reset and its end no command lowers the
counter (R102). -/
def Obligations.GrantsAreConserved : Prop :=
  (∀ s t : State, s.sa.Conserved → step s = .next t → t.sa.Conserved) ∧
    ∀ (c : Instr) (s t : State), (∀ k, c ≠ .reset k) → c ≠ .startUp → exec c s = .next t →
      s.sa.seq ≤ t.sa.seq ∧ t.sa.seq ≤ s.sa.seq + 1

/-! ## Control link -/

/-- R17, R63, R82 and R162: a byte that is no start byte and arrives outside a frame is counted as discarded, and
nothing else changes (bytes inside a frame are notes/assumptions/12.md). R63: a twin frame that fails is counted as bad
and leaves the receiver; bytes short of a frame's end stay in it with the raw time of the start byte, taken alike by all
eight frame commands of the link (the model's choice, notes/assumptions/11.md). -/
def Obligations.BytesOutsideAFrameAreCounted : Prop :=
  (∀ (s : State) (r : Ref) (p : PortIx) (b : Byte), s.power = .running →
    ((s.mon r).state ≠ .disabled → (s.mon r).rx = [] → b ≠ 0xD3#8 →
      exec (.refByteDiscarded r b) s = .next (s.setMon r
        { s.mon r with counters := { (s.mon r).counters with discarded := bump (s.mon r).counters.discarded } })) ∧
    (s.tlu.rx = none → b ≠ 0x3C#8 →
      exec (.twinByteDiscarded b) s = .next (s.setTlu
        { s.tlu with counters := { s.tlu.counters with discarded := bump s.tlu.counters.discarded } })) ∧
    ((s.port p).rx = [] → b ≠ 0xA7#8 →
      exec (.portByteDiscarded p b) s = .next (s.setPort p
        { s.port p with counters := { (s.port p).counters with discarded := bump (s.port p).counters.discarded } })) ∧
    (s.clu.rx = [] → b ≠ 0xC5#8 →
      exec (.controlByteDiscarded b) s = .next (s.setClu
        { s.clu with counters := { s.clu.counters with discarded := bump s.clu.counters.discarded } }))) ∧
  ∀ (s : State) (bytes : List Byte), s.power = .running →
    (takeTwinBytes s.tlu.rx bytes s.tb.raw = .bad →
      exec (.twinBadFrame bytes) s = .next (s.setTlu
        { s.tlu with
          rx := none
          counters := { s.tlu.counters with badFrames := bump s.tlu.counters.badFrames } })) ∧
    ∀ rx, takeTwinBytes s.tlu.rx bytes s.tb.raw = .assembling rx →
      ∀ c ∈ [Instr.twinBadFrame bytes, .offerReceived bytes, .acceptReceived bytes, .refuseReceived bytes,
          .byeReceived bytes, .probeReceived bytes, .echoReceived bytes, .statusReceived bytes],
        exec c s = .next (s.setTlu { s.tlu with rx := some rx })

/-- R162 and R163: a control frame that passes its check joins a request queue of fewer than 4 entries as WAITING, and
is otherwise answered BUSY when the reply list has a place not held for the entry IN_SERVICE (notes/assumptions/37.md),
the BUSY reply being dropped when it has none; a frame that fails its check, or whose length bytes give more than 1,024,
is counted; bytes short of the frame's end stay in the receiver, taken alike by both frame commands (the model's choice,
notes/assumptions/11.md). Nothing but CLU changes. -/
def Obligations.ControlFramesAreQueuedOrRefused : Prop :=
  ∀ (s : State) (bytes : List Byte), s.power = .running →
    let x := s.clu
    (∀ rx, takeControlBytes x.rx bytes = .assembling rx →
      exec (.controlFrame bytes) s = .next (s.setClu { x with rx := rx }) ∧
      exec (.controlBadLength bytes) s = .next (s.setClu { x with rx := rx })) ∧
    (takeControlBytes x.rx bytes = .badLength →
      exec (.controlBadLength bytes) s = .next (s.setClu
        { x with
          rx := []
          counters := { x.counters with
            badLength := bump x.counters.badLength
            discarded := sat32 (x.counters.discarded + 3) } })) ∧
    ∀ frame, takeControlBytes x.rx bytes = .arrived frame →
      let q : ControlRequest :=
        ⟨BitVec.ofNat 8 (field frame 3 1), BitVec.ofNat 16 (field frame 4 2),
          slice frame 6 (field frame 1 2), .waiting⟩
      let held := x.replies.length + (if x.queue.head?.map ControlRequest.status = some .inService then 1 else 0)
      (byteSum frame ≠ 0 → exec (.controlFrame bytes) s = .next (s.setClu
        { x with rx := [], counters := { x.counters with badCheck := bump x.counters.badCheck } })) ∧
      (byteSum frame = 0 → x.queue.length < 4 → exec (.controlFrame bytes) s = .next (s.setClu
        { x with
          rx := []
          queue := x.queue ++ [q]
          counters := { x.counters with received := bump x.counters.received } })) ∧
      (byteSum frame = 0 → 4 ≤ x.queue.length → held < 8 → exec (.controlFrame bytes) s = .next (s.setClu
        { x with
          rx := []
          replies := x.replies ++ [⟨q.kind ||| 0x80#8, q.tag, [12#8]⟩]
          counters := { x.counters with
            received := bump x.counters.received
            refusedBusy := bump x.counters.refusedBusy } })) ∧
      (byteSum frame = 0 → 4 ≤ x.queue.length → 8 ≤ held → exec (.controlFrame bytes) s = .next (s.setClu
        { x with
          rx := []
          counters := { x.counters with
            received := bump x.counters.received
            refusedBusy := bump x.counters.refusedBusy
            busyDropped := bump x.counters.busyDropped } }))

/-- R164, R165 and R167: with a place in the reply list, an ANSWER_BUSY entry at the front is answered BUSY, and a
WAITING one of unknown kind or of a length not allowed UNKNOWN_KIND or BAD_LENGTH; an idle transmitter takes the front
reply, or, without one, the front notice, and a start while a frame is being sent, or with none waiting, leaves the
state as it is (the model's choice, notes/assumptions/1.md); a frame sent is counted and the next is chosen. Nothing but
CLU changes. -/
def Obligations.ControlAnswersAndTransmitter : Prop :=
  ∀ s : State, s.power = .running →
    let x := s.clu
    (∀ q rest, x.queue = q :: rest → x.replies.length < 8 →
      (q.status = .answerBusy → exec .answerBusyReply s = .next (s.setClu
        { x with
          queue := rest
          replies := x.replies ++ [⟨q.kind ||| 0x80#8, q.tag, [12#8]⟩]
          counters := { x.counters with refusedBusy := bump x.counters.refusedBusy } })) ∧
      (q.status = .waiting → kindKnown q.kind.toNat = false → exec .unknownRequest s = .next (s.setClu
        { x with
          queue := rest
          replies := x.replies ++ [⟨q.kind ||| 0x80#8, q.tag, [2#8]⟩]
          counters := { x.counters with unknownKind := bump x.counters.unknownKind } })) ∧
      (q.status = .waiting → kindKnown q.kind.toNat = true →
        lengthAllowed q.kind.toNat q.payload.length = false → exec .unknownRequest s = .next (s.setClu
        { x with
          queue := rest
          replies := x.replies ++ [⟨q.kind ||| 0x80#8, q.tag, [3#8]⟩]
          counters := { x.counters with badRequestLength := bump x.counters.badRequestLength } }))) ∧
    (x.tx = .idle →
      (∀ f rest, x.replies = f :: rest →
        exec .controlTransmitStart s = .next (s.setClu { x with tx := .reply f, replies := rest })) ∧
      (∀ f rest, x.replies = [] → x.notices = f :: rest →
        exec .controlTransmitStart s = .next (s.setClu { x with tx := .notice f, notices := rest }))) ∧
    (x.tx ≠ .idle ∨ x.replies = [] ∧ x.notices = [] → exec .controlTransmitStart s = .next s) ∧
    ∀ f, x.tx = .reply f ∨ x.tx = .notice f →
      ∃ t, exec .controlFrameSent s = .next t ∧ s.SameBut t [.clu] ∧
        t.clu = { x with tx := t.clu.tx, replies := t.clu.replies, notices := t.clu.notices, counters := t.clu.counters } ∧
        (x.tx = .reply f →
          t.clu.counters = { x.counters with repliesSent := bump x.counters.repliesSent }) ∧
        (x.tx = .notice f →
          t.clu.counters = { x.counters with noticesSent := bump x.counters.noticesSent }) ∧
        (∀ g rest, x.replies = g :: rest →
          t.clu.tx = .reply g ∧ t.clu.replies = rest ∧ t.clu.notices = x.notices) ∧
        (∀ g rest, x.replies = [] → x.notices = g :: rest →
          t.clu.tx = .notice g ∧ t.clu.replies = [] ∧ t.clu.notices = rest) ∧
        (x.replies = [] → x.notices = [] → t.clu.tx = .idle ∧ t.clu.replies = [] ∧ t.clu.notices = [])

/-- R36, R60, R79, R112, R136, R159, R172 and R173: IDENTIFY and the status requests answer with the values as they
stand and change nothing but the queue, the reply list and the count of requests served (IDENTIFY reports that count
before it counts itself: DEDUCED, notes/assumptions/31.md); STATUS_GROUP is refused OUT_OF_RANGE for an index above 15,
and does not show what is sealed: the draw, T_end and the draws of the extension list (R118, R136). -/
def Obligations.StatusRequestsOnlyAnswer : Prop :=
  ∀ (s : State) (q : ControlRequest),
    (s.CanTake 0x01 q → exec .identify s = .next (s.answered q (replyPayload .ok (identifyFields s)))) ∧
    (s.CanTake 0x02 q →
      exec .statusClock s = .next (s.answered q (replyPayload .ok (timeBaseFields s.tb ++ disciplineFields s.du)))) ∧
    (s.CanTake 0x03 q →
      exec .statusRef s = .next (s.answered q (replyPayload .ok (monitorFields s.monA ++ monitorFields s.monB)))) ∧
    (s.CanTake 0x04 q →
      exec .statusTwin s = .next (s.answered q (replyPayload .ok (twinFields s.tlu s.tick)))) ∧
    (s.CanTake 0x06 q →
      (15 < field q.payload 0 1 → exec .statusGroup s = .next (s.answered q [4#8])) ∧
      ∀ g : GroupIx, field q.payload 0 1 = g.val →
        exec .statusGroup s = .next (s.answered q (replyPayload .ok
          (groupFields (s.group g) ((s.group g).effective s.dating)
            (s.gs.records.filter fun r => decide (r.group = g)).length s.gs.records.length)))) ∧
    (s.CanTake 0x07 q →
      exec .statusJournal s =
        .next (s.answered q (replyPayload .ok (allocatorFields s.sa s.epoch ++ journalFields s.aj)))) ∧
    ∀ (x : Group) (e : EffPhase) (w l : Nat) (draw tEnd : Option Nat) (extensions : List Extension),
      x.revealed < x.number →
      extensions.map (fun y => (y.kind, y.time, y.tMin)) = x.extensions.map (fun y => (y.kind, y.time, y.tMin)) →
      groupFields { x with draw := draw, tEnd := tEnd, extensions := extensions } e w l = groupFields x e w l

/-- R5, R169 and R171: SERVO_CONFIG and TRACE_CONFIG clamp their values, place the whole record in the pending position
of their slot and leave the active one, submit a CONFIG_CHANGE record, and answer with the record as taken and the note
that it is staged, one byte of value 1 (the model's choice, notes/assumptions/24.md). -/
def Obligations.ServoAndTraceSettingsAreStaged : Prop :=
  ∀ (s : State) (q : ControlRequest),
    (s.CanTake 0x0A q →
      let v : Servo := ⟨max 0 (min 1000 (field q.payload 0 2)), max 0 (min 250 (field q.payload 2 2)),
        max 10000 (min 10000000 (field q.payload 4 4))⟩
      let clamped :=
        decide (v ≠ ⟨field q.payload 0 2, field q.payload 2 2, field q.payload 4 4⟩)
      ∃ t, exec .servoConfig s = .next t ∧ s.SameBut t [.tb, .aj, .clu] ∧
        t.tb = { s.tb with servo := { s.tb.servo with pending := some v } } ∧
        t.aj = (s.configChange 0x0A#8 clamped true (fieldBytes (servoFields v))).aj ∧
        s.Replied t q (replyPayload (if clamped then .okClamped else .ok) (servoFields v ++ [fx 1 1]))) ∧
    (s.CanTake 0x0B q →
      let limit := max 1000 (min 1000000 (field q.payload 6 4))
      let v : Trace := ⟨max 1 (min 10000 (field q.payload 0 2)),
        min (max 1000 (min 1000000 (field q.payload 2 4))) limit, limit, max 10 (min 3600 (field q.payload 10 2))⟩
      let clamped := decide
        (v ≠ ⟨field q.payload 0 2, field q.payload 2 4, field q.payload 6 4, field q.payload 10 2⟩)
      ∃ t, exec .traceConfig s = .next t ∧ s.SameBut t [.tb, .aj, .clu] ∧
        t.tb = { s.tb with trace := { s.tb.trace with pending := some v } } ∧
        t.aj = (s.configChange 0x0B#8 clamped true (fieldBytes (traceFields v))).aj ∧
        s.Replied t q (replyPayload (if clamped then .okClamped else .ok) (traceFields v ++ [fx 1 1])))

/-- R32, R34, R35, R148, R170, R171 and R175: REF_CONFIG enables or disables its monitor with all that R32 clears,
raising a REF notice of the change (its fault score in one byte is the model's choice, notes/assumptions/24.md), sets
the clamped ceiling, stages the clamped delay, takes the preferred reference (the bytes of a partial message lost so are
not counted: the model's choice, notes/assumptions/41.md), submits a CONFIG_CHANGE record of the values as taken,
clamped or not, and staged, and answers with the state, the ceiling, the delay, the preference and the selection;
SELECT_CONFIG takes its selectors at once with a SELECTOR_CHANGE record; NOTICE_CONFIG takes its enables and TICK mode
at once. Values that name nothing are refused OUT_OF_RANGE and change nothing. The journal finds the CONFIG_CHANGE
record as it was, but for CLOCK records of the request that DU's full list loses (R58). -/
def Obligations.RefSelectAndNoticeConfig : Prop :=
  ∀ (s : State) (q : ControlRequest),
    (s.CanTake 0x09 q →
      (refOfCode (field q.payload 0 1) = none ∨ 1 < field q.payload 1 1 ∨
          refOfCode (field q.payload 10 1) = none → exec .refConfig s = .next (s.answered q [4#8])) ∧
      ∀ (r preferred : Ref) (enable : Bool), field q.payload 0 1 = (match r with | .a => 1 | .b => 2) →
        field q.payload 1 1 = (if enable then 1 else 0) →
        field q.payload 10 1 = (match preferred with | .a => 1 | .b => 2) →
        ∃ t, exec .refConfig s = .next t ∧ s.SameBut t [.mon r, .tb, .tlu, .du, .aj, .clu] ∧
          (let ceiling := max 10 (min 1000000 (field q.payload 2 4))
           let delay := max (-100000) (min 100000 (fieldInt q.payload 6 4))
           let clamped := ceiling ≠ field q.payload 2 4 ∨ delay ≠ fieldInt q.payload 6 4
           s.Replied t q (replyPayload (if clamped then .okClamped else .ok)
             [fx 1 (QualState.toCode (t.mon r).state), fx 4 ceiling, fs 4 delay, fx 1 (Ref.toCode preferred),
              fx 1 (refCode t.du.selection)]) ∧
           ∃ j : Journal, j = { s.aj with tally := j.tally, lost := j.lost } ∧
             (s.du.records.length ≤ 24 → j = s.aj) ∧
             t.aj = (State.configChange { s with aj := j } 0x09#8 (decide clamped) true
               ([if r = .a then 1#8 else 2#8, if enable then 1#8 else 0#8] ++ leBytes 4 ceiling ++ leSigned 4 delay ++
                 [if preferred = .a then 1#8 else 2#8])).aj) ∧
          t.du.preferred = preferred ∧ t.tb.raw = s.tb.raw ∧ t.tb.hwm = s.tb.hwm ∧
          (match r with | .a => t.tb.delayA | .b => t.tb.delayB) =
            ⟨s.tb.cableDelay r, some (max (-100000) (min 100000 (fieldInt q.payload 6 4)))⟩ ∧
          (enable = decide ((s.mon r).state ≠ .disabled) →
            t.mon r = { s.mon r with ceiling := max 10 (min 1000000 (field q.payload 2 4)) }) ∧
          (enable = decide ((s.mon r).state = .disabled) →
            t.mon r =
              { state := if enable then .candidate else .disabled
                ceiling := max 10 (min 1000000 (field q.payload 2 4))
                missingTimer := if enable then some (s.tick + 137500000) else none
                counters := { (s.mon r).counters with
                  stateChanges := bump (s.mon r).counters.stateChanges } } ∧
            (s.clu.enables.ref = true → s.clu.notices.length < 16 →
              s.clu.notices ++ [⟨0x61#8, 0#16, leBytes 4 s.clu.noticesLost ++ layout
                [fx 1 (match r with | .a => 1 | .b => 2), fx 1 (QualState.toCode (s.mon r).state),
                 fx 1 (QualState.toCode (t.mon r).state), fx 1 0,
                 fx 1 (RefCause.toCode (if enable then .enable else .disable)), fx 8 s.dating]⟩] <+: t.clu.notices))) ∧
    (s.CanTake 0x1A q →
      (readSelectors q.payload 0 = none → exec .selectConfig s = .next (s.answered q [4#8])) ∧
      ∀ x, readSelectors q.payload 0 = some x →
        (4095 < x.first.code ∨ 4095 < x.first.mask ∨ 4095 < x.second.code ∨ 4095 < x.second.mask →
          exec .selectConfig s = .next (s.answered q [4#8])) ∧
        (x.first.code ≤ 4095 → x.first.mask ≤ 4095 → x.second.code ≤ 4095 → x.second.mask ≤ 4095 →
          ∃ t, exec .selectConfig s = .next t ∧ s.SameBut t [.aj, .clu] ∧ s.Replied t q [0#8] ∧
            t.aj.selectors = x ∧
            t.aj = (State.admin { s with aj := { s.aj with selectors := x } }
              (.selectorChange s.aj.selectors x)).aj)) ∧
    (s.CanTake 0x1B q →
      (readEnables q.payload 0 = none ∨ 2 < field q.payload 7 1 →
        exec .noticeConfig s = .next (s.answered q [4#8])) ∧
      ∀ e (mode : TickMode), readEnables q.payload 0 = some e →
        field q.payload 7 1 = (match mode with | .off => 0 | .once => 1 | .eachSecond => 2) →
        ∃ t, exec .noticeConfig s = .next t ∧ s.SameBut t [.clu] ∧
          t.clu = { s.clu with
            queue := s.clu.queue.tail
            replies := t.clu.replies
            enables := e
            tick := mode
            counters := { s.clu.counters with served := bump s.clu.counters.served } } ∧
          s.Replied t q (replyPayload .ok (enableFields e ++
            [fx 1 (match mode with | .off => 0 | .once => 1 | .eachSecond => 2), fx 4 s.clu.noticesLost])))

/-- R49, R43, R50, R58, R59 and R7 to R9: CLOCK_SET sets raw time to the venue time it carries in UNSET, and in HOLDOVER
when no port is open for the clock: the anchor is the declared uncertainty, at least 1,000 ns, of source HOST at the
dating time, the offset is the one carried, a pending mark makes its reference stale, and from UNSET the mode becomes
HOLDOVER with R at 0; a backward move first raises the high-water mark to dating time. The step reaches the twin as
every applied step does, a step of 0 too (the model's choice, notes/assumptions/21.md), and before DU's records
(DEDUCED, notes/assumptions/20.md): an OFFSET_CHANGE of cause HOST when the offset changes, then a SET with the raw
times, the venue time, the bound and the mode before. Each joins DU's list, with its CLOCK notice, or is lost when 32
wait (R145). In LOCKED, SLEWING and HOLDOVER with a port open the request is refused WRONG_STATE. In UNSET no port is
open for the clock here (R92). -/
def Obligations.ClockSetMovesRawTime : Prop :=
  ∀ (s : State) (q : ControlRequest), s.CanTake 0x08 q →
    let venue := field q.payload 0 8
    let declared := field q.payload 8 4
    (s.du.mode = .locked ∨ s.du.mode = .slewing ∨ s.du.mode = .holdover ∧ s.anyPortOpen = true →
      exec .clockSet s = .next (s.answered q [5#8])) ∧
    (s.du.mode = .unset ∨ s.du.mode = .holdover → s.anyPortOpen = false →
      ∃ t, exec .clockSet s = .next t ∧ s.SameBut t [.tb, .tlu, .du, .aj, .clu] ∧
        s.Replied t q [if declared < 1000 then 1#8 else 0#8] ∧
        t.tb.raw = venue ∧ t.tb.hwm = (if venue < s.tb.raw then s.dating else s.tb.hwm) ∧
        t.tb.utcOffset = fieldInt q.payload 12 1 ∧ t.tb.frac = s.tb.frac ∧ t.tb.inc = s.tb.inc ∧
        t.tb.rate = s.tb.rate ∧ s.dating ≤ t.dating ∧ t.tlu = (s.stepTime ((venue : Int) - s.tb.raw)).tlu ∧
        t.du.mode = .holdover ∧ t.du.integral = s.du.integral ∧
        t.du.rate = (if s.du.mode = .unset then 0 else s.du.rate) ∧
        t.du.anchor = some ⟨max 1000 declared, max venue t.tb.hwm, .host, false⟩ ∧
        t.du.selection = s.du.selection ∧
        t.du.staleA = (s.du.staleA || s.monA.pendingMark.isSome) ∧
        t.du.staleB = (s.du.staleB || s.monB.pendingMark.isSome) ∧
        (let u := s.stepTime ((venue : Int) - s.tb.raw)
         let offset := fieldInt q.payload 12 1
         let formed : List ClockRecord :=
           (if offset = s.tb.utcOffset then []
            else [⟨.offsetChange s.tb.utcOffset offset .host, s.du.mode, s.du.bound⟩]) ++
           [⟨.set s.tb.raw venue venue (max 1000 declared) s.du.mode, .holdover, s.du.bound⟩]
         let places := 32 - u.du.records.length
         let lost := formed.length - places
         t.du.records = u.du.records ++ formed.take places ∧
         t.aj = (if lost = 0 then u.aj
           else { u.aj with
             tally := { u.aj.tally with others := min 4294967295 (u.aj.tally.others + lost) }
             lost := { u.aj.lost with clock := min 4294967295 (u.aj.lost.clock + lost) } }) ∧
         (lost = 0 → t.clu.notices =
           (formed.foldl (fun c r => c.notice .clock (clockNotice r s.du.trace (max venue t.tb.hwm))) u.clu).notices)))

/-! ## Group Scheduler -/

/-- R119, R124, R117 and R134: GROUP_SCHEDULE. After the catch-up, and with the BUSY test on what it leaves (DEDUCED,
notes/assumptions/30.md), it is refused by the first entry of Table 7-3 that applies, or opens the next auction: a draw
of at most 1,000 × W ms from one value of RS, sealed with its T_end, answered with the group (one byte, the model's
choice, notes/assumptions/24.md) and its values, an ARMED record, and, when Tc has passed, the CALL_START expiry at
once. The instants fit their fields here (notes/assumptions/10.md). -/
def Obligations.GroupScheduleOpensAnAuction : Prop :=
  ∀ (s : State) (q : ControlRequest), s.CanTake 0x11 q →
    (15 < field q.payload 0 1 → exec .groupSchedule s = .next (s.answered q [4#8])) ∧
    ∀ g : GroupIx, field q.payload 0 1 = g.val →
      let now := s.dating
      let s1 := s.catchUp g now true
      let x := s1.group g
      let waiting := (s1.gs.records.filter fun r => decide (r.group = g)).length
      let tc := field q.payload 1 8
      let tm := field q.payload 9 8
      let w := max 0 (min 600 (field q.payload 17 2))
      let refused (code : Byte) := ∃ t, exec .groupSchedule s = .next t ∧ s.SameBut t [.group g, .auctions, .clu] ∧
        t.group g = x ∧ t.gs.records = s1.gs.records ∧ s.Replied t q [code]
      (4 ≤ waiting → refused 12#8) ∧
      (waiting < 4 → s.du.mode = .unset → refused 8#8) ∧
      (waiting < 4 → s.du.mode ≠ .unset → x.phase ≠ .dormant → refused 5#8) ∧
      (waiting < 4 → s.du.mode ≠ .unset → x.phase = .dormant →
        (x.number = 65535 → refused 11#8) ∧
        (x.number ≠ 65535 → tm ≤ tc → refused 4#8) ∧
        (x.number ≠ 65535 → tc < tm → tm ≤ now → refused 6#8) ∧
        (x.number ≠ 65535 → tc < tm → now + 86400000000000 < tm → refused 4#8) ∧
        (x.number ≠ 65535 → tc < tm → now < tm → tm ≤ now + 86400000000000 →
          tm + 600000000000 ≤ 18446744073709551615 →
          let draw := (Config.randomValue s.gs.demands).toNat * (1000 * w + 1) / 4294967296
          let y : Group :=
            { phase := .scheduled
              number := x.number + 1
              revealed := x.revealed
              tc := some tc
              tMin := some tm
              window := some w
              draw := some draw
              tEnd := some (tm + draw * 1000000) }
          draw ≤ 1000 * w ∧
          ∃ t, exec .groupSchedule s = .next t ∧ s.SameBut t [.group g, .auctions, .demands, .clu] ∧
            t.group g = (if tc ≤ now then { y with phase := .call } else y) ∧
            t.gs.demands = s.gs.demands + 1 ∧
            (t.gs.records.map fun r => (r.group, r.step, r.instant, r.now)) =
              (s.gs.records.map fun r => (r.group, r.step, r.instant, r.now)) ++
                (g, .armed, now, now) :: (if tc ≤ now then [(g, .callStart, tc, now)] else []) ∧
            s.Replied t q (replyPayload (if w ≠ field q.payload 17 2 then .okClamped else .ok)
              [fx 1 g.val, fx 2 (x.number + 1), fx 8 tc, fx 8 tm, fx 2 w])))

/-- R119, R126, R127, R130, R131 and R134: GROUP_EXTEND and GROUP_RESUME. After the catch-up, and with the BUSY test on
what it leaves (DEDUCED, notes/assumptions/30.md), refused by the first entry of Tables 7-4 and 7-5 that applies;
accepted, T_min is E seconds from now, a new draw is made from one value of RS, the list takes an entry, the phase is
CALL and a record is formed. The instants fit their fields here (notes/assumptions/10.md). -/
def Obligations.GroupExtendAndResume : Prop :=
  ∀ (s : State) (q : ControlRequest) (c : Instr) (kind : ExtKind) (step : AuctionStep),
    (c = .groupExtend ∧ s.CanTake 0x12 q ∧ kind = .extend ∧ step = .extend ∨
      c = .groupResume ∧ s.CanTake 0x14 q ∧ kind = .resume ∧ step = .resume) →
    (15 < field q.payload 0 1 → exec c s = .next (s.answered q [4#8])) ∧
    ∀ g : GroupIx, field q.payload 0 1 = g.val →
      let now := s.dating
      let s1 := s.catchUp g now true
      let x := s1.group g
      let waiting := (s1.gs.records.filter fun r => decide (r.group = g)).length
      let inAuction := x.effective now = .call ∨ x.effective now = .random
      let e := max 1 (min 1800 (field q.payload 1 2))
      let refused (code : Byte) := ∃ t, exec c s = .next t ∧ s.SameBut t [.group g, .auctions, .clu] ∧
        t.group g = x ∧ t.gs.records = s1.gs.records ∧ s.Replied t q [code]
      (4 ≤ waiting → refused 12#8) ∧
      (waiting < 4 →
        (kind = .extend → x.phase = .closed → refused 6#8) ∧
        (kind = .extend → x.phase ≠ .closed → ¬ inAuction → refused 5#8) ∧
        (kind = .resume → x.phase ≠ .suspended → refused 5#8) ∧
        (kind = .extend ∧ x.phase ≠ .closed ∧ inAuction ∨ kind = .resume ∧ x.phase = .suspended →
          4 ≤ x.extensions.length → refused 7#8) ∧
        (kind = .resume → x.phase = .suspended → x.extensions.length < 4 → s.du.trace = .untraceable →
          refused 9#8) ∧
        (kind = .extend ∧ x.phase ≠ .closed ∧ inAuction ∨
            kind = .resume ∧ x.phase = .suspended ∧ s.du.trace ≠ .untraceable →
          x.extensions.length < 4 → now + e * 1000000000 + 1000000000 * x.window.getD 0 ≤ 18446744073709551615 →
          let tMin := now + e * 1000000000
          let draw := (Config.randomValue s.gs.demands).toNat * (1000 * x.window.getD 0 + 1) / 4294967296
          ∃ t, exec c s = .next t ∧ s.SameBut t [.group g, .auctions, .demands, .clu] ∧
            t.group g = { x with
              phase := .call
              tMin := some tMin
              draw := some draw
              tEnd := some (tMin + draw * 1000000)
              extensions := x.extensions ++ [⟨kind, now, tMin, draw⟩]
              cause := none } ∧
            t.gs.demands = s.gs.demands + 1 ∧
            t.gs.records = s1.gs.records ++
              [{ (t.group g).record g step now now with cause := x.cause }] ∧
            s.Replied t q (replyPayload (if e ≠ field q.payload 1 2 then .okClamped else .ok)
              [fx 2 x.number, fx 8 tMin, fx 1 (x.extensions.length + 1)])))

/-- R119, R128, R132, R133 and R134: GROUP_SUSPEND, GROUP_ABANDON and GROUP_CLEAR, each after the catch-up, with the
BUSY test on what it leaves (DEDUCED, notes/assumptions/30.md), and refused by the first entry of its table that
applies. A suspension keeps all but T_end and raises a GROUP notice of its values (R135), in which the values of other
steps are absent optional fields (the model's choice, notes/assumptions/25.md); an abandonment reveals the draws and
answers with the last, in 4 bytes (the model's choice, notes/assumptions/24.md); a clearing keeps the auction number and
the revealed-through number alone. -/
def Obligations.GroupSuspendAbandonAndClear : Prop :=
  ∀ (s : State) (q : ControlRequest),
    (∀ c ∈ [(0x13, Instr.groupSuspend), (0x15, .groupAbandon), (0x16, .groupClear)],
      s.CanTake c.1 q → 15 < field q.payload 0 1 → exec c.2 s = .next (s.answered q [4#8])) ∧
    ∀ g : GroupIx, field q.payload 0 1 = g.val →
      let now := s.dating
      let s1 := s.catchUp g now true
      let x := s1.group g
      let waiting := (s1.gs.records.filter fun r => decide (r.group = g)).length
      let inAuction := x.effective now = .call ∨ x.effective now = .random
      let gives (c : Instr) (y : Group) (rs : List AuctionRecord) (payload : List Byte) :=
        ∃ t, exec c s = .next t ∧ s.SameBut t [.group g, .auctions, .clu] ∧ t.group g = y ∧
          t.gs.records = s1.gs.records ++ rs ∧ s.Replied t q payload
      let suspended : Group := { x with phase := .suspended, cause := some .host, tEnd := none }
      let abandoned : Group := { x with phase := .abandoned, cause := none, revealed := x.number }
      let abandonment (cause : AuctionCause) : AuctionRecord :=
        { abandoned.record g .abandon now now with
          phaseBefore := some x.phase
          accepted := some x.accepted
          lastSeq := x.lastSeq
          cause := some cause }
      let cleared : Group := { number := x.number, revealed := x.revealed }
      (s.CanTake 0x13 q →
        (4 ≤ waiting → gives .groupSuspend x [] [12#8]) ∧
        (waiting < 4 → x.phase = .closed → gives .groupSuspend x [] [6#8]) ∧
        (waiting < 4 → x.phase ≠ .closed → ¬ inAuction → gives .groupSuspend x [] [5#8]) ∧
        (waiting < 4 → x.phase ≠ .closed → inAuction →
          gives .groupSuspend suspended [{ suspended.record g .suspend now now with cause := some .host }]
            (replyPayload .ok [fx 2 x.number]))) ∧
      (s.CanTake 0x15 q →
        (4 ≤ waiting → gives .groupAbandon x [] [12#8]) ∧
        (waiting < 4 → x.phase = .closed → gives .groupAbandon x [] [6#8]) ∧
        (waiting < 4 → x.phase = .dormant ∨ x.phase = .abandoned → gives .groupAbandon x [] [5#8]) ∧
        (waiting < 4 → x.phase = .scheduled ∨ x.phase = .call ∨ x.phase = .random ∨ x.phase = .suspended →
          gives .groupAbandon abandoned [abandonment .host]
            (replyPayload .ok [fx 2 x.number, fx 4 (x.draw.getD 0), fo 8 x.tEnd]))) ∧
      (s.CanTake 0x16 q →
        (x.phase = .dormant → gives .groupClear x [] [0#8]) ∧
        (x.phase = .closed ∨ x.phase = .abandoned → gives .groupClear cleared [] [0#8]) ∧
        (x.phase = .scheduled → 4 ≤ waiting → gives .groupClear x [] [12#8]) ∧
        (x.phase = .scheduled → waiting < 4 →
          gives .groupClear { cleared with revealed := x.number } [abandonment .clear] [0#8]) ∧
        (x.phase = .call ∨ x.phase = .random ∨ x.phase = .suspended → gives .groupClear x [] [5#8])) ∧
      -- the notice of a suspension
      (s.CanTake 0x13 q → waiting < 4 → x.phase ≠ .closed → inAuction →
        ∃ t, exec .groupSuspend s = .next t ∧ t.clu.notices = (s1.clu.notice .group
          [fx 1 g.val, fx 2 x.number, fx 1 (AuctionStep.toCode .suspend), fx 1 (Phase.toCode x.phase),
           fx 1 (Phase.toCode .suspended), fo 8 (some (x.tc.getD 0)), fo 8 (some (x.tMin.getD 0)),
           fo 2 (some (x.window.getD 0)), fx 1 x.extensions.length, fx 4 x.accepted,
           fo 1 (some (AuctionCause.toCode .host)), fo 4 none, fo 8 none, fo 8 none, fo 1 none, fx 8 now]).notices)

/-! ## Audit Journal -/

/-- R143 to R147, R157 and R158: the store decision. A stamp that the selectors pass over is only counted; a record that
leaves at least its tier free is stored under the next journal number with the CRC of its bytes over the previous chain
word, and raises a JOURNAL notice for each level notice it fires; any other is lost and counted in the tally, the loss
that makes the tally other than zero raising a JOURNAL notice (the layout and the cause codes of the notices are the
model's choice, notes/assumptions/24.md, 26.md, 44.md). Nothing but the journal and the notices changes. -/
def Obligations.ARecordIsStoredLostOrPassedOver : Prop :=
  ∀ (s : State) (b : Body),
    let j := s.aj
    let t := s.submit b
    let key (r : StampRecord) := r.group.val * 256 + r.cls.toCode * 16 + r.port.val
    let hit (x : Selector) (r : StampRecord) := x.on = true ∧ ((key r ^^^ x.code) &&& x.mask) = 0
    let passedOver := ∃ seq dating r, b = .stamp seq dating r ∧ r.late = false ∧
      (r.phase = .continuous ∨ r.phase = .abandoned) ∧ ¬ hit j.selectors.first r ∧
      (j.selectors.mode = .dual → ¬ hit j.selectors.second r)
    s.SameBut t [.aj, .clu] ∧
    (passedOver → t = { s with aj := { j with notSelected := bump j.notSelected } }) ∧
    (¬ passedOver → ∀ n, j.next = some n → b.kind.tier + b.size ≤ 32768 - j.used →
      t.aj = { j with
        pool := j.pool ++ [⟨n, crc32 (recordBytes n j.chain false b), b⟩]
        used := j.used + b.size
        next := if n < 4294967295 then some (n + 1) else none
        chain := crc32 (recordBytes n j.chain false b)
        stored := j.stored.raise b.kind
        level50 := if j.level50 = .armed ∧ j.used < 16384 ∧ 16384 ≤ j.used + b.size then .fired else j.level50
        level75 := if j.level75 = .armed ∧ j.used < 24576 ∧ 24576 ≤ j.used + b.size then .fired else j.level75 } ∧
      (let notice (level : Nat) (code : Nat) (st : LevelState) (c : Control) : Control :=
         if st = .armed ∧ j.used < level ∧ level ≤ j.used + b.size then c.notice .journal
           ([fx 1 code, fx 4 t.aj.used, fx 4 (32768 - t.aj.used), fx 4 t.aj.pool.length, fx 4 t.aj.oldest,
             fx 4 t.aj.newest] ++
             tallyFields j.tally ++ [fx 8 s.dating, fo 1 none, fo 8 none])
         else c
       t.clu = notice 24576 2 j.level75 (notice 16384 1 j.level50 s.clu)) ∧
      (n ≤ 4294967295 → t.aj.newest = n)) ∧
    (¬ passedOver → j.next = none ∨ 32768 - j.used < b.kind.tier + b.size →
      t.aj = { j with
        tally :=
          { stamps := if b.kind = .stamp then bump j.tally.stamps else j.tally.stamps
            others := if b.kind = .stamp then j.tally.others else bump j.tally.others
            span := match b.seq with
              | none => j.tally.span
              | some n => some ⟨(j.tally.span.map LostSpan.first).getD n, n⟩ }
        lost := j.lost.raise b.kind } ∧
      t.clu = if j.tally.stamps = 0 ∧ j.tally.others = 0 then s.clu.notice .journal
          ([fx 1 3, fx 4 j.used, fx 4 (32768 - j.used), fx 4 j.pool.length, fx 4 j.oldest, fx 4 j.newest] ++
            tallyFields t.aj.tally ++ [fx 8 s.dating, fo 1 (some (RecordKind.toCode b.kind)), fo 8 b.seq])
        else s.clu)

/-- R150 to R152 and R154 to R158. JOURNAL_READ counts itself and answers with the read head and copies: of a held start
the records from it on, each placed in turn until the count is reached or the next does not fit in 1,012 bytes, so at
least one (Table 8-1); no record, with status RELEASED below the oldest held or with the pool empty, and OK above the
newest issued. JOURNAL_RELEASE removes the records up to its number, re-arms each level notice whose re-arming level the
used bytes then reach (13,107 and 21,299 bytes, R157) and takes the GAP step: nothing for a tally of zero; a GAP record
stored and chained, which may fire a level again and clears the tally; or deferred, with a JOURNAL notice. Its reply
carries the records removed, the bytes freed, the oldest number held after the GAP step (DEDUCED,
notes/assumptions/32.md) and the step (codes, widths and the mark of its journal number are the model's choice,
notes/assumptions/24.md, 25.md, 26.md, 44.md). JOURNAL_MARK leaves its text, unprintable bytes replaced, in CLU's list
and stays IN_SERVICE. A read copy of an unrevealed auction record does not depend on its draw and T_end. -/
def Obligations.JournalRequests : Prop :=
  ∀ (s : State) (q : ControlRequest),
    (s.CanTake 0x17 q →
      let start := field q.payload 0 4
      let asked := field q.payload 4 1
      let count := max 1 (min 64 asked)
      let held := s.aj.pool.dropWhile fun r => decide (r.number < start)
      let released := start < s.aj.oldest ∨ s.aj.pool = [] ∧ start ≤ s.aj.newest
      ∃ records : List Record,
        (let status : Byte := if released then 10#8 else if records ≠ [] ∧ count ≠ asked then 1#8 else 0#8
         exec .journalRead s = .next ((State.answered { s with aj := { s.aj with readsServed := bump s.aj.readsServed } }
           q ([status] ++ leBytes 2 s.epoch ++ leBytes 4 s.aj.oldest ++ leBytes 4 s.aj.newest ++
             leBytes 1 records.length ++ records.flatMap (Record.readCopy s.gs.groups))))) ∧
        (released ∨ s.aj.newest < start → records = []) ∧
        (¬ released → start ≤ s.aj.newest →
          records <+: held ∧ records.length ≤ count ∧ totalSize records ≤ 1012 ∧
          (∀ r rest, held = records ++ r :: rest → records.length = count ∨ 1012 < totalSize records + r.body.size) ∧
          (s.aj.Wf → s.RecordsFit → ∃ r rest, records = r :: rest ∧ r.number = start))) ∧
    (s.CanTake 0x18 q → s.aj.Wf →
      let asked := field q.payload 0 4
      let n := min asked s.aj.newest
      let kept := s.aj.pool.filter fun r => decide (n < r.number)
      let gone := s.aj.pool.filter fun r => decide (r.number ≤ n)
      let used := totalSize kept
      let oldest := (kept.head?.map Record.number).getD 0
      let zero := s.aj.tally.stamps = 0 ∧ s.aj.tally.others = 0
      let rearmed (l : LevelState) (level : Nat) : LevelState := if used ≤ level then .armed else l
      let released : Journal := { s.aj with
        pool := kept
        used := used
        level50 := rearmed s.aj.level50 13107
        level75 := rearmed s.aj.level75 21299
        released := sat32 (s.aj.released + gone.length) }
      let reply (oldest : Nat) (step : List Fld) : List Byte :=
        replyPayload (if s.aj.newest < asked then .okClamped else .ok)
          ([fx 4 gone.length, fx 4 (totalSize gone), fx 4 oldest] ++ step)
      let notice (code used records oldest newest : Nat) (c : Control) : Control := c.notice .journal
        ([fx 1 code, fx 4 used, fx 4 (32768 - used), fx 4 records, fx 4 oldest, fx 4 newest] ++
          tallyFields s.aj.tally ++ [fx 8 s.dating, fo 1 none, fo 8 none])
      (zero → exec .journalRelease s =
        .next (State.answered { s with aj := released } q (reply oldest [fx 1 1, fo 4 none]))) ∧
      (¬ zero → ∀ k, s.aj.next = some k → used + 36 ≤ 32768 →
        let gap : Body := .gap s.aj.tally
        let chain := crc32 (recordBytes k s.aj.chain false gap)
        let front := if kept = [] then k else oldest
        let fires (l : LevelState) (level : Nat) : Prop := l = .armed ∧ used < level ∧ level ≤ used + 36
        ∃ t, exec .journalRelease s = .next t ∧ s.SameBut t [.aj, .clu] ∧
          s.Replied t q (reply front [fx 1 2, fo 4 (some k)]) ∧
          t.aj = { released with
            pool := kept ++ [⟨k, chain, gap⟩]
            used := used + 36
            next := if k < 4294967295 then some (k + 1) else none
            chain := chain
            tally := ⟨0, 0, none⟩
            level50 := t.aj.level50
            level75 := t.aj.level75
            stored := { s.aj.stored with gap := bump s.aj.stored.gap }
            gapWritten := bump s.aj.gapWritten } ∧
          (fires released.level50 16384 → t.aj.level50 = .fired ∧ t.aj.level75 = released.level75 ∧
            t.clu.notices = (notice 1 (used + 36) (kept.length + 1) front k s.clu).notices) ∧
          (fires released.level75 24576 → t.aj.level75 = .fired ∧ t.aj.level50 = released.level50 ∧
            t.clu.notices = (notice 2 (used + 36) (kept.length + 1) front k s.clu).notices) ∧
          (¬ fires released.level50 16384 → ¬ fires released.level75 24576 →
            t.aj.level50 = released.level50 ∧ t.aj.level75 = released.level75 ∧ t.clu.notices = s.clu.notices)) ∧
      (¬ zero → s.aj.next = none ∨ 32768 < used + 36 →
        exec .journalRelease s = .next (State.answered
          { s with
            aj := { released with gapDeferred := bump s.aj.gapDeferred }
            clu := notice 4 used kept.length oldest s.aj.newest s.clu }
          q (reply oldest [fx 1 3, fo 4 none])))) ∧
    (s.CanTake 0x19 q →
      let text := q.payload.map fun b => if 0x20 ≤ b.toNat ∧ b.toNat ≤ 0x7E then b else 0x3F#8
      exec .journalMark s = .next { s with
        clu := { s.clu with
          queue := { q with status := .inService } :: s.clu.queue.tail
          markers := s.clu.markers ++ [⟨text, decide (text ≠ q.payload)⟩] } }) ∧
    ∀ (n t : Nat) (seq : Option Nat) (chain : BitVec 32) (r : AuctionRecord) (draw tEnd : Option Nat),
      (s.group r.group).revealed < r.number → r.step ≠ .close → r.step ≠ .abandon →
      Record.readCopy s.gs.groups ⟨n, chain, .auction seq t { r with draw := draw, tEnd := tEnd }⟩ =
        Record.readCopy s.gs.groups ⟨n, chain, .auction seq t r⟩

/-! ## Settings Store and RESTART -/

/-- R183: SETTINGS_SAVE gathers the active settings, as 11.6 lays them out, into 69 bytes closed by their check word,
which a start-up then loads as those settings (R181), and stays IN_SERVICE; its completion leaves in the storage what is
read back, SAVED or FAILED (that the storage then holds it is the model's choice, notes/assumptions/17.md), submits a
SETTINGS_SAVED record with SAVED exactly when that is the copy, and answers with the outcome (its code is the model's
choice, notes/assumptions/26.md) and the list of the four slots with a flag for each that had a pending record. -/
def Obligations.SettingsAreSaved : Prop :=
  (∀ (s : State) (q : ControlRequest), s.CanTake 0x1C q →
    ∃ copy, copy.length = 73 ∧ profileCheck copy = true ∧
      (let flag (b : Bool) : Byte := if b then 1#8 else 0#8
       let ref (m : Monitor) (delay : Int) :=
         flag (decide (m.state ≠ .disabled)) :: leBytes 4 m.ceiling ++ leSigned 4 delay
       let selector (x : Selector) := flag x.on :: leBytes 2 x.code ++ leBytes 2 x.mask
       let servo := s.tb.servo.active
       let trace := s.tb.trace.active
       let e := s.clu.enables
       copy.take 69 =
         leBytes 2 servo.gp ++ leBytes 2 servo.gi ++ leBytes 4 servo.threshold ++
         leBytes 2 trace.growth ++ leBytes 4 trace.advisory ++ leBytes 4 trace.limit ++ leBytes 2 trace.interval ++
         ref s.monA s.tb.delayA.active ++ ref s.monB s.tb.delayB.active ++
         [match s.du.preferred with | .a => 1#8 | .b => 2#8] ++
         leBytes 4 s.tlu.limit ++ leBytes 4 s.tlu.allowance ++ leBytes 1 s.tlu.period ++ leBytes 2 s.tlu.venue ++
         [flag s.tlu.startAtReset, match s.aj.selectors.mode with | .single => 0#8 | .dual => 1#8] ++
         selector s.aj.selectors.first ++ selector s.aj.selectors.second ++
         [flag e.clock, flag e.ref, flag e.twin, flag e.group, flag e.journal, flag e.port, flag e.startup]) ∧
      (s.SettingsWf → loadProfile copy = some
        { servo := s.tb.servo.active
          trace := s.tb.trace.active
          refA := ⟨decide (s.monA.state ≠ .disabled), s.monA.ceiling, s.tb.delayA.active⟩
          refB := ⟨decide (s.monB.state ≠ .disabled), s.monB.ceiling, s.tb.delayB.active⟩
          preferred := s.du.preferred
          twin := ⟨s.tlu.limit, s.tlu.allowance, s.tlu.period⟩
          venue := s.tlu.venue
          startAtReset := s.tlu.startAtReset
          selectors := s.aj.selectors
          enables := s.clu.enables }) ∧
      exec .settingsSave s = .next { s with
        clu := { s.clu with queue := { q with status := .inService } :: s.clu.queue.tail }
        ss := { s.ss with
          save := some (Save.mk copy s.tb.servo.pending.isSome s.tb.trace.pending.isSome
            s.tb.delayA.pending.isSome s.tb.delayB.pending.isSome) } }) ∧
  ∀ (s : State) (sv : Save) (q : ControlRequest) (rest : List ControlRequest) (readBack : List Byte),
    s.power = .running → s.ss.save = some sv → s.clu.queue = q :: rest → q.status = .inService →
    readBack.length = 73 →
    let outcome : SaveOutcome := if readBack = sv.copy then .saved else .failed
    ∃ t, exec (.settingsSaveComplete readBack) s = .next t ∧ s.SameBut t [.ss, .aj, .clu] ∧
      t.ss = { s.ss with profile := readBack, save := none } ∧ t.aj = (s.admin (.settingsSaved outcome)).aj ∧
      s.Replied t q (replyPayload .ok
        [fx 1 outcome.toCode, fx 1 4, fx 1 (boolCode sv.pendingServo), fx 1 (boolCode sv.pendingTrace),
          fx 1 (boolCode sv.pendingA), fx 1 (boolCode sv.pendingB)])

/-- R16, R38, R62, R81, R99, R114, R138, R178 and R185: RESTART leaves the Time Base, the monitors, DU, TLU, SA and the
Settings Store as they stand; every port is CLOSED with score 0 and no WAITING entry, its other entries and replies kept
in number; every group is DORMANT with its auction number kept and its draws revealed when its auction was open; the
RESTART record is submitted; the other requests become ANSWER_BUSY, TICK is OFF and the enables are the profile's. GS's
list takes first the records of every group's catch-up and then the ABANDON records, each in group order (that of the
ABANDON records is the model's choice, notes/assumptions/49.md), and the reply counts the ports not CLOSED, the WAITING
entries, the auctions abandoned and those the catch-up closed (one byte each: the model's choice,
notes/assumptions/24.md), with the enables. -/
def Obligations.RestartClosesPortsAndAuctions : Prop :=
  ∀ (s : State) (q : ControlRequest), s.CanTake 0x1D q →
    ∃ t, exec .restart s = .next t ∧ s.SameBut t ([.auctions, .aj, .clu] ++ allPorts ++ allGroups) ∧
      (∀ p, (t.port p).state = .closed ∧ (t.port p).score = 0 ∧ (∀ e ∈ (t.port p).requests, e.status ≠ .waiting) ∧
        (t.port p).requests.length + (t.port p).replies.length =
          (s.port p).requests.length + (s.port p).replies.length ∧
        (t.port p).capture = (s.port p).capture ∧ (t.port p).grantsSinceOpen = (s.port p).grantsSinceOpen) ∧
      (∀ g, ((s.group g).phase = .dormant → t.group g = s.group g) ∧
        ((s.group g).phase = .closed ∨ (s.group g).phase = .abandoned →
          t.group g = { number := (s.group g).number, revealed := (s.group g).revealed }) ∧
        ((s.group g).phase = .scheduled ∨ (s.group g).phase = .call ∨ (s.group g).phase = .random ∨
            (s.group g).phase = .suspended →
          t.group g = { number := (s.group g).number, revealed := (s.group g).number })) ∧
      t.aj = (s.admin .restart).aj ∧
      t.clu.queue = s.clu.queue.tail.map (fun e => if e.status = .waiting then { e with status := .answerBusy } else e) ∧
      t.clu.tick = .off ∧
      t.clu.enables =
        (if profileCheck s.ss.profile then (readEnables s.ss.profile 62).getD {} else {}) ∧
      (let now := s.dating
       let caught (g : GroupIx) : Group := (s.catchUp g now false).group g
       let abandoned := (List.finRange 16).filter fun g => decide
         ((caught g).phase = .scheduled ∨ (caught g).phase = .call ∨ (caught g).phase = .random ∨
           (caught g).phase = .suspended)
       let closed := (List.finRange 16).filter fun g => decide ((s.group g).phase ≠ .closed ∧ (caught g).phase = .closed)
       t.gs.records = s.gs.records ++
         (List.finRange 16).flatMap (fun g => (s.catchUp g now false).gs.records.drop s.gs.records.length) ++
         abandoned.map (fun g =>
           let x := caught g
           { Group.record { x with phase := .abandoned, cause := none, revealed := x.number } g .abandon now now with
             phaseBefore := some x.phase
             accepted := some x.accepted
             lastSeq := x.lastSeq
             cause := some .restart }) ∧
       t.clu.replies = s.clu.replies ++ [replyFrame q (replyPayload .ok
         ([fx 1 ((List.finRange 8).filter fun p => decide ((s.port p).state ≠ .closed)).length,
           fx 1 ((List.finRange 8).map fun p =>
             ((s.port p).requests.filter fun e => decide (e.status = .waiting)).length).sum,
           fx 1 abandoned.length, fx 1 closed.length] ++ enableFields t.clu.enables))])

/-- R174: a notice raised while its class is off changes nothing; with its class on (TICK is raised by its mode alone,
R176) it joins the notice list as a frame of its class's kind with tag 0, the notices-lost count and its values, and
with 16 frames in the list it is dropped and the count rises. What a notice of each of the eight classes carries is
stated with an event that raises it. -/
def Obligations.ANoticeIsFormedOrDropped : Prop :=
  ∀ (s : State) (class_ : NoticeClass) (values : List Fld),
    let e := s.clu.enables
    let admitted : Bool := match class_ with
      | .clock => e.clock | .ref => e.ref | .twin => e.twin | .group => e.group | .journal => e.journal
      | .port => e.port | .startup => e.startup | .tick => true
    let kind : Byte := match class_ with
      | .clock => 0x60#8 | .ref => 0x61#8 | .twin => 0x62#8 | .group => 0x63#8 | .journal => 0x64#8
      | .port => 0x65#8 | .tick => 0x66#8 | .startup => 0x67#8
    (admitted = false → s.notice class_ values = s) ∧
    (admitted = true → s.clu.notices.length < 16 → s.notice class_ values = s.setClu
      { s.clu with notices := s.clu.notices ++ [⟨kind, 0#16, leBytes 4 s.clu.noticesLost ++ layout values⟩] }) ∧
    (admitted = true → 16 ≤ s.clu.notices.length → s.notice class_ values = s.setClu
      { s.clu with noticesLost := min 4294967295 (s.clu.noticesLost + 1) })

/-! ## Invariants -/

/-- R141, R144 and Table 8-3: over every step the pool holds records of consecutive journal numbers up to the newest
issued, its used bytes are the sum of their lengths and never more than 32,768; and marker texts keep within 32 bytes,
and so records within the 104 bytes of the longest kind (R156, Table 8-1). -/
def Obligations.TheJournalPoolKeepsItsForm : Prop :=
  (∀ s t : State, s.aj.Wf → step s = .next t → t.aj.Wf) ∧
    ∀ s t : State, s.RecordsFit → step s = .next t → t.RecordsFit

/-- Tables 2-4 and 5-1 with R28 to R32, R84, R85 and R89: over every step the monitors and the ports keep the score and
run ranges of their states, and their queues their bounds and order. -/
def Obligations.MonitorsAndPortsKeepTheirRanges : Prop :=
  ∀ s t : State, (∀ r, (s.mon r).Wf) → (∀ p, (s.port p).Wf) → step s = .next t →
    (∀ r, (t.mon r).Wf) ∧ ∀ p, (t.port p).Wf

/-- Over every step DU disciplines by a usable reference only, has an anchor in every mode but UNSET, keeps I and R in
range and R equal to the rate TB holds (R39 to R48, R51); TLU and DU hold the same assisted anchor, only while attached
(R52, R76); groups keep the fields of their phase and their draws within the window and sealed until the auction ends
(R115, R117, R118, R126); and the control lists keep their bounds (R163, R166). -/
def Obligations.DisciplineTwinGroupsAndControlKeepTheirForm : Prop :=
  ∀ s t : State, (∀ r, (s.mon r).Wf) → s.DisciplineWf → s.TwinWf → (∀ g, (s.group g).Wf) → s.clu.Wf →
    step s = .next t → t.DisciplineWf ∧ t.TwinWf ∧ (∀ g, (t.group g).Wf) ∧ t.clu.Wf

end
end

