-- ==== Sys2Proof/Laws/State.lean ====
section
/-! SUPPORT. One lemma for each field that an update of the state leaves as it is, and the reads of what an update
writes; every one holds by unfolding. -/

namespace Sys2Proof.Machine

@[simp] theorem State.setMon_power (s : State) (r : Ref) (x : Monitor) : (s.setMon r x).power = s.power := rfl
@[simp] theorem State.setMon_cause (s : State) (r : Ref) (x : Monitor) : (s.setMon r x).cause = s.cause := rfl
@[simp] theorem State.setMon_epoch (s : State) (r : Ref) (x : Monitor) : (s.setMon r x).epoch = s.epoch := rfl
@[simp] theorem State.setMon_serial (s : State) (r : Ref) (x : Monitor) : (s.setMon r x).serial = s.serial := rfl
@[simp] theorem State.setMon_tick (s : State) (r : Ref) (x : Monitor) : (s.setMon r x).tick = s.tick := rfl
@[simp] theorem State.setMon_tb (s : State) (r : Ref) (x : Monitor) : (s.setMon r x).tb = s.tb := rfl
@[simp] theorem State.setMon_du (s : State) (r : Ref) (x : Monitor) : (s.setMon r x).du = s.du := rfl
@[simp] theorem State.setMon_tlu (s : State) (r : Ref) (x : Monitor) : (s.setMon r x).tlu = s.tlu := rfl
@[simp] theorem State.setMon_ports (s : State) (r : Ref) (x : Monitor) : (s.setMon r x).ports = s.ports := rfl
@[simp] theorem State.setMon_sa (s : State) (r : Ref) (x : Monitor) : (s.setMon r x).sa = s.sa := rfl
@[simp] theorem State.setMon_gs (s : State) (r : Ref) (x : Monitor) : (s.setMon r x).gs = s.gs := rfl
@[simp] theorem State.setMon_aj (s : State) (r : Ref) (x : Monitor) : (s.setMon r x).aj = s.aj := rfl
@[simp] theorem State.setMon_clu (s : State) (r : Ref) (x : Monitor) : (s.setMon r x).clu = s.clu := rfl
@[simp] theorem State.setMon_ss (s : State) (r : Ref) (x : Monitor) : (s.setMon r x).ss = s.ss := rfl
@[simp] theorem State.setMon_pending (s : State) (r : Ref) (x : Monitor) : (s.setMon r x).pending = s.pending := rfl
@[simp] theorem State.setPort_power (s : State) (p : PortIx) (x : Port) : (s.setPort p x).power = s.power := rfl
@[simp] theorem State.setPort_cause (s : State) (p : PortIx) (x : Port) : (s.setPort p x).cause = s.cause := rfl
@[simp] theorem State.setPort_epoch (s : State) (p : PortIx) (x : Port) : (s.setPort p x).epoch = s.epoch := rfl
@[simp] theorem State.setPort_serial (s : State) (p : PortIx) (x : Port) : (s.setPort p x).serial = s.serial := rfl
@[simp] theorem State.setPort_tick (s : State) (p : PortIx) (x : Port) : (s.setPort p x).tick = s.tick := rfl
@[simp] theorem State.setPort_tb (s : State) (p : PortIx) (x : Port) : (s.setPort p x).tb = s.tb := rfl
@[simp] theorem State.setPort_monA (s : State) (p : PortIx) (x : Port) : (s.setPort p x).monA = s.monA := rfl
@[simp] theorem State.setPort_monB (s : State) (p : PortIx) (x : Port) : (s.setPort p x).monB = s.monB := rfl
@[simp] theorem State.setPort_du (s : State) (p : PortIx) (x : Port) : (s.setPort p x).du = s.du := rfl
@[simp] theorem State.setPort_tlu (s : State) (p : PortIx) (x : Port) : (s.setPort p x).tlu = s.tlu := rfl
@[simp] theorem State.setPort_sa (s : State) (p : PortIx) (x : Port) : (s.setPort p x).sa = s.sa := rfl
@[simp] theorem State.setPort_gs (s : State) (p : PortIx) (x : Port) : (s.setPort p x).gs = s.gs := rfl
@[simp] theorem State.setPort_aj (s : State) (p : PortIx) (x : Port) : (s.setPort p x).aj = s.aj := rfl
@[simp] theorem State.setPort_clu (s : State) (p : PortIx) (x : Port) : (s.setPort p x).clu = s.clu := rfl
@[simp] theorem State.setPort_ss (s : State) (p : PortIx) (x : Port) : (s.setPort p x).ss = s.ss := rfl
@[simp] theorem State.setPort_pending (s : State) (p : PortIx) (x : Port) : (s.setPort p x).pending = s.pending := rfl
@[simp] theorem State.setGroup_power (s : State) (g : GroupIx) (x : Group) : (s.setGroup g x).power = s.power := rfl
@[simp] theorem State.setGroup_cause (s : State) (g : GroupIx) (x : Group) : (s.setGroup g x).cause = s.cause := rfl
@[simp] theorem State.setGroup_epoch (s : State) (g : GroupIx) (x : Group) : (s.setGroup g x).epoch = s.epoch := rfl
@[simp] theorem State.setGroup_serial (s : State) (g : GroupIx) (x : Group) : (s.setGroup g x).serial = s.serial := rfl
@[simp] theorem State.setGroup_tick (s : State) (g : GroupIx) (x : Group) : (s.setGroup g x).tick = s.tick := rfl
@[simp] theorem State.setGroup_tb (s : State) (g : GroupIx) (x : Group) : (s.setGroup g x).tb = s.tb := rfl
@[simp] theorem State.setGroup_monA (s : State) (g : GroupIx) (x : Group) : (s.setGroup g x).monA = s.monA := rfl
@[simp] theorem State.setGroup_monB (s : State) (g : GroupIx) (x : Group) : (s.setGroup g x).monB = s.monB := rfl
@[simp] theorem State.setGroup_du (s : State) (g : GroupIx) (x : Group) : (s.setGroup g x).du = s.du := rfl
@[simp] theorem State.setGroup_tlu (s : State) (g : GroupIx) (x : Group) : (s.setGroup g x).tlu = s.tlu := rfl
@[simp] theorem State.setGroup_ports (s : State) (g : GroupIx) (x : Group) : (s.setGroup g x).ports = s.ports := rfl
@[simp] theorem State.setGroup_sa (s : State) (g : GroupIx) (x : Group) : (s.setGroup g x).sa = s.sa := rfl
@[simp] theorem State.setGroup_aj (s : State) (g : GroupIx) (x : Group) : (s.setGroup g x).aj = s.aj := rfl
@[simp] theorem State.setGroup_clu (s : State) (g : GroupIx) (x : Group) : (s.setGroup g x).clu = s.clu := rfl
@[simp] theorem State.setGroup_ss (s : State) (g : GroupIx) (x : Group) : (s.setGroup g x).ss = s.ss := rfl
@[simp] theorem State.setGroup_pending (s : State) (g : GroupIx) (x : Group) : (s.setGroup g x).pending = s.pending := rfl
@[simp] theorem State.setTlu_power (s : State) (x : TwinLink) : (s.setTlu x).power = s.power := rfl
@[simp] theorem State.setTlu_cause (s : State) (x : TwinLink) : (s.setTlu x).cause = s.cause := rfl
@[simp] theorem State.setTlu_epoch (s : State) (x : TwinLink) : (s.setTlu x).epoch = s.epoch := rfl
@[simp] theorem State.setTlu_serial (s : State) (x : TwinLink) : (s.setTlu x).serial = s.serial := rfl
@[simp] theorem State.setTlu_tick (s : State) (x : TwinLink) : (s.setTlu x).tick = s.tick := rfl
@[simp] theorem State.setTlu_tb (s : State) (x : TwinLink) : (s.setTlu x).tb = s.tb := rfl
@[simp] theorem State.setTlu_monA (s : State) (x : TwinLink) : (s.setTlu x).monA = s.monA := rfl
@[simp] theorem State.setTlu_monB (s : State) (x : TwinLink) : (s.setTlu x).monB = s.monB := rfl
@[simp] theorem State.setTlu_du (s : State) (x : TwinLink) : (s.setTlu x).du = s.du := rfl
@[simp] theorem State.setTlu_ports (s : State) (x : TwinLink) : (s.setTlu x).ports = s.ports := rfl
@[simp] theorem State.setTlu_sa (s : State) (x : TwinLink) : (s.setTlu x).sa = s.sa := rfl
@[simp] theorem State.setTlu_gs (s : State) (x : TwinLink) : (s.setTlu x).gs = s.gs := rfl
@[simp] theorem State.setTlu_aj (s : State) (x : TwinLink) : (s.setTlu x).aj = s.aj := rfl
@[simp] theorem State.setTlu_clu (s : State) (x : TwinLink) : (s.setTlu x).clu = s.clu := rfl
@[simp] theorem State.setTlu_ss (s : State) (x : TwinLink) : (s.setTlu x).ss = s.ss := rfl
@[simp] theorem State.setTlu_pending (s : State) (x : TwinLink) : (s.setTlu x).pending = s.pending := rfl
@[simp] theorem State.setDu_power (s : State) (x : Discipline) : (s.setDu x).power = s.power := rfl
@[simp] theorem State.setDu_cause (s : State) (x : Discipline) : (s.setDu x).cause = s.cause := rfl
@[simp] theorem State.setDu_epoch (s : State) (x : Discipline) : (s.setDu x).epoch = s.epoch := rfl
@[simp] theorem State.setDu_serial (s : State) (x : Discipline) : (s.setDu x).serial = s.serial := rfl
@[simp] theorem State.setDu_tick (s : State) (x : Discipline) : (s.setDu x).tick = s.tick := rfl
@[simp] theorem State.setDu_tb (s : State) (x : Discipline) : (s.setDu x).tb = s.tb := rfl
@[simp] theorem State.setDu_monA (s : State) (x : Discipline) : (s.setDu x).monA = s.monA := rfl
@[simp] theorem State.setDu_monB (s : State) (x : Discipline) : (s.setDu x).monB = s.monB := rfl
@[simp] theorem State.setDu_tlu (s : State) (x : Discipline) : (s.setDu x).tlu = s.tlu := rfl
@[simp] theorem State.setDu_ports (s : State) (x : Discipline) : (s.setDu x).ports = s.ports := rfl
@[simp] theorem State.setDu_sa (s : State) (x : Discipline) : (s.setDu x).sa = s.sa := rfl
@[simp] theorem State.setDu_gs (s : State) (x : Discipline) : (s.setDu x).gs = s.gs := rfl
@[simp] theorem State.setDu_aj (s : State) (x : Discipline) : (s.setDu x).aj = s.aj := rfl
@[simp] theorem State.setDu_clu (s : State) (x : Discipline) : (s.setDu x).clu = s.clu := rfl
@[simp] theorem State.setDu_ss (s : State) (x : Discipline) : (s.setDu x).ss = s.ss := rfl
@[simp] theorem State.setDu_pending (s : State) (x : Discipline) : (s.setDu x).pending = s.pending := rfl
@[simp] theorem State.setSa_power (s : State) (x : Allocator) : (s.setSa x).power = s.power := rfl
@[simp] theorem State.setSa_cause (s : State) (x : Allocator) : (s.setSa x).cause = s.cause := rfl
@[simp] theorem State.setSa_epoch (s : State) (x : Allocator) : (s.setSa x).epoch = s.epoch := rfl
@[simp] theorem State.setSa_serial (s : State) (x : Allocator) : (s.setSa x).serial = s.serial := rfl
@[simp] theorem State.setSa_tick (s : State) (x : Allocator) : (s.setSa x).tick = s.tick := rfl
@[simp] theorem State.setSa_tb (s : State) (x : Allocator) : (s.setSa x).tb = s.tb := rfl
@[simp] theorem State.setSa_monA (s : State) (x : Allocator) : (s.setSa x).monA = s.monA := rfl
@[simp] theorem State.setSa_monB (s : State) (x : Allocator) : (s.setSa x).monB = s.monB := rfl
@[simp] theorem State.setSa_du (s : State) (x : Allocator) : (s.setSa x).du = s.du := rfl
@[simp] theorem State.setSa_tlu (s : State) (x : Allocator) : (s.setSa x).tlu = s.tlu := rfl
@[simp] theorem State.setSa_ports (s : State) (x : Allocator) : (s.setSa x).ports = s.ports := rfl
@[simp] theorem State.setSa_gs (s : State) (x : Allocator) : (s.setSa x).gs = s.gs := rfl
@[simp] theorem State.setSa_aj (s : State) (x : Allocator) : (s.setSa x).aj = s.aj := rfl
@[simp] theorem State.setSa_clu (s : State) (x : Allocator) : (s.setSa x).clu = s.clu := rfl
@[simp] theorem State.setSa_ss (s : State) (x : Allocator) : (s.setSa x).ss = s.ss := rfl
@[simp] theorem State.setSa_pending (s : State) (x : Allocator) : (s.setSa x).pending = s.pending := rfl
@[simp] theorem State.setClu_power (s : State) (x : Control) : (s.setClu x).power = s.power := rfl
@[simp] theorem State.setClu_cause (s : State) (x : Control) : (s.setClu x).cause = s.cause := rfl
@[simp] theorem State.setClu_epoch (s : State) (x : Control) : (s.setClu x).epoch = s.epoch := rfl
@[simp] theorem State.setClu_serial (s : State) (x : Control) : (s.setClu x).serial = s.serial := rfl
@[simp] theorem State.setClu_tick (s : State) (x : Control) : (s.setClu x).tick = s.tick := rfl
@[simp] theorem State.setClu_tb (s : State) (x : Control) : (s.setClu x).tb = s.tb := rfl
@[simp] theorem State.setClu_monA (s : State) (x : Control) : (s.setClu x).monA = s.monA := rfl
@[simp] theorem State.setClu_monB (s : State) (x : Control) : (s.setClu x).monB = s.monB := rfl
@[simp] theorem State.setClu_du (s : State) (x : Control) : (s.setClu x).du = s.du := rfl
@[simp] theorem State.setClu_tlu (s : State) (x : Control) : (s.setClu x).tlu = s.tlu := rfl
@[simp] theorem State.setClu_ports (s : State) (x : Control) : (s.setClu x).ports = s.ports := rfl
@[simp] theorem State.setClu_sa (s : State) (x : Control) : (s.setClu x).sa = s.sa := rfl
@[simp] theorem State.setClu_gs (s : State) (x : Control) : (s.setClu x).gs = s.gs := rfl
@[simp] theorem State.setClu_aj (s : State) (x : Control) : (s.setClu x).aj = s.aj := rfl
@[simp] theorem State.setClu_ss (s : State) (x : Control) : (s.setClu x).ss = s.ss := rfl
@[simp] theorem State.setClu_pending (s : State) (x : Control) : (s.setClu x).pending = s.pending := rfl
@[simp] theorem State.notice_power (s : State) (c : NoticeClass) (f : List Fld) : (s.notice c f).power = s.power := rfl
@[simp] theorem State.notice_cause (s : State) (c : NoticeClass) (f : List Fld) : (s.notice c f).cause = s.cause := rfl
@[simp] theorem State.notice_epoch (s : State) (c : NoticeClass) (f : List Fld) : (s.notice c f).epoch = s.epoch := rfl
@[simp] theorem State.notice_serial (s : State) (c : NoticeClass) (f : List Fld) : (s.notice c f).serial = s.serial := rfl
@[simp] theorem State.notice_tick (s : State) (c : NoticeClass) (f : List Fld) : (s.notice c f).tick = s.tick := rfl
@[simp] theorem State.notice_tb (s : State) (c : NoticeClass) (f : List Fld) : (s.notice c f).tb = s.tb := rfl
@[simp] theorem State.notice_monA (s : State) (c : NoticeClass) (f : List Fld) : (s.notice c f).monA = s.monA := rfl
@[simp] theorem State.notice_monB (s : State) (c : NoticeClass) (f : List Fld) : (s.notice c f).monB = s.monB := rfl
@[simp] theorem State.notice_du (s : State) (c : NoticeClass) (f : List Fld) : (s.notice c f).du = s.du := rfl
@[simp] theorem State.notice_tlu (s : State) (c : NoticeClass) (f : List Fld) : (s.notice c f).tlu = s.tlu := rfl
@[simp] theorem State.notice_ports (s : State) (c : NoticeClass) (f : List Fld) : (s.notice c f).ports = s.ports := rfl
@[simp] theorem State.notice_sa (s : State) (c : NoticeClass) (f : List Fld) : (s.notice c f).sa = s.sa := rfl
@[simp] theorem State.notice_gs (s : State) (c : NoticeClass) (f : List Fld) : (s.notice c f).gs = s.gs := rfl
@[simp] theorem State.notice_aj (s : State) (c : NoticeClass) (f : List Fld) : (s.notice c f).aj = s.aj := rfl
@[simp] theorem State.notice_ss (s : State) (c : NoticeClass) (f : List Fld) : (s.notice c f).ss = s.ss := rfl
@[simp] theorem State.notice_pending (s : State) (c : NoticeClass) (f : List Fld) : (s.notice c f).pending = s.pending := rfl
@[simp] theorem State.formTwin_power (s : State) (f : TwinFrame) : (s.formTwin f).power = s.power := rfl
@[simp] theorem State.formTwin_cause (s : State) (f : TwinFrame) : (s.formTwin f).cause = s.cause := rfl
@[simp] theorem State.formTwin_epoch (s : State) (f : TwinFrame) : (s.formTwin f).epoch = s.epoch := rfl
@[simp] theorem State.formTwin_serial (s : State) (f : TwinFrame) : (s.formTwin f).serial = s.serial := rfl
@[simp] theorem State.formTwin_tick (s : State) (f : TwinFrame) : (s.formTwin f).tick = s.tick := rfl
@[simp] theorem State.formTwin_tb (s : State) (f : TwinFrame) : (s.formTwin f).tb = s.tb := rfl
@[simp] theorem State.formTwin_monA (s : State) (f : TwinFrame) : (s.formTwin f).monA = s.monA := rfl
@[simp] theorem State.formTwin_monB (s : State) (f : TwinFrame) : (s.formTwin f).monB = s.monB := rfl
@[simp] theorem State.formTwin_du (s : State) (f : TwinFrame) : (s.formTwin f).du = s.du := rfl
@[simp] theorem State.formTwin_ports (s : State) (f : TwinFrame) : (s.formTwin f).ports = s.ports := rfl
@[simp] theorem State.formTwin_sa (s : State) (f : TwinFrame) : (s.formTwin f).sa = s.sa := rfl
@[simp] theorem State.formTwin_gs (s : State) (f : TwinFrame) : (s.formTwin f).gs = s.gs := rfl
@[simp] theorem State.formTwin_aj (s : State) (f : TwinFrame) : (s.formTwin f).aj = s.aj := rfl
@[simp] theorem State.formTwin_clu (s : State) (f : TwinFrame) : (s.formTwin f).clu = s.clu := rfl
@[simp] theorem State.formTwin_ss (s : State) (f : TwinFrame) : (s.formTwin f).ss = s.ss := rfl
@[simp] theorem State.formTwin_pending (s : State) (f : TwinFrame) : (s.formTwin f).pending = s.pending := rfl
@[simp] theorem State.twinIgnored_power (s : State) : (s.twinIgnored).power = s.power := rfl
@[simp] theorem State.twinIgnored_cause (s : State) : (s.twinIgnored).cause = s.cause := rfl
@[simp] theorem State.twinIgnored_epoch (s : State) : (s.twinIgnored).epoch = s.epoch := rfl
@[simp] theorem State.twinIgnored_serial (s : State) : (s.twinIgnored).serial = s.serial := rfl
@[simp] theorem State.twinIgnored_tick (s : State) : (s.twinIgnored).tick = s.tick := rfl
@[simp] theorem State.twinIgnored_tb (s : State) : (s.twinIgnored).tb = s.tb := rfl
@[simp] theorem State.twinIgnored_monA (s : State) : (s.twinIgnored).monA = s.monA := rfl
@[simp] theorem State.twinIgnored_monB (s : State) : (s.twinIgnored).monB = s.monB := rfl
@[simp] theorem State.twinIgnored_du (s : State) : (s.twinIgnored).du = s.du := rfl
@[simp] theorem State.twinIgnored_ports (s : State) : (s.twinIgnored).ports = s.ports := rfl
@[simp] theorem State.twinIgnored_sa (s : State) : (s.twinIgnored).sa = s.sa := rfl
@[simp] theorem State.twinIgnored_gs (s : State) : (s.twinIgnored).gs = s.gs := rfl
@[simp] theorem State.twinIgnored_aj (s : State) : (s.twinIgnored).aj = s.aj := rfl
@[simp] theorem State.twinIgnored_clu (s : State) : (s.twinIgnored).clu = s.clu := rfl
@[simp] theorem State.twinIgnored_ss (s : State) : (s.twinIgnored).ss = s.ss := rfl
@[simp] theorem State.twinIgnored_pending (s : State) : (s.twinIgnored).pending = s.pending := rfl
@[simp] theorem State.presentRate_power (s : State) (r : Int) : (s.presentRate r).power = s.power := rfl
@[simp] theorem State.presentRate_cause (s : State) (r : Int) : (s.presentRate r).cause = s.cause := rfl
@[simp] theorem State.presentRate_epoch (s : State) (r : Int) : (s.presentRate r).epoch = s.epoch := rfl
@[simp] theorem State.presentRate_serial (s : State) (r : Int) : (s.presentRate r).serial = s.serial := rfl
@[simp] theorem State.presentRate_tick (s : State) (r : Int) : (s.presentRate r).tick = s.tick := rfl
@[simp] theorem State.presentRate_monA (s : State) (r : Int) : (s.presentRate r).monA = s.monA := rfl
@[simp] theorem State.presentRate_monB (s : State) (r : Int) : (s.presentRate r).monB = s.monB := rfl
@[simp] theorem State.presentRate_du (s : State) (r : Int) : (s.presentRate r).du = s.du := rfl
@[simp] theorem State.presentRate_tlu (s : State) (r : Int) : (s.presentRate r).tlu = s.tlu := rfl
@[simp] theorem State.presentRate_ports (s : State) (r : Int) : (s.presentRate r).ports = s.ports := rfl
@[simp] theorem State.presentRate_sa (s : State) (r : Int) : (s.presentRate r).sa = s.sa := rfl
@[simp] theorem State.presentRate_gs (s : State) (r : Int) : (s.presentRate r).gs = s.gs := rfl
@[simp] theorem State.presentRate_aj (s : State) (r : Int) : (s.presentRate r).aj = s.aj := rfl
@[simp] theorem State.presentRate_clu (s : State) (r : Int) : (s.presentRate r).clu = s.clu := rfl
@[simp] theorem State.presentRate_ss (s : State) (r : Int) : (s.presentRate r).ss = s.ss := rfl
@[simp] theorem State.presentRate_pending (s : State) (r : Int) : (s.presentRate r).pending = s.pending := rfl
@[simp] theorem State.demand_power (s : State) : (s.demand).power = s.power := rfl
@[simp] theorem State.demand_cause (s : State) : (s.demand).cause = s.cause := rfl
@[simp] theorem State.demand_epoch (s : State) : (s.demand).epoch = s.epoch := rfl
@[simp] theorem State.demand_serial (s : State) : (s.demand).serial = s.serial := rfl
@[simp] theorem State.demand_tick (s : State) : (s.demand).tick = s.tick := rfl
@[simp] theorem State.demand_tb (s : State) : (s.demand).tb = s.tb := rfl
@[simp] theorem State.demand_monA (s : State) : (s.demand).monA = s.monA := rfl
@[simp] theorem State.demand_monB (s : State) : (s.demand).monB = s.monB := rfl
@[simp] theorem State.demand_du (s : State) : (s.demand).du = s.du := rfl
@[simp] theorem State.demand_tlu (s : State) : (s.demand).tlu = s.tlu := rfl
@[simp] theorem State.demand_ports (s : State) : (s.demand).ports = s.ports := rfl
@[simp] theorem State.demand_sa (s : State) : (s.demand).sa = s.sa := rfl
@[simp] theorem State.demand_aj (s : State) : (s.demand).aj = s.aj := rfl
@[simp] theorem State.demand_clu (s : State) : (s.demand).clu = s.clu := rfl
@[simp] theorem State.demand_ss (s : State) : (s.demand).ss = s.ss := rfl
@[simp] theorem State.demand_pending (s : State) : (s.demand).pending = s.pending := rfl
@[simp] theorem State.formAuction_power (s : State) (r : AuctionRecord) : (s.formAuction r).power = s.power := rfl
@[simp] theorem State.formAuction_cause (s : State) (r : AuctionRecord) : (s.formAuction r).cause = s.cause := rfl
@[simp] theorem State.formAuction_epoch (s : State) (r : AuctionRecord) : (s.formAuction r).epoch = s.epoch := rfl
@[simp] theorem State.formAuction_serial (s : State) (r : AuctionRecord) : (s.formAuction r).serial = s.serial := rfl
@[simp] theorem State.formAuction_tick (s : State) (r : AuctionRecord) : (s.formAuction r).tick = s.tick := rfl
@[simp] theorem State.formAuction_tb (s : State) (r : AuctionRecord) : (s.formAuction r).tb = s.tb := rfl
@[simp] theorem State.formAuction_monA (s : State) (r : AuctionRecord) : (s.formAuction r).monA = s.monA := rfl
@[simp] theorem State.formAuction_monB (s : State) (r : AuctionRecord) : (s.formAuction r).monB = s.monB := rfl
@[simp] theorem State.formAuction_du (s : State) (r : AuctionRecord) : (s.formAuction r).du = s.du := rfl
@[simp] theorem State.formAuction_tlu (s : State) (r : AuctionRecord) : (s.formAuction r).tlu = s.tlu := rfl
@[simp] theorem State.formAuction_ports (s : State) (r : AuctionRecord) : (s.formAuction r).ports = s.ports := rfl
@[simp] theorem State.formAuction_sa (s : State) (r : AuctionRecord) : (s.formAuction r).sa = s.sa := rfl
@[simp] theorem State.formAuction_aj (s : State) (r : AuctionRecord) : (s.formAuction r).aj = s.aj := rfl
@[simp] theorem State.formAuction_clu (s : State) (r : AuctionRecord) : (s.formAuction r).clu = s.clu := rfl
@[simp] theorem State.formAuction_ss (s : State) (r : AuctionRecord) : (s.formAuction r).ss = s.ss := rfl
@[simp] theorem State.formAuction_pending (s : State) (r : AuctionRecord) : (s.formAuction r).pending = s.pending := rfl
@[simp] theorem State.beginService_power (s : State) : (s.beginService).power = s.power := rfl
@[simp] theorem State.beginService_cause (s : State) : (s.beginService).cause = s.cause := rfl
@[simp] theorem State.beginService_epoch (s : State) : (s.beginService).epoch = s.epoch := rfl
@[simp] theorem State.beginService_serial (s : State) : (s.beginService).serial = s.serial := rfl
@[simp] theorem State.beginService_tick (s : State) : (s.beginService).tick = s.tick := rfl
@[simp] theorem State.beginService_tb (s : State) : (s.beginService).tb = s.tb := rfl
@[simp] theorem State.beginService_monA (s : State) : (s.beginService).monA = s.monA := rfl
@[simp] theorem State.beginService_monB (s : State) : (s.beginService).monB = s.monB := rfl
@[simp] theorem State.beginService_du (s : State) : (s.beginService).du = s.du := rfl
@[simp] theorem State.beginService_tlu (s : State) : (s.beginService).tlu = s.tlu := rfl
@[simp] theorem State.beginService_ports (s : State) : (s.beginService).ports = s.ports := rfl
@[simp] theorem State.beginService_sa (s : State) : (s.beginService).sa = s.sa := rfl
@[simp] theorem State.beginService_gs (s : State) : (s.beginService).gs = s.gs := rfl
@[simp] theorem State.beginService_aj (s : State) : (s.beginService).aj = s.aj := rfl
@[simp] theorem State.beginService_ss (s : State) : (s.beginService).ss = s.ss := rfl
@[simp] theorem State.beginService_pending (s : State) : (s.beginService).pending = s.pending := rfl
@[simp] theorem State.placeReply_power (s : State) (q : ControlRequest) (b : List Byte) : (s.placeReply q b).power = s.power := rfl
@[simp] theorem State.placeReply_cause (s : State) (q : ControlRequest) (b : List Byte) : (s.placeReply q b).cause = s.cause := rfl
@[simp] theorem State.placeReply_epoch (s : State) (q : ControlRequest) (b : List Byte) : (s.placeReply q b).epoch = s.epoch := rfl
@[simp] theorem State.placeReply_serial (s : State) (q : ControlRequest) (b : List Byte) : (s.placeReply q b).serial = s.serial := rfl
@[simp] theorem State.placeReply_tick (s : State) (q : ControlRequest) (b : List Byte) : (s.placeReply q b).tick = s.tick := rfl
@[simp] theorem State.placeReply_tb (s : State) (q : ControlRequest) (b : List Byte) : (s.placeReply q b).tb = s.tb := rfl
@[simp] theorem State.placeReply_monA (s : State) (q : ControlRequest) (b : List Byte) : (s.placeReply q b).monA = s.monA := rfl
@[simp] theorem State.placeReply_monB (s : State) (q : ControlRequest) (b : List Byte) : (s.placeReply q b).monB = s.monB := rfl
@[simp] theorem State.placeReply_du (s : State) (q : ControlRequest) (b : List Byte) : (s.placeReply q b).du = s.du := rfl
@[simp] theorem State.placeReply_tlu (s : State) (q : ControlRequest) (b : List Byte) : (s.placeReply q b).tlu = s.tlu := rfl
@[simp] theorem State.placeReply_ports (s : State) (q : ControlRequest) (b : List Byte) : (s.placeReply q b).ports = s.ports := rfl
@[simp] theorem State.placeReply_sa (s : State) (q : ControlRequest) (b : List Byte) : (s.placeReply q b).sa = s.sa := rfl
@[simp] theorem State.placeReply_gs (s : State) (q : ControlRequest) (b : List Byte) : (s.placeReply q b).gs = s.gs := rfl
@[simp] theorem State.placeReply_aj (s : State) (q : ControlRequest) (b : List Byte) : (s.placeReply q b).aj = s.aj := rfl
@[simp] theorem State.placeReply_ss (s : State) (q : ControlRequest) (b : List Byte) : (s.placeReply q b).ss = s.ss := rfl
@[simp] theorem State.placeReply_pending (s : State) (q : ControlRequest) (b : List Byte) : (s.placeReply q b).pending = s.pending := rfl
@[simp] theorem State.answer_power (s : State) (q : ControlRequest) (b : List Byte) : (s.answer q b).power = s.power := rfl
@[simp] theorem State.answer_cause (s : State) (q : ControlRequest) (b : List Byte) : (s.answer q b).cause = s.cause := rfl
@[simp] theorem State.answer_epoch (s : State) (q : ControlRequest) (b : List Byte) : (s.answer q b).epoch = s.epoch := rfl
@[simp] theorem State.answer_serial (s : State) (q : ControlRequest) (b : List Byte) : (s.answer q b).serial = s.serial := rfl
@[simp] theorem State.answer_tick (s : State) (q : ControlRequest) (b : List Byte) : (s.answer q b).tick = s.tick := rfl
@[simp] theorem State.answer_tb (s : State) (q : ControlRequest) (b : List Byte) : (s.answer q b).tb = s.tb := rfl
@[simp] theorem State.answer_monA (s : State) (q : ControlRequest) (b : List Byte) : (s.answer q b).monA = s.monA := rfl
@[simp] theorem State.answer_monB (s : State) (q : ControlRequest) (b : List Byte) : (s.answer q b).monB = s.monB := rfl
@[simp] theorem State.answer_du (s : State) (q : ControlRequest) (b : List Byte) : (s.answer q b).du = s.du := rfl
@[simp] theorem State.answer_tlu (s : State) (q : ControlRequest) (b : List Byte) : (s.answer q b).tlu = s.tlu := rfl
@[simp] theorem State.answer_ports (s : State) (q : ControlRequest) (b : List Byte) : (s.answer q b).ports = s.ports := rfl
@[simp] theorem State.answer_sa (s : State) (q : ControlRequest) (b : List Byte) : (s.answer q b).sa = s.sa := rfl
@[simp] theorem State.answer_gs (s : State) (q : ControlRequest) (b : List Byte) : (s.answer q b).gs = s.gs := rfl
@[simp] theorem State.answer_aj (s : State) (q : ControlRequest) (b : List Byte) : (s.answer q b).aj = s.aj := rfl
@[simp] theorem State.answer_ss (s : State) (q : ControlRequest) (b : List Byte) : (s.answer q b).ss = s.ss := rfl
@[simp] theorem State.answer_pending (s : State) (q : ControlRequest) (b : List Byte) : (s.answer q b).pending = s.pending := rfl
@[simp] theorem State.beginGrant_power (s : State) : (s.beginGrant).power = s.power := rfl
@[simp] theorem State.beginGrant_cause (s : State) : (s.beginGrant).cause = s.cause := rfl
@[simp] theorem State.beginGrant_epoch (s : State) : (s.beginGrant).epoch = s.epoch := rfl
@[simp] theorem State.beginGrant_serial (s : State) : (s.beginGrant).serial = s.serial := rfl
@[simp] theorem State.beginGrant_tick (s : State) : (s.beginGrant).tick = s.tick := rfl
@[simp] theorem State.beginGrant_monA (s : State) : (s.beginGrant).monA = s.monA := rfl
@[simp] theorem State.beginGrant_monB (s : State) : (s.beginGrant).monB = s.monB := rfl
@[simp] theorem State.beginGrant_du (s : State) : (s.beginGrant).du = s.du := rfl
@[simp] theorem State.beginGrant_tlu (s : State) : (s.beginGrant).tlu = s.tlu := rfl
@[simp] theorem State.beginGrant_ports (s : State) : (s.beginGrant).ports = s.ports := rfl
@[simp] theorem State.beginGrant_gs (s : State) : (s.beginGrant).gs = s.gs := rfl
@[simp] theorem State.beginGrant_aj (s : State) : (s.beginGrant).aj = s.aj := rfl
@[simp] theorem State.beginGrant_clu (s : State) : (s.beginGrant).clu = s.clu := rfl
@[simp] theorem State.beginGrant_ss (s : State) : (s.beginGrant).ss = s.ss := rfl
@[simp] theorem State.beginGrant_pending (s : State) : (s.beginGrant).pending = s.pending := rfl
@[simp] theorem State.store_power (s : State) (n : Nat) (b : Body) : (s.store n b).power = s.power := rfl
@[simp] theorem State.store_cause (s : State) (n : Nat) (b : Body) : (s.store n b).cause = s.cause := rfl
@[simp] theorem State.store_epoch (s : State) (n : Nat) (b : Body) : (s.store n b).epoch = s.epoch := rfl
@[simp] theorem State.store_serial (s : State) (n : Nat) (b : Body) : (s.store n b).serial = s.serial := rfl
@[simp] theorem State.store_tick (s : State) (n : Nat) (b : Body) : (s.store n b).tick = s.tick := rfl
@[simp] theorem State.store_tb (s : State) (n : Nat) (b : Body) : (s.store n b).tb = s.tb := rfl
@[simp] theorem State.store_monA (s : State) (n : Nat) (b : Body) : (s.store n b).monA = s.monA := rfl
@[simp] theorem State.store_monB (s : State) (n : Nat) (b : Body) : (s.store n b).monB = s.monB := rfl
@[simp] theorem State.store_du (s : State) (n : Nat) (b : Body) : (s.store n b).du = s.du := rfl
@[simp] theorem State.store_tlu (s : State) (n : Nat) (b : Body) : (s.store n b).tlu = s.tlu := rfl
@[simp] theorem State.store_ports (s : State) (n : Nat) (b : Body) : (s.store n b).ports = s.ports := rfl
@[simp] theorem State.store_sa (s : State) (n : Nat) (b : Body) : (s.store n b).sa = s.sa := rfl
@[simp] theorem State.store_gs (s : State) (n : Nat) (b : Body) : (s.store n b).gs = s.gs := rfl
@[simp] theorem State.store_ss (s : State) (n : Nat) (b : Body) : (s.store n b).ss = s.ss := rfl
@[simp] theorem State.store_pending (s : State) (n : Nat) (b : Body) : (s.store n b).pending = s.pending := rfl
@[simp] theorem State.lose_power (s : State) (k : RecordKind) (q : Option Nat) : (s.lose k q).power = s.power := rfl
@[simp] theorem State.lose_cause (s : State) (k : RecordKind) (q : Option Nat) : (s.lose k q).cause = s.cause := rfl
@[simp] theorem State.lose_epoch (s : State) (k : RecordKind) (q : Option Nat) : (s.lose k q).epoch = s.epoch := rfl
@[simp] theorem State.lose_serial (s : State) (k : RecordKind) (q : Option Nat) : (s.lose k q).serial = s.serial := rfl
@[simp] theorem State.lose_tick (s : State) (k : RecordKind) (q : Option Nat) : (s.lose k q).tick = s.tick := rfl
@[simp] theorem State.lose_tb (s : State) (k : RecordKind) (q : Option Nat) : (s.lose k q).tb = s.tb := rfl
@[simp] theorem State.lose_monA (s : State) (k : RecordKind) (q : Option Nat) : (s.lose k q).monA = s.monA := rfl
@[simp] theorem State.lose_monB (s : State) (k : RecordKind) (q : Option Nat) : (s.lose k q).monB = s.monB := rfl
@[simp] theorem State.lose_du (s : State) (k : RecordKind) (q : Option Nat) : (s.lose k q).du = s.du := rfl
@[simp] theorem State.lose_tlu (s : State) (k : RecordKind) (q : Option Nat) : (s.lose k q).tlu = s.tlu := rfl
@[simp] theorem State.lose_ports (s : State) (k : RecordKind) (q : Option Nat) : (s.lose k q).ports = s.ports := rfl
@[simp] theorem State.lose_sa (s : State) (k : RecordKind) (q : Option Nat) : (s.lose k q).sa = s.sa := rfl
@[simp] theorem State.lose_gs (s : State) (k : RecordKind) (q : Option Nat) : (s.lose k q).gs = s.gs := rfl
@[simp] theorem State.lose_ss (s : State) (k : RecordKind) (q : Option Nat) : (s.lose k q).ss = s.ss := rfl
@[simp] theorem State.lose_pending (s : State) (k : RecordKind) (q : Option Nat) : (s.lose k q).pending = s.pending := rfl
@[simp] theorem State.twinNotice_power (s : State) (o : TwinState) (c : TwinCause) (e : Option Evaluation) : (s.twinNotice o c e).power = s.power := rfl
@[simp] theorem State.twinNotice_cause (s : State) (o : TwinState) (c : TwinCause) (e : Option Evaluation) : (s.twinNotice o c e).cause = s.cause := rfl
@[simp] theorem State.twinNotice_epoch (s : State) (o : TwinState) (c : TwinCause) (e : Option Evaluation) : (s.twinNotice o c e).epoch = s.epoch := rfl
@[simp] theorem State.twinNotice_serial (s : State) (o : TwinState) (c : TwinCause) (e : Option Evaluation) : (s.twinNotice o c e).serial = s.serial := rfl
@[simp] theorem State.twinNotice_tick (s : State) (o : TwinState) (c : TwinCause) (e : Option Evaluation) : (s.twinNotice o c e).tick = s.tick := rfl
@[simp] theorem State.twinNotice_tb (s : State) (o : TwinState) (c : TwinCause) (e : Option Evaluation) : (s.twinNotice o c e).tb = s.tb := rfl
@[simp] theorem State.twinNotice_monA (s : State) (o : TwinState) (c : TwinCause) (e : Option Evaluation) : (s.twinNotice o c e).monA = s.monA := rfl
@[simp] theorem State.twinNotice_monB (s : State) (o : TwinState) (c : TwinCause) (e : Option Evaluation) : (s.twinNotice o c e).monB = s.monB := rfl
@[simp] theorem State.twinNotice_du (s : State) (o : TwinState) (c : TwinCause) (e : Option Evaluation) : (s.twinNotice o c e).du = s.du := rfl
@[simp] theorem State.twinNotice_tlu (s : State) (o : TwinState) (c : TwinCause) (e : Option Evaluation) : (s.twinNotice o c e).tlu = s.tlu := rfl
@[simp] theorem State.twinNotice_ports (s : State) (o : TwinState) (c : TwinCause) (e : Option Evaluation) : (s.twinNotice o c e).ports = s.ports := rfl
@[simp] theorem State.twinNotice_sa (s : State) (o : TwinState) (c : TwinCause) (e : Option Evaluation) : (s.twinNotice o c e).sa = s.sa := rfl
@[simp] theorem State.twinNotice_gs (s : State) (o : TwinState) (c : TwinCause) (e : Option Evaluation) : (s.twinNotice o c e).gs = s.gs := rfl
@[simp] theorem State.twinNotice_aj (s : State) (o : TwinState) (c : TwinCause) (e : Option Evaluation) : (s.twinNotice o c e).aj = s.aj := rfl
@[simp] theorem State.twinNotice_ss (s : State) (o : TwinState) (c : TwinCause) (e : Option Evaluation) : (s.twinNotice o c e).ss = s.ss := rfl
@[simp] theorem State.twinNotice_pending (s : State) (o : TwinState) (c : TwinCause) (e : Option Evaluation) : (s.twinNotice o c e).pending = s.pending := rfl
@[simp] theorem State.portChanged_power (s : State) (p : PortIx) (o : PortState) (c : PortCause) : (s.portChanged p o c).power = s.power := rfl
@[simp] theorem State.portChanged_cause (s : State) (p : PortIx) (o : PortState) (c : PortCause) : (s.portChanged p o c).cause = s.cause := rfl
@[simp] theorem State.portChanged_epoch (s : State) (p : PortIx) (o : PortState) (c : PortCause) : (s.portChanged p o c).epoch = s.epoch := rfl
@[simp] theorem State.portChanged_serial (s : State) (p : PortIx) (o : PortState) (c : PortCause) : (s.portChanged p o c).serial = s.serial := rfl
@[simp] theorem State.portChanged_tick (s : State) (p : PortIx) (o : PortState) (c : PortCause) : (s.portChanged p o c).tick = s.tick := rfl
@[simp] theorem State.portChanged_tb (s : State) (p : PortIx) (o : PortState) (c : PortCause) : (s.portChanged p o c).tb = s.tb := rfl
@[simp] theorem State.portChanged_monA (s : State) (p : PortIx) (o : PortState) (c : PortCause) : (s.portChanged p o c).monA = s.monA := rfl
@[simp] theorem State.portChanged_monB (s : State) (p : PortIx) (o : PortState) (c : PortCause) : (s.portChanged p o c).monB = s.monB := rfl
@[simp] theorem State.portChanged_du (s : State) (p : PortIx) (o : PortState) (c : PortCause) : (s.portChanged p o c).du = s.du := rfl
@[simp] theorem State.portChanged_tlu (s : State) (p : PortIx) (o : PortState) (c : PortCause) : (s.portChanged p o c).tlu = s.tlu := rfl
@[simp] theorem State.portChanged_ports (s : State) (p : PortIx) (o : PortState) (c : PortCause) : (s.portChanged p o c).ports = s.ports := rfl
@[simp] theorem State.portChanged_sa (s : State) (p : PortIx) (o : PortState) (c : PortCause) : (s.portChanged p o c).sa = s.sa := rfl
@[simp] theorem State.portChanged_gs (s : State) (p : PortIx) (o : PortState) (c : PortCause) : (s.portChanged p o c).gs = s.gs := rfl
@[simp] theorem State.portChanged_aj (s : State) (p : PortIx) (o : PortState) (c : PortCause) : (s.portChanged p o c).aj = s.aj := rfl
@[simp] theorem State.portChanged_ss (s : State) (p : PortIx) (o : PortState) (c : PortCause) : (s.portChanged p o c).ss = s.ss := rfl
@[simp] theorem State.portChanged_pending (s : State) (p : PortIx) (o : PortState) (c : PortCause) : (s.portChanged p o c).pending = s.pending := rfl
@[simp] theorem State.refChanged_power (s : State) (r : Ref) (o : QualState) (c : RefCause) : (s.refChanged r o c).power = s.power := rfl
@[simp] theorem State.refChanged_cause (s : State) (r : Ref) (o : QualState) (c : RefCause) : (s.refChanged r o c).cause = s.cause := rfl
@[simp] theorem State.refChanged_epoch (s : State) (r : Ref) (o : QualState) (c : RefCause) : (s.refChanged r o c).epoch = s.epoch := rfl
@[simp] theorem State.refChanged_serial (s : State) (r : Ref) (o : QualState) (c : RefCause) : (s.refChanged r o c).serial = s.serial := rfl
@[simp] theorem State.refChanged_tick (s : State) (r : Ref) (o : QualState) (c : RefCause) : (s.refChanged r o c).tick = s.tick := rfl
@[simp] theorem State.refChanged_tb (s : State) (r : Ref) (o : QualState) (c : RefCause) : (s.refChanged r o c).tb = s.tb := rfl
@[simp] theorem State.refChanged_monA (s : State) (r : Ref) (o : QualState) (c : RefCause) : (s.refChanged r o c).monA = s.monA := rfl
@[simp] theorem State.refChanged_monB (s : State) (r : Ref) (o : QualState) (c : RefCause) : (s.refChanged r o c).monB = s.monB := rfl
@[simp] theorem State.refChanged_du (s : State) (r : Ref) (o : QualState) (c : RefCause) : (s.refChanged r o c).du = s.du := rfl
@[simp] theorem State.refChanged_tlu (s : State) (r : Ref) (o : QualState) (c : RefCause) : (s.refChanged r o c).tlu = s.tlu := rfl
@[simp] theorem State.refChanged_ports (s : State) (r : Ref) (o : QualState) (c : RefCause) : (s.refChanged r o c).ports = s.ports := rfl
@[simp] theorem State.refChanged_sa (s : State) (r : Ref) (o : QualState) (c : RefCause) : (s.refChanged r o c).sa = s.sa := rfl
@[simp] theorem State.refChanged_gs (s : State) (r : Ref) (o : QualState) (c : RefCause) : (s.refChanged r o c).gs = s.gs := rfl
@[simp] theorem State.refChanged_aj (s : State) (r : Ref) (o : QualState) (c : RefCause) : (s.refChanged r o c).aj = s.aj := rfl
@[simp] theorem State.refChanged_ss (s : State) (r : Ref) (o : QualState) (c : RefCause) : (s.refChanged r o c).ss = s.ss := rfl
@[simp] theorem State.refChanged_pending (s : State) (r : Ref) (o : QualState) (c : RefCause) : (s.refChanged r o c).pending = s.pending := rfl
@[simp] theorem State.markStale_power (s : State) : (s.markStale).power = s.power := rfl
@[simp] theorem State.markStale_cause (s : State) : (s.markStale).cause = s.cause := rfl
@[simp] theorem State.markStale_epoch (s : State) : (s.markStale).epoch = s.epoch := rfl
@[simp] theorem State.markStale_serial (s : State) : (s.markStale).serial = s.serial := rfl
@[simp] theorem State.markStale_tick (s : State) : (s.markStale).tick = s.tick := rfl
@[simp] theorem State.markStale_tb (s : State) : (s.markStale).tb = s.tb := rfl
@[simp] theorem State.markStale_monA (s : State) : (s.markStale).monA = s.monA := rfl
@[simp] theorem State.markStale_monB (s : State) : (s.markStale).monB = s.monB := rfl
@[simp] theorem State.markStale_tlu (s : State) : (s.markStale).tlu = s.tlu := rfl
@[simp] theorem State.markStale_ports (s : State) : (s.markStale).ports = s.ports := rfl
@[simp] theorem State.markStale_sa (s : State) : (s.markStale).sa = s.sa := rfl
@[simp] theorem State.markStale_gs (s : State) : (s.markStale).gs = s.gs := rfl
@[simp] theorem State.markStale_aj (s : State) : (s.markStale).aj = s.aj := rfl
@[simp] theorem State.markStale_clu (s : State) : (s.markStale).clu = s.clu := rfl
@[simp] theorem State.markStale_ss (s : State) : (s.markStale).ss = s.ss := rfl
@[simp] theorem State.markStale_pending (s : State) : (s.markStale).pending = s.pending := rfl

/-! ## What an update writes -/

@[simp] theorem State.setMon_mon (s : State) (r : Ref) (x : Monitor) : (s.setMon r x).mon r = x := by cases r <;> rfl
@[simp] theorem State.setMon_mon_other (s : State) (r q : Ref) (x : Monitor) (h : q ≠ r) :
    (s.setMon r x).mon q = s.mon q := by
  cases r <;> cases q <;> first | rfl | exact absurd rfl h
@[simp] theorem State.setPort_port (s : State) (p : PortIx) (x : Port) : (s.setPort p x).port p = x := by
  simp [State.setPort, State.port]
@[simp] theorem State.setPort_port_other (s : State) (p q : PortIx) (x : Port) (h : q ≠ p) :
    (s.setPort p x).port q = s.port q := by
  simp only [State.setPort, State.port]
  exact Vector.getElem_set_ne _ _ (fun e => h (Fin.ext e.symm))
@[simp] theorem State.setGroup_group (s : State) (g : GroupIx) (x : Group) : (s.setGroup g x).group g = x := by
  simp [State.setGroup, State.group]
@[simp] theorem State.setGroup_group_other (s : State) (g k : GroupIx) (x : Group) (h : k ≠ g) :
    (s.setGroup g x).group k = s.group k := by
  simp only [State.setGroup, State.group]
  exact Vector.getElem_set_ne _ _ (fun e => h (Fin.ext e.symm))
@[simp] theorem State.setGroup_records (s : State) (g : GroupIx) (x : Group) :
    (s.setGroup g x).gs.records = s.gs.records := rfl
@[simp] theorem State.setGroup_demands (s : State) (g : GroupIx) (x : Group) :
    (s.setGroup g x).gs.demands = s.gs.demands := rfl
@[simp] theorem State.setTlu_tlu (s : State) (x : TwinLink) : (s.setTlu x).tlu = x := rfl
@[simp] theorem State.setDu_du (s : State) (x : Discipline) : (s.setDu x).du = x := rfl
@[simp] theorem State.setSa_sa (s : State) (x : Allocator) : (s.setSa x).sa = x := rfl
@[simp] theorem State.setClu_clu (s : State) (x : Control) : (s.setClu x).clu = x := rfl
@[simp] theorem State.notice_clu (s : State) (c : NoticeClass) (f : List Fld) : (s.notice c f).clu = s.clu.notice c f := rfl
@[simp] theorem State.formTwin_tlu (s : State) (f : TwinFrame) : (s.formTwin f).tlu = s.tlu.form f := rfl
@[simp] theorem State.presentRate_tb (s : State) (r : Int) : (s.presentRate r).tb = s.tb.present r := rfl
@[simp] theorem State.beginGrant_tb (s : State) : s.beginGrant.tb = s.tb.raised := rfl
@[simp] theorem State.beginGrant_seq (s : State) : s.beginGrant.sa.seq = s.sa.seq + 1 := rfl
@[simp] theorem State.beginService_queue (s : State) : s.beginService.clu.queue = serveFront s.clu.queue := rfl
@[simp] theorem State.answer_queue (s : State) (q : ControlRequest) (b : List Byte) :
    (s.answer q b).clu.queue = s.clu.queue.tail := rfl
@[simp] theorem State.answer_replies (s : State) (q : ControlRequest) (b : List Byte) :
    (s.answer q b).clu.replies = s.clu.replies ++ [⟨replyKind q.kind, q.tag, b⟩] := rfl
@[simp] theorem State.dating_tb (s : State) : s.dating = s.tb.dating := rfl
@[simp] theorem State.mon_a (s : State) : s.mon .a = s.monA := rfl
@[simp] theorem State.mon_b (s : State) : s.mon .b = s.monB := rfl

/-! ## Settings Store, twin list and last label -/

@[simp] theorem Store.afterReset_epochCounter (x : Store) : x.afterReset.epochCounter = x.epochCounter := rfl
@[simp] theorem Store.afterReset_status (x : Store) : x.afterReset.status = .defaulted := rfl
@[simp] theorem Store.afterReset_save (x : Store) : x.afterReset.save = none := rfl

@[simp] theorem TwinLink.withholdEchoes_state (x : TwinLink) : x.withholdEchoes.state = x.state := rfl
@[simp] theorem TwinLink.withholdEchoes_probes (x : TwinLink) : x.withholdEchoes.probes = x.probes := rfl
@[simp] theorem TwinLink.withholdEchoes_heldOut (x : TwinLink) : x.withholdEchoes.heldOut = x.heldOut := rfl
@[simp] theorem TwinLink.withholdEchoes_transmit (x : TwinLink) :
    x.withholdEchoes.transmit = x.transmit.filter fun f => !f.isEcho := rfl

@[simp] theorem rebaseLabel_none (n : Nat) : rebaseLabel none n = some n := rfl
@[simp] theorem rebaseLabel_max (n : Nat) : rebaseLabel (some maxLabel) n = some maxLabel := rfl

/-- Short of 2⁴⁸ − 1 the received label becomes the last label (R25). -/
theorem rebaseLabel_of_ne {l : Option Nat} (h : l ≠ some maxLabel) (n : Nat) : rebaseLabel l n = some n := by
  simp [rebaseLabel, h]

end Sys2Proof.Machine
end

