-- ==== Sys2Proof/Laws/Frames.lean ====
section
/-! SUPPORT. For each shared operation, the blocks it may change; everything else it leaves as it is. -/

namespace Sys2Proof.Machine

/-! ## The algebra of frames -/

theorem State.SameBut.refl (s : State) (bs : List Block) : s.SameBut s bs := by
  intro b _; cases b <;> rfl

theorem State.SameBut.trans {s t u : State} {bs : List Block} (h : s.SameBut t bs) (k : t.SameBut u bs) :
    s.SameBut u bs := by
  intro b hb
  have h1 := h b hb
  have h2 := k b hb
  cases b <;> exact Eq.trans h2 h1

theorem State.SameBut.mono {s t : State} {bs cs : List Block} (h : s.SameBut t bs) (k : ∀ b, b ∈ bs → b ∈ cs) :
    s.SameBut t cs := fun b hb => h b fun m => hb (k b m)

theorem State.SameBut.ite {s t u : State} {bs : List Block} {c : Prop} [Decidable c] (h : s.SameBut t bs)
    (k : s.SameBut u bs) : s.SameBut (if c then t else u) bs := by
  split <;> assumption

/-! ## Blocks whose only trace is their own field -/

theorem State.notice_same (s : State) (c : NoticeClass) (f : List Fld) : s.SameBut (s.notice c f) [.clu] := by
  intro b hb; cases b <;> first | rfl | exact absurd hb (by decide)

theorem State.setTlu_same (s : State) (x : TwinLink) : s.SameBut (s.setTlu x) [.tlu] := by
  intro b hb; cases b <;> first | rfl | exact absurd hb (by decide)

theorem State.setDu_same (s : State) (x : Discipline) : s.SameBut (s.setDu x) [.du] := by
  intro b hb; cases b <;> first | rfl | exact absurd hb (by decide)

theorem State.setClu_same (s : State) (x : Control) : s.SameBut (s.setClu x) [.clu] := by
  intro b hb; cases b <;> first | rfl | exact absurd hb (by decide)

theorem State.formTwin_same (s : State) (f : TwinFrame) : s.SameBut (s.formTwin f) [.tlu] := s.setTlu_same _

theorem State.presentRate_same (s : State) (r : Int) : s.SameBut (s.presentRate r) [.tb] := by
  intro b hb; cases b <;> first | rfl | exact absurd hb (by decide)

theorem State.beginService_same (s : State) : s.SameBut s.beginService [.clu] := by
  intro b hb; cases b <;> first | rfl | exact absurd hb (by decide)

theorem State.answer_same (s : State) (q : ControlRequest) (x : List Byte) : s.SameBut (s.answer q x) [.clu] := by
  intro b hb; cases b <;> first | rfl | exact absurd hb (by decide)

theorem State.setMon_same (s : State) (r : Ref) (x : Monitor) : s.SameBut (s.setMon r x) [.mon r] := by
  intro b hb
  cases b with
  | mon q =>
    have h : q ≠ r := by intro e; exact hb (by simp [e])
    exact s.setMon_mon_other r q x h
  | _ => rfl

theorem State.setPort_same (s : State) (p : PortIx) (x : Port) : s.SameBut (s.setPort p x) [.port p] := by
  intro b hb
  cases b with
  | port q =>
    have h : q ≠ p := by intro e; exact hb (by simp [e])
    exact s.setPort_port_other p q x h
  | mon r => cases r <;> rfl
  | _ => rfl

theorem State.setGroup_same (s : State) (g : GroupIx) (x : Group) : s.SameBut (s.setGroup g x) [.group g] := by
  intro b hb
  cases b with
  | group k =>
    have h : k ≠ g := by intro e; exact hb (by simp [e])
    exact s.setGroup_group_other g k x h
  | mon r => cases r <;> rfl
  | _ => rfl

theorem State.formAuction_same (s : State) (r : AuctionRecord) : s.SameBut (s.formAuction r) [.auctions] := by
  intro b hb; cases b <;> first | rfl | exact absurd hb (by decide)

theorem State.demand_same (s : State) : s.SameBut s.demand [.demands] := by
  intro b hb; cases b <;> first | rfl | exact absurd hb (by decide)

/-! ## The journal (R143 to R145, R155) -/

theorem State.store_same (s : State) (n : Nat) (x : Body) : s.SameBut (s.store n x) [.aj, .clu] := by
  intro b hb; cases b <;> first | rfl | exact absurd hb (by decide)

theorem State.lose_same (s : State) (k : RecordKind) (q : Option Nat) : s.SameBut (s.lose k q) [.aj, .clu] := by
  intro b hb; cases b <;> first | rfl | exact absurd hb (by decide)

theorem State.submit_same (s : State) (x : Body) : s.SameBut (s.submit x) [.aj, .clu] := by
  unfold State.submit
  split
  · exact s.store_same _ _
  · intro b hb; cases b <;> first | rfl | exact absurd hb (by decide)
  · exact s.lose_same _ _

theorem State.admin_same (s : State) (e : AdminEvent) : s.SameBut (s.admin e) [.aj, .clu] := s.submit_same _

theorem State.configChange_same (s : State) (k : Byte) (c d : Bool) (x : List Byte) :
    s.SameBut (s.configChange k c d x) [.aj, .clu] := s.admin_same _

theorem State.gap_same (s : State) : s.SameBut s.gap [.aj, .clu] := by
  unfold State.gap
  split
  · exact State.SameBut.refl s _
  · intro b hb; cases b <;> first | rfl | exact absurd hb (by decide)
  · intro b hb; cases b <;> first | rfl | exact absurd hb (by decide)

/-! ## CLOCK records (R55, R58) -/

theorem State.clockRecordAt_same (s : State) (e : ClockEvent) (d : Nat) :
    s.SameBut (s.clockRecordAt e d) [.du, .aj, .clu] := by
  unfold State.clockRecordAt
  refine State.SameBut.trans ?_ ((State.notice_same _ _ _).mono (by decide))
  split
  · exact (s.setDu_same _).mono (by decide)
  · exact (s.lose_same _ _).mono (by decide)

theorem State.clockRecord_same (s : State) (e : ClockEvent) : s.SameBut (s.clockRecord e) [.du, .aj, .clu] :=
  s.clockRecordAt_same e _

theorem State.contest_same (s : State) (t : Int) (l : Nat) : s.SameBut (s.contest t l) [.du, .aj, .clu] := by
  unfold State.contest
  split
  · exact State.SameBut.refl s _
  · exact ((s.setDu_same _).mono (by decide)).trans (State.clockRecord_same _ _)

theorem State.uncontest_same (s : State) (c : ContestCause) (t : Option Int) :
    s.SameBut (s.uncontest c t) [.du, .aj, .clu] := by
  unfold State.uncontest
  split
  · exact ((s.setDu_same _).mono (by decide)).trans (State.clockRecord_same _ _)
  · exact State.SameBut.refl s _

/-! ## The twin link (chapter 4) -/

/-- The blocks an action of TLU may change. -/
def twinBlocks : List Block := [.tlu, .du, .aj, .clu]

theorem State.twinNotice_same (s : State) (o : TwinState) (c : TwinCause) (e : Option Evaluation) :
    s.SameBut (s.twinNotice o c e) [.clu] := s.notice_same _ _

theorem State.twinChanged_same (s : State) (o : TwinState) (c : TwinCause) (e : Option Evaluation) :
    s.SameBut (s.twinChanged o c e) [.clu] :=
  State.SameBut.ite (State.SameBut.refl s _) (s.twinNotice_same o c e)

theorem State.withdrawAnchor_same (s : State) : s.SameBut s.withdrawAnchor [.tlu, .du] := by
  unfold State.withdrawAnchor
  split
  · intro b hb; cases b <;> first | rfl | exact absurd hb (by decide)
  · exact State.SameBut.refl s _

theorem State.offerAnchor_same (s : State) (t : Int) : s.SameBut (s.offerAnchor t) [.tlu, .du] := by
  unfold State.offerAnchor
  split
  · intro b hb; cases b <;> first | rfl | exact absurd hb (by decide)
  · exact s.withdrawAnchor_same

theorem State.formProbe_same (s : State) : s.SameBut s.formProbe [.tlu] := s.setTlu_same _

theorem State.enterMeasuring_same (s : State) (i : TwinIdentity) (c : TwinCause) :
    s.SameBut (s.enterMeasuring i c) [.tlu, .du, .clu] := by
  unfold State.enterMeasuring
  exact (((s.withdrawAnchor_same.mono (by decide)).trans ((State.setTlu_same _ _).mono (by decide))).trans
    ((State.formProbe_same _).mono (by decide))).trans ((State.twinChanged_same _ _ _ _).mono (by decide))

theorem State.enterDetached_same (s : State) (f : TwinFault) :
    s.SameBut (s.enterDetached f) [.tlu, .du, .clu] := by
  unfold State.enterDetached
  exact ((s.withdrawAnchor_same.mono (by decide)).trans ((State.setTlu_same _ _).mono (by decide))).trans
    ((State.twinChanged_same _ _ _ _).mono (by decide))

theorem State.reportAgreement_same (s : State) (t : Int) : s.SameBut (s.reportAgreement t) twinBlocks := by
  unfold State.reportAgreement
  split
  · exact (s.uncontest_same _ _).mono (by decide)
  · exact (s.contest_same _ _).mono (by decide)
  · exact State.SameBut.refl s _

theorem State.afterEvaluation_same (s : State) (o : TwinState) (m : Measured) :
    s.SameBut (s.afterEvaluation o m) twinBlocks := by
  unfold State.afterEvaluation
  exact ((State.SameBut.ite (State.SameBut.refl s _) (s.reportAgreement_same _)).trans
    ((State.formTwin_same _ _).mono (by decide))).trans ((State.offerAnchor_same _ _).mono (by decide))

theorem State.evaluateMeasurement_same (s : State) : s.SameBut s.evaluateMeasurement twinBlocks := by
  unfold State.evaluateMeasurement
  simp only
  split
  · split
    · exact ((((s.setTlu_same _).mono (by decide)).trans (State.afterEvaluation_same _ _ _)).trans
        ((State.setTlu_same _ _).mono (by decide))).trans ((State.twinChanged_same _ _ _ _).mono (by decide))
    · exact (s.enterDetached_same _).mono (by decide)
  · exact (s.enterDetached_same _).mono (by decide)

theorem State.failCheck_same (s : State) : s.SameBut s.failCheck twinBlocks := by
  unfold State.failCheck
  simp only
  exact (((s.setTlu_same _).mono (by decide)).trans ((State.twinNotice_same _ _ _ _).mono (by decide))).trans
    (State.SameBut.ite ((State.formTwin_same _ _).mono (by decide)) ((State.enterDetached_same _ _).mono (by decide)))

theorem State.evaluateCheck_same (s : State) : s.SameBut s.evaluateCheck twinBlocks := by
  unfold State.evaluateCheck
  simp only
  split
  · split
    · exact (((s.setTlu_same _).mono (by decide)).trans (State.afterEvaluation_same _ _ _)).trans
        ((State.twinChanged_same _ _ _ _).mono (by decide))
    · exact s.failCheck_same
  · exact s.failCheck_same

theorem State.afterClose_same (s : State) : s.SameBut s.afterClose twinBlocks := by
  unfold State.afterClose
  split
  · split
    · exact s.evaluateMeasurement_same
    · exact s.evaluateCheck_same
    · exact s.evaluateCheck_same
    · exact State.SameBut.refl s _
    · exact State.SameBut.refl s _
    · exact State.SameBut.refl s _
  · exact State.SameBut.refl s _

theorem State.closeProbe_same (s : State) (o : ProbeOutcome) : s.SameBut (s.closeProbe o) twinBlocks :=
  ((s.setTlu_same _).mono (by decide)).trans (State.afterClose_same _)

theorem State.twinStepped_same (s : State) : s.SameBut s.twinStepped twinBlocks := by
  unfold State.twinStepped
  exact ((s.setTlu_same _).mono (cs := twinBlocks) (by decide)).trans
    (State.SameBut.ite (State.closeProbe_same _ _) (State.SameBut.refl _ _))

/-! ## The Discipline Unit (chapter 3) -/

/-- The blocks an action of DU may change. -/
def disciplineBlocks : List Block := [.tb, .tlu, .du, .aj, .clu]

theorem State.stepTime_same (s : State) (a : Int) : s.SameBut (s.stepTime a) disciplineBlocks := by
  unfold State.stepTime
  refine State.SameBut.trans (t := { s with tb := s.tb.stepBy a }) ?_ ((State.twinStepped_same _).mono (by decide))
  intro b hb; cases b <;> first | rfl | exact absurd hb (by decide)

theorem State.markStale_same (s : State) : s.SameBut s.markStale [.du] := s.setDu_same _

theorem State.writeOffset_same (s : State) (o : Int) (c : OffsetCause) : s.SameBut (s.writeOffset o c) disciplineBlocks := by
  unfold State.writeOffset
  refine State.SameBut.ite (State.SameBut.refl s _) ?_
  refine State.SameBut.trans (t := { s with tb := { s.tb with utcOffset := o } }) ?_
    ((State.clockRecord_same _ _).mono (by decide))
  intro b hb; cases b <;> first | rfl | exact absurd hb (by decide)

theorem State.enterHoldover_same (s : State) : s.SameBut s.enterHoldover disciplineBlocks := by
  unfold State.enterHoldover
  exact (((s.setDu_same _).mono (by decide)).trans ((State.presentRate_same _ _).mono (by decide))).trans
    ((State.clockRecord_same _ _).mono (by decide))

theorem State.loseSelection_same (s : State) : s.SameBut s.loseSelection disciplineBlocks := by
  unfold State.loseSelection
  split
  · exact s.enterHoldover_same
  · exact s.enterHoldover_same
  · exact ((s.clockRecord_same _).mono (by decide)).trans (State.enterHoldover_same _)
  · exact State.SameBut.refl s _

theorem State.adoptSelection_same (s : State) (n : Option Ref) : s.SameBut (s.adoptSelection n) disciplineBlocks := by
  unfold State.adoptSelection
  split
  · refine State.SameBut.trans ?_ ((State.setDu_same _ _).mono (by decide))
    split
    · exact s.writeOffset_same _ _
    · exact State.SameBut.refl s _
  · exact ((s.setDu_same _).mono (by decide)).trans (State.loseSelection_same _)

theorem State.switchTo_same (s : State) (n : Option Ref) (c : SwitchCause) :
    s.SameBut (s.switchTo n c) disciplineBlocks := by
  unfold State.switchTo
  exact (((s.setDu_same _).mono (by decide)).trans ((State.clockRecord_same _ _).mono (by decide))).trans
    (State.adoptSelection_same _ _)

theorem State.evaluateSelection_same (s : State) (c : SwitchCause) :
    s.SameBut (s.evaluateSelection c) disciplineBlocks :=
  State.SameBut.ite (State.SameBut.refl s _) (s.switchTo_same _ _)

theorem State.evaluateReport_same (s : State) (r : Ref) (o n : QualState) (c : RefCause) :
    s.SameBut (s.evaluateReport r o n c) disciplineBlocks :=
  State.SameBut.ite (State.SameBut.ite ((s.clockRecord_same _).mono (by decide)) (State.SameBut.refl s _))
    (s.switchTo_same _ _)

theorem State.servo_same (s : State) (e : Int) : s.SameBut (s.servo e) disciplineBlocks := by
  unfold State.servo
  exact ((s.setDu_same _).mono (by decide)).trans ((State.presentRate_same _ _).mono (by decide))

theorem State.enterLocked_same (s : State) (o : Mode) (m : UsedMark) : s.SameBut (s.enterLocked o m) disciplineBlocks := by
  unfold State.enterLocked
  simp only
  split <;> first
    | exact (s.setDu_same _).mono (by decide)
    | exact ((s.setDu_same _).mono (by decide)).trans ((State.clockRecord_same _ _).mono (by decide))

theorem State.stepBack_same (s : State) (e : Int) (b a : Nat) : s.SameBut (s.stepBack e b a) disciplineBlocks := by
  unfold State.stepBack
  exact ((s.stepTime_same _).trans ((State.clockRecord_same _ _).mono (by decide))).trans
    ((State.markStale_same _).mono (by decide))

theorem State.stepAndLock_same (s : State) (m : UsedMark) (o : State) (h : s.SameBut o disciplineBlocks) :
    s.SameBut (s.stepAndLock m o).state disciplineBlocks := by
  unfold State.stepAndLock
  split
  · exact (s.stepBack_same _ _ _).trans (State.enterLocked_same _ _ _)
  · exact h

theorem State.enterSlewing_same (s : State) (e : Int) : s.SameBut (s.enterSlewing e) disciplineBlocks := by
  unfold State.enterSlewing
  exact (((s.setDu_same _).mono (by decide)).trans ((State.presentRate_same _ _).mono (by decide))).trans
    ((State.clockRecord_same _ _).mono (by decide))

theorem State.backOrSlew_same (s : State) (m : UsedMark) : s.SameBut (s.backOrSlew m).state disciplineBlocks := by
  unfold State.backOrSlew
  split
  · exact s.enterSlewing_same _
  · exact s.stepAndLock_same m _ (s.enterSlewing_same _)

theorem State.endSlewByStep_same (s : State) (e : Int) (b a : Nat) :
    s.SameBut (s.endSlewByStep e b a) disciplineBlocks := by
  unfold State.endSlewByStep
  exact ((((((s.clockRecord_same _).mono (by decide)).trans (State.stepTime_same _ _)).trans
    ((State.clockRecord_same _ _).mono (by decide))).trans ((State.markStale_same _).mono (by decide))).trans
    ((State.setDu_same _ _).mono (by decide))).trans ((State.presentRate_same _ _).mono (by decide))

theorem State.slewOn_same (s : State) (m : UsedMark) : s.SameBut (s.slewOn m).state disciplineBlocks := by
  unfold State.slewOn
  split
  · exact (((s.clockRecord_same _).mono (by decide)).trans (State.servo_same _ _)).trans (State.enterLocked_same _ _ _)
  · split
    · split
      · exact State.SameBut.refl s _
      · split
        · exact s.endSlewByStep_same _ _ _
        · exact State.SameBut.refl s _
    · split
      · exact s.endSlewByStep_same _ _ _
      · exact State.SameBut.refl s _

theorem State.actOnMark_same (s : State) (m : UsedMark) : s.SameBut (s.actOnMark m).state disciplineBlocks := by
  unfold State.actOnMark
  split
  · exact s.stepAndLock_same m s (State.SameBut.refl s _)
  · split
    · exact (s.servo_same _).trans (State.enterLocked_same _ _ _)
    · split
      · exact s.stepAndLock_same m s (State.SameBut.refl s _)
      · exact s.backOrSlew_same m
  · split
    · exact (s.servo_same _).trans (State.enterLocked_same _ _ _)
    · split
      · exact s.stepAndLock_same m s (State.SameBut.refl s _)
      · exact s.backOrSlew_same m
  · exact ((s.setDu_same _).mono (by decide)).trans (State.slewOn_same _ _)

theorem State.followLeap_same (s : State) (m : MarkReport) : s.SameBut (s.followLeap m) disciplineBlocks := by
  unfold State.followLeap
  split
  · exact (s.setDu_same _).mono (by decide)
  · split
    · exact ((s.setDu_same _).mono (by decide)).trans ((State.clockRecord_same _ _).mono (by decide))
    · exact State.SameBut.refl s _

theorem State.followOffset_same (s : State) (m : MarkReport) : s.SameBut (s.followOffset m) disciplineBlocks := by
  unfold State.followOffset
  split
  · exact s.writeOffset_same _ _
  · exact State.SameBut.refl s _

theorem State.takeOwnReport_same (s : State) (m : MarkReport) : s.SameBut (s.takeOwnReport m) disciplineBlocks := by
  unfold State.takeOwnReport
  have h : s.SameBut (((s.followOffset m).followLeap m).countReport m) disciplineBlocks :=
    ((s.followOffset_same m).trans (State.followLeap_same _ m)).trans ((State.setDu_same _ _).mono (by decide))
  simp only
  split
  · exact (h.trans (State.actOnMark_same _ _)).trans ((State.setDu_same _ _).mono (by decide))
  · exact h

theorem State.takeReport_same (s : State) (m : MarkReport) : s.SameBut (s.takeReport m) disciplineBlocks := by
  unfold State.takeReport
  simp only
  refine State.SameBut.trans (t := match m.cause with
    | some c => s.evaluateReport m.ref m.before m.after c
    | none => s) ?_ (State.SameBut.trans (State.SameBut.ite (State.takeOwnReport_same _ m) (State.SameBut.refl _ _))
      ((State.setDu_same _ _).mono (by decide)))
  split
  · exact s.evaluateReport_same _ _ _ _
  · exact State.SameBut.refl s _

/-- A closed mark changes its monitor and what DU may change. -/
theorem State.closeMark_same (s : State) (r : Ref) (c : ClosedMark) :
    s.SameBut (s.closeMark r c) (.mon r :: disciplineBlocks) := by
  unfold State.closeMark
  simp only
  refine State.SameBut.trans (t := s.setMon r ((s.mon r).close c.reason)) ((s.setMon_same r _).mono (by simp)) ?_
  refine State.SameBut.trans (State.SameBut.ite (State.SameBut.refl _ _) ?_)
    ((State.takeReport_same _ _).mono (by intro b hb; exact List.mem_cons_of_mem _ hb))
  exact (State.notice_same _ _ _).mono (by intro b hb; simp [disciplineBlocks] at *; simp [hb])

/-! ## The Group Scheduler (chapter 7) -/

theorem State.auctionStep_same (s : State) (g : GroupIx) (x : Group) (r : AuctionRecord) (n : Bool) :
    s.SameBut (s.auctionStep g x r n) [.group g, .auctions, .clu] := by
  unfold State.auctionStep
  simp only
  have h : s.SameBut ((s.setGroup g x).formAuction r) [.group g, .auctions, .clu] :=
    ((s.setGroup_same g x).mono (by simp)).trans ((State.formAuction_same _ r).mono (by simp))
  exact State.SameBut.ite (h.trans ((State.notice_same _ _ _).mono (by simp))) h

theorem State.takeExpiry_same (s : State) (g : GroupIx) (n : Nat) (y : Bool) :
    s.SameBut (s.takeExpiry g n y) [.group g, .auctions, .clu] := by
  unfold State.takeExpiry
  simp only
  split <;> first | exact s.auctionStep_same _ _ _ _ | exact State.SameBut.refl s _

theorem State.takeReached_same (s : State) (g : GroupIx) (n : Nat) (y : Bool) :
    s.SameBut (s.takeReached g n y) [.group g, .auctions, .clu] := by
  unfold State.takeReached
  split
  · exact s.takeExpiry_same g n y
  · exact State.SameBut.refl s _

theorem State.catchUp_same (s : State) (g : GroupIx) (n : Nat) (y : Bool) :
    s.SameBut (s.catchUp g n y) [.group g, .auctions, .clu] :=
  ((s.takeReached_same g n y).trans (State.takeReached_same _ g n y)).trans (State.takeReached_same _ g n y)

theorem State.suspendGroup_same (s : State) (g : GroupIx) (c : AuctionCause) (t : Option TraceState) (n : Nat) :
    s.SameBut (s.suspendGroup g c t n) [.group g, .auctions, .clu] := s.auctionStep_same _ _ _ _

theorem State.abandonGroup_same (s : State) (g : GroupIx) (c : AuctionCause) (n : Nat) (y : Bool) :
    s.SameBut (s.abandonGroup g c n y) [.group g, .auctions, .clu] := s.auctionStep_same _ _ _ _

theorem State.extendGroup_same (s : State) (g : GroupIx) (k : ExtKind) (st : AuctionStep) (e n : Nat) :
    s.SameBut (s.extendGroup g k st e n) [.group g, .auctions, .clu, .demands] := by
  unfold State.extendGroup
  exact (s.demand_same.mono (by simp)).trans ((State.auctionStep_same _ _ _ _ _).mono (by simp))

theorem State.clearGroup_same (s : State) (g : GroupIx) (n : Nat) (y : Bool) :
    s.SameBut (s.clearGroup g n y) [.group g, .clu] := by
  unfold State.clearGroup
  simp only
  have h : s.SameBut (s.setGroup g (s.group g).clear) [.group g, .clu] := (s.setGroup_same g _).mono (by simp)
  exact State.SameBut.ite (h.trans ((State.notice_same _ _ _).mono (by simp))) h

theorem restartAbandon_same (n : Nat) (s : State) (g : GroupIx) :
    s.SameBut (restartAbandon n s g) [.group g, .auctions, .clu] := by
  unfold restartAbandon
  split <;> first | exact s.abandonGroup_same _ _ _ _ | exact State.SameBut.refl s _

theorem restartClear_same (n : Nat) (s : State) (g : GroupIx) : s.SameBut (restartClear n s g) [.group g, .clu] := by
  unfold restartClear
  split <;> first | exact s.clearGroup_same _ _ _ | exact State.SameBut.refl s _

/-- What each group's step leaves alone the whole round leaves alone. -/
theorem State.foldl_same {bs : List Block} {step : State → GroupIx → State} (h : ∀ (x : State) (g : GroupIx), x.SameBut (step x g) bs)
    (gs : List GroupIx) (s : State) : s.SameBut (gs.foldl step s) bs := by
  induction gs generalizing s with
  | nil => exact State.SameBut.refl s bs
  | cons g gs ih => exact (h s g).trans (ih (step s g))

theorem State.eachGroup_same (s : State) {bs : List Block} {step : State → GroupIx → State}
    (h : ∀ (x : State) (g : GroupIx), x.SameBut (step x g) bs) : s.SameBut (s.eachGroup step) bs := State.foldl_same h _ s

theorem State.restartGroups_same (s : State) : s.SameBut s.restartGroups ([.auctions, .clu] ++ allGroups) := by
  have m : ∀ g : GroupIx, Block.group g ∈ allGroups := fun g => by simp [allGroups]
  have hc (y : State) (n : Nat) := y.eachGroup_same (bs := [.auctions, .clu] ++ allGroups)
    (step := fun x g => x.catchUp g n false) fun x g => (x.catchUp_same g n false).mono (by simp [m])
  have ha (y : State) (n : Nat) := y.eachGroup_same (bs := [.auctions, .clu] ++ allGroups)
    (step := restartAbandon n) fun x g => (restartAbandon_same n x g).mono (by simp [m])
  have hl (y : State) (n : Nat) := y.eachGroup_same (bs := [.auctions, .clu] ++ allGroups)
    (step := restartClear n) fun x g => (restartClear_same n x g).mono (by simp [m])
  exact ((hc s _).trans (ha _ _)).trans (hl _ _)

/-! ## The stamp ports (chapter 5) -/

/-- The blocks an action of a port may change. -/
def portBlocks (p : PortIx) : List Block := [.port p, .aj, .clu]

theorem State.portChanged_same (s : State) (p : PortIx) (o : PortState) (c : PortCause) :
    s.SameBut (s.portChanged p o c) [.clu] := s.notice_same _ _

theorem State.closePort_same (s : State) (p : PortIx) (c : PortCause) : s.SameBut (s.closePort p c) (portBlocks p) := by
  unfold State.closePort
  exact (((s.setPort_same p _).mono (by simp [portBlocks])).trans ((State.admin_same _ _).mono (by simp [portBlocks]))).trans
    ((State.portChanged_same _ _ _ _).mono (by simp [portBlocks]))

theorem State.reexamine_same (s : State) (p : PortIx) : s.SameBut (s.reexamine p) (portBlocks p) := by
  unfold State.reexamine
  simp only
  have h := fun x => (s.setPort_same p x).mono (cs := portBlocks p) (by simp [portBlocks])
  exact State.SameBut.ite ((h _).trans (State.closePort_same _ p _)) (h _)

theorem State.faultPort_same (s : State) (p : PortIx) (f : FaultKind) : s.SameBut (s.faultPort p f) (portBlocks p) := by
  unfold State.faultPort
  exact (((s.setPort_same p _).mono (by simp [portBlocks])).trans ((State.admin_same _ _).mono (by simp [portBlocks]))).trans
    ((State.portChanged_same _ _ _ _).mono (by simp [portBlocks]))

theorem State.capture_same (s : State) (p : PortIx) (f : FaultKind) (o : Nat) (st : PortState) :
    s.SameBut (s.capture p f o st) (portBlocks p) := by
  unfold State.capture
  simp only
  have h := fun x => (s.setPort_same p x).mono (cs := portBlocks p) (by simp [portBlocks])
  exact State.SameBut.ite ((h _).trans ((State.notice_same _ _ _).mono (by simp [portBlocks]))) (h _)

theorem State.badFrame_same (s : State) (p : PortIx) (f : FaultKind) (o : Nat) :
    s.SameBut (s.badFrame p f o) (portBlocks p) := by
  unfold State.badFrame
  simp only
  have h := fun x => (s.setPort_same p x).mono (cs := portBlocks p) (by simp [portBlocks])
  exact (((h _).trans (State.SameBut.ite (State.faultPort_same _ p f) (State.SameBut.refl _ _))).trans
    (State.capture_same _ p f o _)).trans (State.reexamine_same _ p)

theorem State.goodFrame_same (s : State) (p : PortIx) (f : StampFields) : s.SameBut (s.goodFrame p f) (portBlocks p) := by
  unfold State.goodFrame
  exact ((s.setPort_same p _).mono (by simp [portBlocks])).trans (State.reexamine_same _ p)

theorem restartPort_same (s : State) (p : PortIx) : s.SameBut (restartPort s p) (portBlocks p) := by
  unfold restartPort
  exact ((s.setPort_same p _).mono (by simp [portBlocks])).trans (State.reexamine_same _ p)

theorem exhaustPort_same (s : State) (p : PortIx) : s.SameBut (exhaustPort s p) (portBlocks p) := by
  unfold exhaustPort
  simp only
  have h := fun x => (s.setPort_same p x).mono (cs := portBlocks p) (by simp [portBlocks])
  exact ((h _).trans (State.SameBut.ite (State.SameBut.refl _ _) ((State.portChanged_same _ _ _ _).mono
    (by simp [portBlocks])))).trans (State.reexamine_same _ p)

end Sys2Proof.Machine
end

