-- ==== Sys2Proof/Laws/Requests.lean ====
section
/-! SUPPORT. What the taking of a control request gives, once for all requests: a request that CLU can take is acted on
with the queue's front IN_SERVICE, and its reply leaves the queue's rest. -/

namespace Sys2Proof.Machine

/-- A takeable request stands at the front of the queue and is the one taken for its kind. -/
theorem State.takeableOf_of_canTake {s : State} {kind : Nat} {q : ControlRequest} (h : s.CanTake kind q) :
    s.takeableOf kind = some q ∧ ∃ rest, s.clu.queue = q :: rest := by
  obtain ⟨_, hq, hw, hk, hl, hr⟩ := h
  cases hc : s.clu.queue with
  | nil => simp [hc] at hq
  | cons a b =>
    simp only [hc, List.head?_cons, Option.some.injEq] at hq
    subst hq
    simp [State.takeableOf, State.takeable, hc, hw, hk, hl, hr]

/-- A request that changes nothing leaves the state answered and no other. -/
theorem State.beginService_answer {s : State} {kind : Nat} {q : ControlRequest} (h : s.CanTake kind q)
    (payload : List Byte) : s.beginService.answer q payload = s.answered q payload := by
  obtain ⟨_, rest, hr⟩ := State.takeableOf_of_canTake h
  simp [State.beginService, State.answer, State.answered, State.placeReply, replyFrame, serveFront, hr]

/-- What taking a request gives: its owner's act on the state with the request IN_SERVICE, then the reply. -/
theorem takeRequest_of_canTake {s : State} {kind : Nat} {q : ControlRequest} (h : s.CanTake kind q)
    (act : List Byte → State → Acted) :
    takeRequest kind act s =
      (act q.payload s.beginService).state.answer q (act q.payload s.beginService).payload := by
  simp [takeRequest, (State.takeableOf_of_canTake h).1]

/-- A request that cannot be taken leaves the state as it is (notes/assumptions/1.md). -/
theorem takeRequest_of_not_takeable {s : State} {kind : Nat} (h : s.takeableOf kind = none)
    (act : List Byte → State → Acted) : takeRequest kind act s = s := by
  simp [takeRequest, h]

/-- A group request whose index names no group is refused without a catch-up (R119). -/
theorem groupRequest_of_none {payload : List Byte} (h : groupOf payload = none) (forms : Group → Bool)
    (act : GroupIx → Nat → State → Acted) (s : State) : groupRequest forms act payload s = s.says .outOfRange := by
  simp [groupRequest, h]

/-- A group request that forms a record of a group with four waiting after the catch-up is refused BUSY, the catch-up
taken (R119, R134). -/
theorem groupRequest_of_busy {payload : List Byte} {g : GroupIx} {s : State} (h : groupOf payload = some g)
    {forms : Group → Bool} (hf : forms ((s.catchUp g s.dating true).group g) = true)
    (hb : (s.catchUp g s.dating true).groupBusy g = true) (act : GroupIx → Nat → State → Acted) :
    groupRequest forms act payload s = (s.catchUp g s.dating true).says .busy := by
  simp only [groupRequest, h, hf, hb, and_self, if_true]

/-- Any other group request acts on what the catch-up leaves (R119). -/
theorem groupRequest_of_free {payload : List Byte} {g : GroupIx} {s : State} (h : groupOf payload = some g)
    {forms : Group → Bool}
    (hb : forms ((s.catchUp g s.dating true).group g) = false ∨ (s.catchUp g s.dating true).groupBusy g = false)
    (act : GroupIx → Nat → State → Acted) :
    groupRequest forms act payload s = act g s.dating (s.catchUp g s.dating true) := by
  rcases hb with hb | hb <;> simp only [groupRequest, h, hb, Bool.false_eq_true, false_and, and_false, if_false]

/-- A notice leaves the request queue, the reply list, the counters, the markers, the enables and the TICK mode. -/
theorem Control.notice_keeps (c : Control) (cls : NoticeClass) (f : List Fld) :
    (c.notice cls f).queue = c.queue ∧ (c.notice cls f).replies = c.replies ∧
      (c.notice cls f).counters = c.counters ∧ (c.notice cls f).markers = c.markers ∧
      (c.notice cls f).enables = c.enables ∧ (c.notice cls f).tick = c.tick ∧ (c.notice cls f).rx = c.rx ∧
      (c.notice cls f).tx = c.tx := by
  unfold Control.notice
  split
  · split <;> exact ⟨rfl, rfl, rfl, rfl, rfl, rfl, rfl, rfl⟩
  · exact ⟨rfl, rfl, rfl, rfl, rfl, rfl, rfl, rfl⟩

end Sys2Proof.Machine
end

