-- ==== Sys2Proof/Tests/Slice0.lean ====
section
/-! SUPPORT. Tests: the ill-formed commands that WellFormed refuses, worked examples of the spec, and for every statement
with hypotheses a state and operands that meet them. -/

namespace Sys2Proof.Tests
open Sys2Proof.Machine

/- One proof at a time: each is a kernel evaluation. -/
set_option Elab.async false

/-! ## Ill-formed commands -/

theorem test_empty_chunk_refused (r : Ref) : (Instr.timeMessage r []).wellFormed = false := by cases r <;> decide

theorem test_long_chunks_refused :
    (∀ r, (Instr.timeMessage r (List.replicate 15 0)).wellFormed = false) ∧
    (Instr.twinBadFrame (List.replicate 22 0)).wellFormed = false ∧
    (Instr.offerReceived (List.replicate 12 0)).wellFormed = false ∧
    (Instr.acceptReceived (List.replicate 12 0)).wellFormed = false ∧
    (Instr.refuseReceived (List.replicate 10 0)).wellFormed = false ∧
    (Instr.byeReceived (List.replicate 4 0)).wellFormed = false ∧
    (Instr.probeReceived (List.replicate 6 0)).wellFormed = false ∧
    (Instr.echoReceived (List.replicate 22 0)).wellFormed = false ∧
    (Instr.statusReceived (List.replicate 14 0)).wellFormed = false ∧
    (Instr.stampRequestFrame 0 (List.replicate 65 0)).wellFormed = false ∧
    (Instr.stampLengthFault 0 (List.replicate 4 0)).wellFormed = false ∧
    (Instr.controlBadLength (List.replicate 4 0)).wellFormed = false ∧
    (Instr.settingsSaveComplete (List.replicate 72 0)).wellFormed = false := by
  refine ⟨?_, by decide⟩
  intro r; cases r <;> decide

theorem test_long_control_chunk_refused : (Instr.controlFrame (List.replicate 1032 0)).wellFormed = false := by
  decide +kernel

theorem test_start_byte_is_not_discarded :
    (Instr.refByteDiscarded .a 0xD3#8).wellFormed = false ∧ (Instr.twinByteDiscarded 0x3C#8).wellFormed = false ∧
    (Instr.portByteDiscarded 0 0xA7#8).wellFormed = false ∧ (Instr.controlByteDiscarded 0xC5#8).wellFormed = false ∧
    (Instr.refByteDiscarded .a 0xD4#8).wellFormed = true := by decide

theorem test_no_word_spells_a_command : decodeTableWord 8 0 = none ∧ decodeTableWord 32 0xFFFFFFFF = none := by decide

/-! ## Examples of the spec -/

/-- The check value of the CRC of R149. -/
theorem test_crc_check_value :
    crc32 [0x31#8, 0x32#8, 0x33#8, 0x34#8, 0x35#8, 0x36#8, 0x37#8, 0x38#8, 0x39#8] = 0xCBF43926#32 := by
  decide +kernel

/-- State.reset is what START_UP leaves on a part that never started (R180 to R182). -/
theorem test_start_up_gives_reset :
    startUp { State.reset with power := .held .powerOn, epoch := 0, aj := {}, clu := {}, ss := {} } = State.reset := by
  decide +kernel

/-- The example of R45. -/
theorem test_servo_example :
    let t := State.servo { State.reset with du := { mode := .locked, integral := -3000000 } } 1250
    t.du.integral = -2980000 ∧ t.du.rate = 2667500 ∧ t.tb.inc = 34359830023 := by decide +kernel

/-- The draws of 7.2 and 7.10.1. -/
theorem test_draw_examples : drawOf 2863311530 120 = 80000 ∧ drawOf 1073741824 120 = 30000 := by decide

/-- The anchor example of R51. -/
theorem test_anchor_in_watch : anchorBound (-40) false 90 .watch = 228 := by decide

/-- The assisted bound examples of R76. -/
theorem test_assisted_bound : assistedBound 600 1300 2000 = 3916 ∧ assistedBound 600 (-1250) 2000 = 3866 := by decide

/-- 2.5: every byte at one bit from a valid code is corrected to its flags; the format bit must be set (R23). -/
theorem test_single_bit_errors_corrected :
    validMarkCodes.all (fun c => decodeMarkCode c.1 = .valid c.2 false &&
      (List.range 7).all fun k => decodeMarkCode (Nat.xor c.1 (2 ^ k)) = .valid c.2 true) = true ∧
      decodeMarkCode 0x4D = .format := by decide +kernel

/-! ## States and operands for the statements -/

/-- The state a command leads to. -/
def after (c : Instr) (s : State) : State :=
  match exec c s with
  | .next t => t
  | .fault _ | .refused _ => s

/-- A request as the host's frame brings it. -/
def req (kind : Nat) (payload : List Byte) : ControlRequest := ⟨BitVec.ofNat 8 kind, 7#16, payload, .waiting⟩

/-- The state with one request waiting. -/
def asked (s : State) (kind : Nat) (payload : List Byte) : State :=
  { s with clu := { s.clu with queue := [req kind payload] } }

/-- The payload of the reply at the back of the list. -/
def lastReply (s : State) : Option (List Byte) := s.clu.replies.getLast?.map ControlFrame.payload

/-- A part that disciplines from REF-A: LOCKED, the anchor of 100 ns at 0, offset +37. -/
def locked : State :=
  { State.reset with
    tick := 500000000
    tb := { raw := 4000000500, hwm := 0, utcOffset := 37 }
    monA :=
      { state := .qualified, goodRun := 20, baseline := some 375000000, lastTicks := some 125000000,
        lastLabel := some 3, adopted := some 37, missingTimer := some 600000000 }
    du := { mode := .locked, selection := some .a, anchor := some ⟨100, 0, .ref, true⟩, integral := 1000 } }

/-- The state with these AUCTION records in GS's list. -/
def withRecords (s : State) (rs : List AuctionRecord) : State := { s with gs := { s.gs with records := rs } }

/-- `locked` with a port in a state and with its queues. -/
def withPort (s : State) (p : PortIx) (x : Port) : State := s.setPort p x

def waitingRequest : StampRequest := ⟨9#32, .trade, 4, 77#64, 4000000000, .waiting⟩

/-- A time message of 14 bytes. -/
def message (label : Nat) (offset : Int) (code : Byte) (u : Nat) : List Byte :=
  closeFrame ([0xD3#8] ++ leBytes 6 label ++ leSigned 1 offset ++ [code] ++ leBytes 4 u)

/-- A stamp request frame of 18 bytes. -/
def stampFrame (tag : Nat) (cls group : Byte) (key : Nat) : List Byte :=
  closeFrame ([0xA7#8, 0x01#8, 18#8] ++ leBytes 4 tag ++ [cls, group] ++ leBytes 8 key)

/-- A twin attached in a state with a probe outstanding. -/
def attached (st : TwinState) : State :=
  { locked with
    tlu := { state := st, identity := some ⟨0, 5, 2⟩, nextProbe := 2, probes := [{ number := 1, t1 := some 1000 }],
             probeTimer := some 400000000, spacingTimer := some 400000000 } }

/-- A group whose call period begins at `tc`. -/
def groupAt (phase : Phase) (tc tm te : Nat) : Group :=
  { phase := phase, number := 3, revealed := 2, tc := some tc, tMin := some tm, window := some 1, draw := some 5,
    tEnd := some te }

/-! ### Queue, resets, Time Base -/

theorem witness_StepRunsFrontCommand :
    step { State.reset with pending := [.oscillatorTick, .startUp] } =
      exec .oscillatorTick { State.reset with pending := [.startUp] } := rfl

theorem witness_EveryCommandAnswersAndKeepsTheQueue :
    State.reset.pending = [] ∧ (resetHeld .pin State.reset).power = .held .pin ∧
      after .oscillatorTick (resetHeld .pin State.reset) = resetHeld .pin State.reset ∧
      after .stampGrant { State.reset with pending := [.startUp] } = { State.reset with pending := [.startUp] } := by
  decide +kernel

theorem witness_ResetHoldsThePart :
    let s := { State.reset with ss := { State.reset.ss with save := some ⟨List.replicate 73 1, false, false, false, false⟩ } }
    let held := after (.reset .supply) s
    held.power = .held .supply ∧ s.power = .running ∧ held.ss.epochCounter = 1 ∧
      (after (.reset .pin) held).power = .held .pin ∧ (after (.reset .pin) held).ss.save = none ∧
      (after (.reset .pin) State.reset).ss.profile = State.reset.ss.profile ∧
      (after (.reset .pin) held).ss.epochCounter = 1 := by decide +kernel

/-- The example of R180: a SUPPLY reset ends the start-up that issued 65,534. -/
theorem test_interrupted_start_up_skips_an_epoch :
    let held : State := { State.reset with power := .held .pin, ss := { State.reset.ss with epochCounter := 65533 } }
    let t := after .startUp (after (.reset .supply) (after .startUp held))
    t.epoch = 65535 ∧ t.cause = .supply ∧ t.sa.exhausted = false ∧
      (after .startUp (after (.reset .pin) t)).sa.exhausted = true := by decide +kernel

theorem witness_StartUpGivesTheFirstState :
    let s := resetHeld .supply { locked with ss := { locked.ss with epochCounter := 65535 } }
    s.power = .held .supply ∧ (after .startUp s).epoch = 65535 ∧ (after .startUp s).sa.exhausted = true ∧
      (after .startUp (resetHeld .pin locked)).epoch = 2 ∧
    (let x := { locked with tlu := { startAtReset := true }, monB := { state := .disabled } }
     let gathered := after .settingsSave (asked x 0x1C [])
     let saved := after (.settingsSaveComplete ((gathered.ss.save.map Save.copy).getD [])) gathered
     let t := after .startUp (resetHeld .pin saved)
     t.ss.status = .loaded ∧ t.tlu.state = .offering ∧ t.tlu.transmit = [.offer ⟨0, 0, 2⟩] ∧
       t.monB.state = .disabled ∧ t.monB.missingTimer = none ∧ t.monA.missingTimer = some 137500000 ∧
       t.clu.notices.map ControlFrame.kind = [0x67#8, 0x62#8]) := by decide +kernel

theorem witness_TickAdvancesRawTime :
    locked.power = .running ∧ locked.tb.Wf ∧
    (let s := { locked with tb := { locked.tb with raw := max64, frac := 5 } }
     s.tb.Wf ∧ (after .oscillatorTick s).tb.raw = max64 ∧ (after .oscillatorTick s).tb.frac = 4294967295) ∧
    (let s := { locked with tb := { locked.tb with raw := 4999999993 } }
     (after .oscillatorTick s).tb.boundaries = [⟨5, 5000000001⟩]) ∧
    (after .oscillatorTick locked).tb.raw = 4000000508 := by decide +kernel

theorem witness_DatingTimeNeverDecreases :
    let hold := { locked with du := { locked.du with mode := .holdover } }
    let s := asked hold 0x08 (leBytes 8 5 ++ leBytes 4 5 ++ [0#8])
    let o := asked (withPort hold 2 { state := .opened }) 0x08 (leBytes 8 5 ++ leBytes 4 5 ++ [0#8])
    s.tb.Wf ∧ exec .clockSet s = .next (after .clockSet s) ∧ (after .clockSet s).tb.raw = 5 ∧
      (after .clockSet s).dating = s.dating ∧ o.tb.Wf ∧ o.anyPortOpen = true ∧
      exec .clockSet o = .next (after .clockSet o) ∧ (after .clockSet o).tb.raw = o.tb.raw := by
  refine ⟨by decide, rfl, by decide +kernel, by decide +kernel, by decide, by decide +kernel, rfl, by decide +kernel⟩

theorem witness_TimeBaseKeepsItsRanges :
    State.reset.tb.Wf ∧ step { State.reset with pending := [.oscillatorTick] } =
      .next (after .oscillatorTick State.reset) := ⟨by decide, rfl⟩

theorem witness_TimeBaseKeepsItsRanges_settings :
    let t : State := { locked with tb := { locked.tb with utcOffset := -128, servo := ⟨{}, some ⟨1000, 250, 10000⟩⟩ } }
    t.SettingsWf ∧ step { t with pending := [.oscillatorTick] } = .next (after .oscillatorTick t) := by
  refine ⟨⟨?_, ?_, ?_, ?_, by decide, ?_, by decide⟩, rfl⟩
  · exact ⟨by decide, fun v h => by cases h; decide⟩
  · exact ⟨by decide, fun v h => by cases h⟩
  · exact ⟨by decide, fun v h => by cases h⟩
  · exact ⟨by decide, fun v h => by cases h⟩
  · intro r
    cases r
    · exact ⟨by decide, by decide, fun o h => by cases h; decide⟩
    · exact ⟨by decide, by decide, fun o h => by cases h⟩

/-! ### Second boundaries and expiries -/

/-- `locked` with a second boundary raised at 5 s. -/
def atBoundary (du : Discipline) : State :=
  { locked with tb := { locked.tb with raw := 5000000000, boundaries := [⟨5, 5000000000⟩] }, du := du }

theorem witness_SecondBoundaryReactions :
    let s := atBoundary locked.du
    s.power = .running ∧ s.tb.boundaries = ⟨5, 5000000000⟩ :: [] ∧ s.du.boundaryCount + 1 < s.tb.trace.active.interval ∧
      (after .secondBoundary s).du.boundaryCount = 1 ∧
    (let s := atBoundary { locked.du with boundaryCount := 59, stats := { completed := 3 } }
     s.tb.trace.active.interval ≤ s.du.boundaryCount + 1 ∧ (after .secondBoundary s).du.boundaryCount = 0 ∧
       (after .secondBoundary s).du.stats = {} ∧ (after .secondBoundary s).aj.stored.evidence = 1) ∧
    (let s := { atBoundary { locked.du with trace := .traceable } with clu := { enables := {}, tick := .once } }
     (after .secondBoundary s).du.trace = s.du.trace ∧ (after .secondBoundary s).clu.tick = .off ∧
       (after .secondBoundary s).clu.notices =
         [⟨0x66#8, 0#16, leBytes 4 0 ++ [1#8] ++ leBytes 6 5 ++ leBytes 8 5000000000 ++ [1#8] ++ leBytes 4 350⟩]) ∧
    -- A change of the traceability state with a twin attached and TICK on.
    (let du := { locked.du with anchor := some ⟨100, 0, .host, false⟩, trace := .traceable }
     let s := { atBoundary du with tlu := { state := .agreed }, clu := { enables := {}, tick := .eachSecond } }
     let t := after .secondBoundary s
     s.du.records.length < 32 ∧ t.du.trace = .untraceable ∧
       t.du.records = [⟨.traceState .traceable .untraceable (some 350) 5000000000, .locked, some 350⟩] ∧
       t.tlu.transmit = [.status ⟨.untraceable, some 350, .locked, some .a, 1⟩] ∧
       t.clu.notices.map ControlFrame.kind = [0x60#8, 0x66#8]) ∧
    -- The same with 32 records waiting: the record is lost.
    (let waiting : List ClockRecord := List.replicate 32 ⟨.contestedClear .stop none, .locked, none⟩
     let du := { locked.du with anchor := some ⟨100, 0, .host, false⟩, trace := .traceable, records := waiting }
     let t := after .secondBoundary { atBoundary du with clu := { enables := {} } }
     t.du.trace = .untraceable ∧ t.du.records = waiting ∧ t.aj.tally = ⟨0, 1, none⟩ ∧ t.aj.lost.clock = 1 ∧
       t.clu.notices.map ControlFrame.kind = [0x64#8, 0x60#8]) := by
  decide +kernel

theorem witness_BoundAndTraceabilityAtABoundary :
    let gives (du : Discipline) (b : Option Nat) (x : TraceState) :=
      (after .secondBoundary (atBoundary du)).du.bound = b ∧ (after .secondBoundary (atBoundary du)).du.trace = x
    gives locked.du (some 350) .traceable ∧ gives State.reset.du none .unset ∧
    gives { locked.du with anchor := some ⟨19750, 0, .ref, true⟩ } (some 20000) .traceable ∧
    gives { locked.du with anchor := some ⟨19751, 0, .ref, true⟩ } (some 20001) .degraded ∧
    gives { locked.du with anchor := some ⟨99750, 0, .ref, true⟩ } (some 100000) .degraded ∧
    gives { locked.du with anchor := some ⟨99751, 0, .ref, true⟩ } (some 100001) .untraceable ∧
    gives { locked.du with anchor := some ⟨100, 0, .host, false⟩ } (some 350) .untraceable ∧
    gives { locked.du with anchor := some ⟨100, 0, .ref, false⟩, trace := .untraceable } (some 350) .untraceable ∧
    gives { locked.du with mode := .holdover, assisted := some ⟨99, 0⟩, trace := .untraceable } (some 349) .untraceable ∧
    gives { locked.du with mode := .holdover, assisted := some ⟨100, 0⟩, trace := .untraceable } (some 350) .traceable ∧
    gives { locked.du with mode := .holdover, assisted := some ⟨99, 0⟩, anchor := some ⟨100, 0, .host, false⟩ }
      (some 349) .traceable := by decide +kernel

theorem witness_ClockSuspensionAtABoundary :
    let du := { locked.du with anchor := some ⟨100, 0, .host, false⟩, trace := .traceable }
    let s := (atBoundary du).setGroup 3 (groupAt .call 4000000000 9000000000 9005000000)
    (after .secondBoundary s).du.trace = .untraceable ∧ s.du.trace ≠ .untraceable ∧
      ((after .secondBoundary s).group 3).phase = .suspended ∧ ((after .secondBoundary s).group 3).cause = some .clock ∧
      (after .secondBoundary s).group 4 = s.group 4 ∧
    (let t := (atBoundary locked.du).setGroup 3 (groupAt .call 4000000000 9000000000 9005000000)
     (after .secondBoundary t).group 3 = t.group 3) := by decide +kernel

/-- The SUSPEND records of a clock suspension, after the catch-up of their group and in group order; none when the state
changes to TRACEABLE. -/
theorem witness_ClockSuspensionAtABoundary_records :
    let s (source : AnchorSource) : State :=
      let du := { locked.du with anchor := some ⟨100, 0, source, true⟩, trace := .degraded }
      ((atBoundary du).setGroup 9 (groupAt .scheduled 4000000000 9000000000 9005000000)).setGroup 3
        (groupAt .random 1000000000 4000000000 9005000000)
    let t := after .secondBoundary (s .host)
    t.du.trace = .untraceable ∧ t.gs.records.map (fun r => (r.group, r.step)) =
        [(3, .suspend), (9, .callStart), (9, .suspend)] ∧
      t.gs.records.head? = some
        { group := 3, number := 3, step := .suspend, instant := 5000000000, now := 5000000000, tc := 1000000000,
          tMin := 4000000000, window := 1, draw := some 5, tEnd := none, listLength := 0, cause := some .clock,
          trace := some .untraceable } ∧
      (after .secondBoundary (s .ref)).du.trace = .traceable ∧ (after .secondBoundary (s .ref)).gs = (s .ref).gs := by
  decide +kernel

theorem witness_ExpiriesTakeEveryReachedInstant :
    let s := ((locked.setGroup 5 (groupAt .scheduled 4000000500 4000000500 4000000501)).setGroup 2
      (groupAt .random 1 2 4000000500)).setGroup 9 { groupAt .suspended 1 2 3 with tEnd := none }
    s.nextExpiry s.dating = some 2 ∧ (s.group 2).phase = .random ∧
      (∀ k, (s.group k).phase = .scheduled ∨ (s.group k).phase = .call ∨ (s.group k).phase = .random →
        (s.group k).tc.getD 0 ≤ (s.group k).tMin.getD 0 ∧ (s.group k).tMin.getD 0 ≤ (s.group k).tEnd.getD 0) ∧
      (after .closeExpiry s).gs.records.map (fun r => (r.group, r.step)) =
        [(2, .close), (5, .callStart), (5, .windowStart)] ∧
    (let s := locked.setGroup 5 (groupAt .scheduled 4000000500 4000000501 4000000502)
     s.nextExpiry s.dating = some 5 ∧ ((after .callStartExpiry s).group 5).phase = .call) ∧
    (let s := locked.setGroup 5 (groupAt .call 1 4000000500 4000000501)
     s.nextExpiry s.dating = some 5 ∧ ((after .windowStartExpiry s).group 5).phase = .random) := by decide +kernel

theorem witness_CatchUpFollowsTheInstants :
    let at_ (ph : Phase) (now : Nat) :=
      ((State.catchUp (locked.setGroup 0 (groupAt ph 10 20 30)) 0 now true).group 0).phase
    at_ .scheduled 9 = .scheduled ∧ at_ .scheduled 10 = .call ∧ at_ .scheduled 20 = .random ∧
      at_ .scheduled 30 = .closed ∧ at_ .call 19 = .call ∧ at_ .call 20 = .random ∧ at_ .call 30 = .closed ∧
      at_ .random 29 = .random ∧ at_ .random 30 = .closed ∧
      (State.catchUp (locked.setGroup 0 (groupAt .scheduled 10 10 10)) 0 10 true).gs.records.length = 3 ∧
    (let s := locked.setGroup 0 { groupAt .suspended 10 20 30 with tEnd := none, cause := some .host }
     (s.group 0).phase = .suspended ∧ State.catchUp s 0 40 true = s) ∧
      (locked.group 1).phase = .dormant ∧ State.catchUp locked 1 40 true = locked := by decide +kernel

/-! ### Reference monitors and the Discipline Unit -/

/-- `locked` with another REF-A monitor. -/
def withA (m : Monitor) : State := { locked with monA := m }

theorem witness_EdgesAndMessagesWithoutAMark :
    let s := locked
    s.power = .running ∧ (s.mon .a).state ≠ .disabled ∧ (s.mon .a).pendingMark = none ∧
      (after (.markEdge .a) s).monA.pendingMark = some ⟨4000000500, some 125000000, .inWindow⟩ ∧
    (let v (x l : Option Nat) :=
      (after (.markEdge .a) (withA { s.monA with baseline := x, lastTicks := l })).monA.pendingMark.map PendingMark.verdict
     v none none = some .notChecked ∧ v (some 375025000) none = some .inWindow ∧
       v (some 375025001) none = some .frequency ∧ v (some 374975000) none = some .inWindow ∧
       v (some 374974999) none = some .frequency ∧ v (some 375000000) (some 125000250) = some .inWindow ∧
       v (some 375000000) (some 125000251) = some .jump) ∧
    takeTimeMessage [] [0xD3#8] = .assembling [0xD3#8] ∧
      (after (.timeMessage .a [0xD3#8]) s).monA.rx = [0xD3#8] ∧
      takeTimeMessage [] (message 4 37 0x80 90) = .arrived (readTimeMessage (message 4 37 0x80 90)) ∧
      (after (.timeMessage .a (message 4 37 0x80 90)) s).monA.counters.orphans = 1 := by decide +kernel

/-- A mark of REF-A pending, captured at 4,000,000,300. -/
def pendingA : Monitor :=
  { locked.monA with pendingMark := some ⟨4000000300, some 125000000, .inWindow⟩, messageWait := some 500000000 }

theorem witness_NoLabelAndMissingMarks :
    let s := withA pendingA
    s.power = .running ∧ (s.mon .a).state ≠ .disabled ∧
      (s.mon .a).pendingMark = some ⟨4000000300, some 125000000, .inWindow⟩ ∧
      (after (.markEdge .a) s).monA.score = 8 ∧ (after (.markEdge .a) s).monA.lastLabel = some 4 ∧
      (after (.messageWaitExpiry .a) s).monA.counters.bad.noLabel = 1 ∧
    (let s := withA { locked.monA with missingTimer := some 500000000, score := 24 }
     (s.mon .a).pendingMark = none ∧ (after (.missingMarkExpiry .a) s).monA.state = .watch ∧
       (after (.missingMarkExpiry .a) s).monA.missingTimer = some 625000000) ∧
    (let s := withA { pendingA with leap := some ⟨true, 9⟩ }
     let t := after (.messageWaitExpiry .a) s
     t.monA.leap = some ⟨true, 9⟩ ∧ t.monA.adopted = some 37 ∧ t.du.stats.bad = 1 ∧
       t.du.stats.maxTicks = some 125000000 ∧
       (after (.missingMarkExpiry .a) (withA { locked.monA with missingTimer := some 500000000 })).du.stats =
         { bad := 1 } ∧
       (after (.messageWaitExpiry .a) { s with du := { s.du with selection := none } }).du.stats = {}) := by
  decide +kernel

theorem witness_MessageCompletesTheMark :
    let s := withA pendingA
    let m := message 4 37 0x80 90
    takeTimeMessage (s.mon .a).rx m = .arrived (readTimeMessage m) ∧
      markReason (s.mon .a) (readTimeMessage m) .inWindow = none ∧
      (after (.timeMessage .a m) s).monA.lastLabel = some 4 ∧ (after (.timeMessage .a m) s).monA.counters.good = 1 ∧
    (let m := message 5 37 0x80 90
     markReason (s.mon .a) (readTimeMessage m) .inWindow = some .label ∧
       (after (.timeMessage .a m) s).monA.lastLabel = some 5) ∧
    (let m := (message 5 37 0x80 90).take 13 ++ [0#8]
     markReason (s.mon .a) (readTimeMessage m) .inWindow = some .check ∧
       (after (.timeMessage .a m) s).monA.lastLabel = some 4) ∧
    (let s := withA { pendingA with lastLabel := some 281474976710655 }
     (readTimeMessage m).label ≤ 281474976710655 ∧ (readTimeMessage m).checkOk = true ∧
       markReason (s.mon .a) (readTimeMessage m) .inWindow = some .label ∧
       (after (.timeMessage .a m) s).monA.lastLabel = some 281474976710655) ∧
    (let m := (message 5 37 0x80 90).take 13 ++ [0#8]
     let last (l : Nat) := (after (.timeMessage .a m) (withA { pendingA with lastLabel := some l })).monA.lastLabel
     last 281474976710654 = some 281474976710655 ∧ last 281474976710655 = some 281474976710655) := by decide +kernel

/-- The leap memory: refreshed by an announcement, good mark or not, counted down by a message without one, cleared when
the offset it justifies is adopted and when EXCLUDED is entered (R26, R27, R32). -/
theorem witness_MessageCompletesTheMark_leap :
    let leap (l : Option LeapMemory) (m : List Byte) :=
      (after (.timeMessage .a m) (withA { pendingA with leap := l })).monA.leap
    let bad := (message 4 37 0xCD 90).take 13 ++ [0#8]
    leap (some ⟨true, 3⟩) (message 4 37 0xCD 90) = some ⟨false, 60⟩ ∧
      leap (some ⟨true, 3⟩) (message 5 37 0xDA 90) = some ⟨true, 60⟩ ∧
      leap (some ⟨true, 3⟩) (message 4 37 0x80 90) = some ⟨true, 2⟩ ∧
      leap (some ⟨true, 1⟩) (message 4 37 0x80 90) = none ∧ leap (some ⟨true, 3⟩) bad = some ⟨true, 2⟩ ∧
      leap (some ⟨true, 3⟩) (message 4 36 0xDA 90) = none ∧
      leap (some ⟨true, 3⟩) (message 4 38 0x80 90) = some ⟨true, 2⟩ ∧
    (let s := withA { pendingA with state := .watch, score := 95, leap := some ⟨true, 3⟩ }
     let t := after (.timeMessage .a bad) s
     t.monA.state = .excluded ∧ t.monA.leap = none ∧ t.monA.adopted = none ∧ t.monA.lastLabel = none) := by
  decide +kernel

theorem witness_AMarkIsGoodWhenItPassesAllNineChecks :
    let r (m : Monitor) (l : Nat) (o : Int) (u : Nat) (v : Verdict) :=
      markReason m (readTimeMessage (message l o 0x80 u)) v
    r locked.monA 4 37 1000 .inWindow = none ∧ r locked.monA 4 37 1001 .inWindow = some .uncertain ∧
      r locked.monA 4 37 0 .jump = some .jump ∧ r locked.monA 4 38 0 .inWindow = some .offset ∧
      r { locked.monA with leap := some ⟨false, 1⟩ } 4 38 0 .inWindow = none ∧
      r { locked.monA with leap := some ⟨true, 1⟩ } 4 36 0 .notChecked = none := by decide +kernel

theorem witness_FaultScoreAndQualification :
    let m (st : QualState) (score run rec : Nat) : Monitor :=
      { state := st, score := score, goodRun := run, recoveryRun := rec, adopted := some 37 }
    ((m .candidate 32 15 0).step none).state = .qualified ∧ ((m .candidate 33 15 0).step none).state = .watch ∧
      ((m .candidate 0 14 0).step none).state = .candidate ∧
      ((m .qualified 23 0 0).step (some .check)).state = .qualified ∧
      ((m .qualified 24 0 0).step (some .check)).state = .watch ∧
      ((m .watch 87 0 0).step (some .check)).state = .watch ∧
      ((m .watch 88 0 0).step (some .check)).state = .excluded ∧ ((m .watch 32 0 0).step none).state = .qualified ∧
      ((m .excluded 96 0 58).step none).state = .excluded ∧ ((m .excluded 96 0 59).step none).state = .qualified := by
  decide +kernel

theorem witness_AGoodMarkMakesAServoUpdate :
    let s := withA pendingA
    let m := message 4 37 0x80 90
    s.power = .running ∧ (s.mon .a).state = .qualified ∧
      takeTimeMessage (s.mon .a).rx m = .arrived (readTimeMessage m) ∧
      markReason (s.mon .a) (readTimeMessage m) .inWindow = none ∧
      decodeMarkCode (readTimeMessage m).code = .valid ⟨false, false, false⟩ false ∧ (s.mon .a).leap = none ∧
      (s.mon .a).adopted = some 37 ∧ (readTimeMessage m).utcOffset = 37 ∧ s.tb.utcOffset = 37 ∧
      s.du.selection = some .a ∧ s.du.stale .a = false ∧ s.du.mode = .locked ∧
      (after (.timeMessage .a m) s).du.integral = 5800 ∧ (after (.timeMessage .a m) s).du.rate = -80800 ∧
      (after (.timeMessage .a m) s).du.anchor = some ⟨398, 4000000500, .ref, true⟩ ∧
    (let s := withA { pendingA with state := .watch, score := 33 }
     32 ≤ (s.mon .a).score - 1 ∧ markReason (s.mon .a) (readTimeMessage m) .inWindow = none ∧
       (after (.timeMessage .a m) s).du.anchor = some ⟨488, 4000000500, .ref, false⟩) ∧
    (let s := { s with du := { s.du with mode := .holdover } }
     s.du.records.length < 32 ∧ (after (.timeMessage .a m) s).du.mode = .locked ∧
       (after (.timeMessage .a m) s).du.records = [⟨.acquired .holdover .a 300 90 .qualified, .locked, none⟩] ∧
       (after (.timeMessage .a m) s).clu.notices.length = s.clu.notices.length + 1) := by decide +kernel

theorem witness_MarksReachTheDisciplineUnit :
    let s := withA pendingA
    let m := message 4 37 0x80 90
    s.power = .running ∧ (s.mon .a).state ≠ .disabled ∧ ((s.mon .a).step none).state = (s.mon .a).state ∧
      s.du.selection = some .a ∧ (after (.timeMessage .a m) s).du.stats.used = 1 ∧
    (let s := { s with du := { s.du with staleA := true } }
     (after (.timeMessage .a m) s).du.staleA = false ∧ (after (.timeMessage .a m) s).du.stats.used = 0 ∧
       (after (.timeMessage .a m) s).du.stats.completed = 1 ∧
     (let s := { s with du := { s.du with selection := some .b } }
      (after (.timeMessage .a m) s).du = { s.du with staleA := false })) ∧
    -- A leap announced by the code, and the offset it justifies.
    (let m := message 4 37 0xCD 90
     markReason (s.mon .a) (readTimeMessage m) .inWindow = none ∧
       (after (.timeMessage .a m) s).du.leap = some ⟨false, .a⟩ ∧
       (after (.timeMessage .a m) s).du.records = [⟨.leapAnnounced false .a 4, .locked, none⟩]) ∧
    (let s := withA { pendingA with leap := some ⟨false, 1⟩ }
     let m := message 4 38 0x80 90
     (after (.timeMessage .a m) s).tb.utcOffset = 38 ∧
       (after (.timeMessage .a m) s).du.records = [⟨.offsetChange 37 38 .leap, .locked, none⟩]) := by decide +kernel

/-- The statistics of Table 3-5 after a good mark of e = 300 ns, and after one whose code was corrected. -/
theorem witness_MarksReachTheDisciplineUnit_statistics :
    let s := withA pendingA
    (after (.timeMessage .a (message 4 37 0x80 90)) s).du.stats =
      { completed := 1, used := 1, minE := some 300, maxE := some 300, sumE := 300, minTicks := some 125000000,
        maxTicks := some 125000000 } ∧
    (let x : Statistics := { used := 2, minE := some (-5), maxE := some 8, sumE := 3, minTicks := some 124999999 }
     (after (.timeMessage .a (message 4 37 0x81 90)) { s with du := { s.du with stats := x } }).du.stats =
       { completed := 1, corrected := 1, used := 3, minE := some (-5), maxE := some 300, sumE := 303,
         minTicks := some 124999999, maxTicks := some 125000000 }) := by decide +kernel

/-- Marks that change the state of their reference, and with it the selection (Table 3-2). -/
theorem witness_MarksReachTheDisciplineUnit_selection :
    let run (s : State) (bytes : List Byte) := after (.timeMessage .a bytes) s
    let events (s : State) := s.du.records.map ClockRecord.event
    let good := message 4 37 0x80 90
    let bad := good.take 13 ++ [0#8]
    let candidate := { withA { pendingA with state := .candidate, goodRun := 15 } with
      du := {}, tb := { locked.tb with utcOffset := 0 } }
    -- The sixteenth good mark selects REF-A, whose offset is adopted, and acquires the clock.
    events (run candidate good) =
        [.refSwitch none (some .a) none (some .qualified) (.report .a .goodRun), .offsetChange 0 37 .switch,
          .step 4000000500 4000000200 300, .acquired .unset .a 300 90 .qualified] ∧
      (run candidate good).du.selection = some .a ∧
    -- REF-A falls to WATCH and stays selected, or gives way to a qualified REF-B.
    (let s := withA { pendingA with score := 24 }
     events (run s bad) = [.refSwitch (some .a) (some .a) (some .qualified) (some .watch) (.report .a (.bad .check))] ∧
       (run { s with monB := { state := .qualified, adopted := some 37 } } bad).du.selection = some .b) ∧
    -- REF-A is excluded and nothing is left.
    (let s := withA { pendingA with state := .watch, score := 88 }
     (run s bad).du.selection = none ∧ (run s bad).du.mode = .holdover ∧ (run s bad).du.rate = -1000 ∧
       (let slewing := { s with du := { s.du with mode := .slewing, lastSlew := some 9 } }
        events (run slewing bad) =
          [.refSwitch (some .a) none (some .excluded) none (.report .a (.bad .check)), .slewEnd .loss 9,
            .holdoverStart .slewing 1000 (-1000)]) ∧
       (run { s with du := { s.du with mode := .unset } } bad).du.mode = .unset) ∧
    -- A step forward leaves the anchor at the dating time before it (R51).
    (let s := withA { pendingA with pendingMark := some ⟨3999000000, some 125000000, .inWindow⟩ }
     (run s good).tb.raw = 4001000500 ∧ (run s good).du.anchor = some ⟨98, 4000000500, .ref, true⟩) := by
  decide +kernel

theorem witness_TheActionOnAUsedMark :
    let m (e : Int) : UsedMark := ⟨.a, e, 90, .qualified⟩
    let opened := withPort locked 7 { state := .draining }
    (locked.actOnMark (m (-200001))).state.tb.raw = 4000200501 ∧ (locked.actOnMark (m (-200000))).stepped = false ∧
      locked.anyPortOpen = false ∧ (locked.actOnMark (m 200001)).state.tb.raw = 3999800499 ∧
      (locked.actOnMark (m 200001)).state.tb.hwm = 4000000500 ∧ opened.anyPortOpen = true ∧
      (opened.actOnMark (m 200001)).state.du.mode = .slewing ∧
      (opened.actOnMark (m 200001)).state.tb.raw = 4000000500 ∧ (opened.actOnMark (m 200000)).state.du.mode = .locked ∧
    (let unset := { withA pendingA with du := { selection := some .a } }
     unset.du.mode = .unset ∧ unset.anyPortOpen = false ∧ (unset.actOnMark (m 0)).stepped = true ∧
       (unset.actOnMark (m 300)).state.tb.raw = 4000000200 ∧ (unset.actOnMark (m 300)).state.du.staleA = true ∧
       (unset.actOnMark (m 300)).state.du.records.length = 2) ∧
    (let slewing (p : PortState) := { withPort locked 7 { state := p } with du := { locked.du with mode := .slewing } }
     ((slewing .opened).actOnMark (m 200001)).state.du.mode = .slewing ∧
       ((slewing .opened).actOnMark (m 200001)).state.du.lastSlew = some 200001 ∧
       ((slewing .opened).actOnMark (m 200000)).state.du.records = [⟨.slewEnd .reached 200000, .slewing, none⟩] ∧
       ((slewing .closed).actOnMark (m 200001)).state.tb.raw = 3999800499 ∧
       ((slewing .closed).actOnMark (m 200001)).state.du.rate = -1000 ∧
       ((slewing .opened).actOnMark (m (-200001))).state.tb.raw = 4000200501) := by decide +kernel

theorem witness_AnAppliedStepReachesTheTwin :
    let x := attached .agreed
    let s := { x with tlu := { x.tlu with transmit := [.echo 3 1, .probe 1, .echo 4 1] } }
    s.tlu.probes = [] ++ [{ number := 1, t1 := some 1000 }] ∧ s.tlu.state.attached = true ∧
      (s.stepTime (-5)).tb.hwm = 4000000500 ∧ (s.stepTime 1000000000).tb.boundaries = [⟨5, 5000000500⟩] ∧
      (s.stepTime 5).tlu.transmit = [.probe 1] ∧ (s.stepTime 5).tlu.counters.echoesWithheld = 2 ∧
      (s.stepTime 5).tlu.counters.invalidStep = 1 ∧ (s.stepTime 5).tlu.state = .agreed ∧
    (let closed (n : Nat) : Probe := ⟨n, some 0, .invalid .timeout⟩
     let last := { s with tlu := { s.tlu with probes := [closed 1, closed 2, closed 3, { number := 4 }], failures := 1 } }
     (last.stepTime 5).tlu.fault = some .check ∧ (last.stepTime 5).tlu.counters.echoesWithheld = 2) ∧
    (let none_ := { s with tlu := { s.tlu with probes := [] } }
     (∀ y ∈ none_.tlu.probes, y.outcome ≠ .outstanding) ∧ (none_.stepTime 5).tlu.probeTimer = s.tlu.probeTimer) := by
  decide +kernel

theorem witness_LosingTheLastReferenceEntersHoldover :
    let payload := [1#8, 0#8] ++ leBytes 4 1000 ++ leBytes 4 0 ++ [1#8]
    let s := asked locked 0x09 payload
    s.CanTake 0x09 (req 0x09 payload) ∧ field payload 0 1 = 1 ∧ field payload 1 1 = 0 ∧ field payload 10 1 = 1 ∧
      s.du.selection = some .a ∧ (s.mon .a).state ≠ .disabled ∧ (s.mon .b).state ≠ .qualified ∧
      (s.mon .b).state ≠ .watch ∧ (after .refConfig s).du.mode = .holdover ∧
      (after .refConfig s).du.rate = -1000 ∧ (after .refConfig s).tb.rate = -1000 ∧
    (let s := { s with du := { s.du with mode := .unset, anchor := none } }
     s.CanTake 0x09 (req 0x09 payload) ∧ (after .refConfig s).du.mode = .unset ∧
       (after .refConfig s).du.selection = none) := by decide +kernel

/-! ### Twin Link Unit -/

/-- A twin frame of a kind with its fields. -/
def twinFrame (kind : Byte) (fields : List Byte) : List Byte := closeFrame ([0x3C#8, kind] ++ fields)

/-- An OFFER or ACCEPT of a venue, a serial number and an epoch. -/
def identityFrame (kind : Byte) (venue serial epoch : Nat) : List Byte :=
  twinFrame kind (leBytes 2 venue ++ leBytes 4 serial ++ leBytes 2 epoch)

/-- `locked` with TLU in a state of attachment. -/
def inTwin (st : TwinState) : State := { locked with tlu := { state := st } }

/-- A full transmit list. -/
def fullList : List TwinFrame := List.replicate 8 (.refuse 0 9)

theorem witness_AnAcceptableOfferOrAcceptAttaches :
    let offer := identityFrame 0x01#8 0 5 2
    let accept := identityFrame 0x02#8 0 5 2
    let s := inTwin .detached
    takeTwinBytes s.tlu.rx offer s.tb.raw = .good (.offer ⟨0, 5, 2⟩) 4000000500 ∧
      takeTwinBytes s.tlu.rx accept s.tb.raw = .good (.accept ⟨0, 5, 2⟩) 4000000500 ∧
      s.tlu.venue = 0 ∧ s.serial.toNat ≠ 5 ∧
      (after (.offerReceived offer) s).tlu.transmit = [.accept ⟨0, 0, 1⟩, .probe 1] ∧
      (after (.acceptReceived accept) s).tlu.state = .measuring ∧
      (after (.acceptReceived accept) s).tlu.transmit = [.probe 1] ∧
    (let full := { s with tlu := { s.tlu with transmit := fullList } }
     (after (.offerReceived offer) full).tlu.transmit = fullList ∧
       (after (.offerReceived offer) full).tlu.counters.transmitDrops = 2) := by decide +kernel

theorem witness_RefusalsEndTheAttachment :
    let s := inTwin .agreed
    let gives (c : Instr) (f : TwinFault) := (after c s).tlu.state = .detached ∧ (after c s).tlu.fault = some f
    let echo := twinFrame 0x05#8 (leBytes 2 1 ++ leBytes 16 0)
    let status := twinFrame 0x06#8 ([1#8, 1#8] ++ leBytes 4 600 ++ [1#8, 1#8] ++ leBytes 2 2)
    takeTwinBytes none (identityFrame 0x01#8 0 0 2) 4000000500 = .good (.offer ⟨0, 0, 2⟩) 4000000500 ∧
      gives (.offerReceived (identityFrame 0x01#8 0 0 2)) .loop ∧
      gives (.acceptReceived (identityFrame 0x02#8 1 0 2)) .venue ∧
      takeTwinBytes none (twinFrame 0x07#8 []) 4000000500 = .good .bye 4000000500 ∧
      gives (.byeReceived (twinFrame 0x07#8 [])) .bye ∧
      takeTwinBytes none (twinFrame 0x03#8 (leBytes 6 0)) 4000000500 = .good (.refuse 0 0) 4000000500 ∧
      gives (.refuseReceived (twinFrame 0x03#8 (leBytes 6 0))) .refused ∧
      (after (.offerReceived (identityFrame 0x01#8 0 0 2))
        { s with tlu := { s.tlu with transmit := fullList } }).tlu.counters.transmitDrops = 1 ∧
      (after (.byeReceived (twinFrame 0x07#8 [])) (inTwin .off)).tlu.counters.ignored = 1 ∧
      (inTwin .offering).tlu.state.attached = false ∧
      takeTwinBytes none echo 4000000500 = .good (.echo 1 0 0) 4000000500 ∧
      (after (.echoReceived echo) (inTwin .offering)).tlu.counters.ignored = 1 ∧
      takeTwinBytes none status 4000000500 = .good (.status ⟨.traceable, some 600, .locked, some .a, 2⟩) 4000000500 ∧
      (after (.statusReceived status) (inTwin .detached)).tlu.counters.ignored = 1 ∧
      (after (.acceptReceived (identityFrame 0x02#8 0 5 2)) s).tlu.counters.ignored = 1 := by decide +kernel

theorem witness_AProbeIsEchoed :
    let probe := twinFrame 0x04#8 (leBytes 2 7)
    takeTwinBytes none probe 4000000500 = .good (.probe 7) 4000000500 ∧
      (after (.probeReceived probe) (inTwin .agreed)).tlu.transmit = [.echo 7 4000000500] ∧
      (after (.probeReceived probe) { inTwin .agreed with tlu := { state := .agreed, transmit := fullList } }).tlu.counters
        = { received := 1, transmitDrops := 1 } ∧
      (after (.probeReceived probe) (inTwin .offering)).tlu.transmit = [] := by decide +kernel

theorem witness_AnEchoClosesTheProbe :
    let echo := twinFrame 0x05#8 (leBytes 2 1 ++ leBytes 8 3000 ++ leBytes 8 3500)
    let s := attached .measuring
    takeTwinBytes s.tlu.rx echo s.tb.raw = .good (.echo 1 3000 3500) 4000000500 ∧
      s.tlu.probes = [] ++ [{ number := 1, t1 := some 1000 }] ∧
      (after (.echoReceived echo) s).tlu.probes.map Probe.outcome =
        [.valid 3000 3500 4000000500 (-1999997500) 1999999500] ∧
      (after (.echoReceived (twinFrame 0x05#8 (leBytes 2 2 ++ leBytes 16 0))) s).tlu.counters.invalidNumber = 1 ∧
      (after (.echoReceived (twinFrame 0x05#8 (leBytes 2 1 ++ leBytes 8 0 ++ leBytes 8 4000000000)))
        s).tlu.counters.invalidOrder = 1 ∧
      (after (.echoReceived echo) (inTwin .agreed)).tlu.counters.lateEchoes = 1 ∧
    -- The echo of the last probe of a check.
    (let a := attached .agreed
     let p (n : Nat) : Probe := ⟨n, some 0, .valid 0 0 0 4 9⟩
     let last := { a with tlu := { a.tlu with probes := [p 8, p 9, p 10] ++ [{ number := 1, t1 := some 1000 }] } }
     (∀ y ∈ [p 8, p 9, p 10], y.outcome ≠ .outstanding) ∧
       (after (.echoReceived echo) last).tlu.probes = [] ∧ (after (.echoReceived echo) last).tlu.agreed = some 4) := by
  decide +kernel

/-- A STATUS frame of a state and an epoch. -/
def statusFrame (trace : Byte) (epoch : Nat) : List Byte :=
  twinFrame 0x06#8 ([trace, 1#8] ++ leBytes 4 600 ++ [1#8, 1#8] ++ leBytes 2 epoch)

theorem witness_TwinStatusIsRecordedAndAges :
    let s := attached .agreed
    takeTwinBytes s.tlu.rx (statusFrame 1#8 2) s.tb.raw =
        .good (.status ⟨.traceable, some 600, .locked, some .a, 2⟩) 4000000500 ∧
      s.tlu.identity = some ⟨0, 5, 2⟩ ∧ (after (.statusReceived (statusFrame 1#8 2)) s).tlu.status.isSome = true ∧
      (after (.statusReceived (statusFrame 1#8 3)) s).tlu.counters.statusMismatches = 1 ∧
    (let s := { s with
        tick := 4125000000
        tlu := { s.tlu with status := some ⟨.traceable, some 600, .locked, some .a, 2⟩, heldOut := some ⟨1, 2⟩ } }
     s.tlu.status.isSome = true ∧ 2 * s.tlu.period < s.tlu.statusAge s.tick ∧ s.tlu.heldOut.isSome = true ∧
       (after .statusAgeLimit s).tlu.heldOut = none) := by decide +kernel

theorem witness_TheFrontTwinFrameLeaves :
    let s := { attached .measuring with tlu := { (attached .measuring).tlu with transmit := [.probe 1, .echo 7 3000] } }
    s.tlu.transmit = .probe 1 :: [.echo 7 3000] ∧
      (after .twinFrameSend s).tlu.probes.map Probe.t1 = [some 4000000500] ∧
      (after .twinFrameSend s).tlu.counters.probesSent = 1 ∧
      (after .twinFrameSend (after .twinFrameSend s)).tlu.lastSent =
        twinFrame 0x05#8 (leBytes 2 7 ++ leBytes 8 3000 ++ leBytes 8 4000000500) ∧
    (let sent (f : TwinFrame) := (after .twinFrameSend { locked with tlu := { transmit := [f] } }).tlu.lastSent
     sent (.offer ⟨3, 5, 2⟩) = identityFrame 0x01#8 3 5 2 ∧ sent (.accept ⟨3, 5, 2⟩) = identityFrame 0x02#8 3 5 2 ∧
       sent (.refuse 3 5) = twinFrame 0x03#8 (leBytes 2 3 ++ leBytes 4 5) ∧ sent .bye = twinFrame 0x07#8 [] ∧
       sent (.status ⟨.traceable, some 600, .locked, some .a, 2⟩) =
         twinFrame 0x06#8 ([1#8, 1#8] ++ leBytes 4 600 ++ [1#8, 1#8] ++ leBytes 2 2)) := by decide +kernel

theorem witness_TwinTimersExpire :
    let now := some 500000000
    let s (st : TwinState) (f : TwinLink → TwinLink) : State := { locked with tlu := f { state := st } }
    let closed (n : Nat) : Probe := ⟨n, some 0, .invalid .timeout⟩
    (after .offerTimerExpiry (s .offering fun x => { x with offerTimer := now })).tlu.fault = some .timeout ∧
      (after .retryTimerExpiry (s .detached fun x => { x with retryTimer := now })).tlu.state = .offering ∧
      (after .retryTimerExpiry (s .detached fun x => { x with retryTimer := now })).clu.notices.length =
        locked.clu.notices.length + 1 ∧
      (after .probeSpacingExpiry (s .measuring fun x => { x with spacingTimer := now })).tlu.transmit = [.probe 1] ∧
      (after .probeSpacingExpiry (s .measuring fun x => { x with spacingTimer := now, transmit := fullList })).tlu.counters
        = { transmitDrops := 1 } ∧
      (after .probeTimeout
        (s .measuring fun x => { x with probes := [{ number := 1 }], probeTimer := now,
                                        transmit := [.probe 1] })).tlu.transmit = [] ∧
      (after .probeTimeout
        (s .agreed fun x => { x with probes := [closed 1, closed 2, closed 3] ++ [{ number := 4 }],
                                     probeTimer := now })).tlu.failures = 1 ∧
      (after .checkTimerExpiry (s .agreed fun x => { x with checkTimer := now })).tlu.checkTimer =
        some 2500000000 := by decide +kernel

/-- A VALID probe of an offset and a delay. -/
def probeOf (n : Nat) (theta delay : Int) : Probe := ⟨n, some 0, .valid 0 0 0 theta delay⟩

theorem witness_AMeasurementIsEvaluated :
    let p := probeOf
    let s (ps : List Probe) : State := { locked with tlu := { state := .measuring, probes := ps } }
    let four (th : Int) := s [p 1 9 30, p 2 th 20, p 3 1 20, p 4 2 40]
    (four 50000).tlu.validProbes.length = 4 ∧ (four 50000).evaluateMeasurement.tlu.state = .agreed ∧
      (four 50000).evaluateMeasurement.tlu.measured = some ⟨50000, 20⟩ ∧
      (four (-50001)).evaluateMeasurement.tlu.state = .disagree ∧
      (four (-50001)).evaluateMeasurement.du.contested = true ∧
      (s [p 1 9 30, p 2 1 20, p 3 1 20]).evaluateMeasurement.tlu.fault = some .measure := by decide +kernel

theorem witness_ACheckIsEvaluated :
    let st (trace : TraceState) : TwinStatus := ⟨trace, some 600, .locked, some .a, 2⟩
    let s (state : TwinState) (ps : List Probe) (failures : Nat) (trace : TraceState) : State := { locked with
      tick := 4500000000
      tlu := { state := state, probes := ps, failures := failures, agreed := some 7, heldOut := some ⟨5, 6⟩,
               status := some (st trace), statusTick := 500000000 }
      du := { locked.du with assisted := some ⟨5, 6⟩, contested := decide (state = .disagree) } }
    let two (th : Int) := [probeOf 1 th 20, probeOf 2 th 20]
    -- Success, with the anchor offered at a status age of 2 × P; disagreement and an untraceable twin withdraw it.
    (s .agreed (two (-1250)) 1 .traceable).tlu.validProbes.length = 2 ∧
      (s .agreed (two (-1250)) 1 .traceable).evaluateCheck.du.assisted = some ⟨3866, 4000000500⟩ ∧
      (s .agreed (two (-1250)) 1 .traceable).evaluateCheck.tlu.failures = 0 ∧
      (s .agreed (two 50001) 0 .traceable).evaluateCheck.tlu.heldOut = none ∧
      (s .agreed (two 50001) 0 .traceable).evaluateCheck.du.records = [⟨.contestedSet 50001 50000, .locked, none⟩] ∧
      (s .agreed (two 4) 0 .degraded).evaluateCheck.du.assisted = none ∧
      (s .disagree (two 4) 0 .traceable).evaluateCheck.du.contested = false ∧
    -- The first failure in a row and the second.
      (s .disagree [probeOf 1 4 5] 0 .traceable).evaluateCheck.tlu.heldOut = some ⟨5, 6⟩ ∧
      (s .disagree [probeOf 1 4 5] 0 .traceable).evaluateCheck.tlu.transmit.length = 1 ∧
      (s .disagree [probeOf 1 4 5] 1 .traceable).evaluateCheck.tlu.fault = some .check ∧
      (s .disagree [probeOf 1 4 5] 1 .traceable).evaluateCheck.du.assisted = none := by decide +kernel

theorem witness_TwinRequests :
    let start (st : TwinState) := asked (inTwin st) 0x0D []
    let stop (st : TwinState) := asked (inTwin st) 0x0E []
    let full (s : State) := { s with tlu := { s.tlu with transmit := fullList } }
    (start .off).CanTake 0x0D (req 0x0D []) ∧ (after .twinStart (start .off)).tlu.state = .offering ∧
      (after .twinStart (full (start .off))).tlu.counters.transmitDrops = 1 ∧
      (after .twinStart (start .agreed)).tlu.state = .agreed ∧ (stop .agreed).CanTake 0x0E (req 0x0E []) ∧
      (after .twinStop (stop .agreed)).tlu.transmit = [.bye] ∧ (after .twinStop (stop .off)).tlu.transmit = [] ∧
      (after .twinStop (full (stop .agreed))).tlu.counters.transmitDrops = 1 ∧
    (let config (st : TwinState) (venue flag : Nat) :=
       asked (inTwin st) 0x0C (leBytes 4 1 ++ leBytes 4 7 ++ [4#8] ++ leBytes 2 venue ++ leBytes 1 flag)
     (config .agreed 0 1).CanTake 0x0C (req 0x0C (leBytes 4 1 ++ leBytes 4 7 ++ [4#8] ++ leBytes 2 0 ++ [1#8])) ∧
       (after .twinConfig (config .agreed 0 1)).tlu.limit = 1000 ∧
       lastReply (after .twinConfig (config .agreed 0 2)) = some [4#8] ∧
       lastReply (after .twinConfig (config .agreed 1 1)) = some [5#8] ∧
       (after .twinConfig (config .detached 1 0)).tlu.venue = 1) := by decide +kernel

/-- The notices of TWIN_START and TWIN_STOP, and the CONTESTED_CLEAR record of a stop, in the list and lost. -/
theorem witness_TwinRequests_records :
    let on (s : State) : State := { s with clu := { s.clu with notices := [] } }
    let stopped (records : List ClockRecord) : State :=
      let s := on (asked (inTwin .disagree) 0x0E [])
      after .twinStop { s with du := { s.du with contested := true, records := records } }
    let waiting : List ClockRecord := List.replicate 32 ⟨.contestedClear .stop none, .holdover, none⟩
    (after .twinStart (on (asked (inTwin .off) 0x0D []))).clu.notices.map ControlFrame.kind = [0x62#8] ∧
      (stopped []).du.contested = false ∧ (stopped []).du.records = [⟨.contestedClear .stop none, .locked, none⟩] ∧
      (stopped []).clu.notices.map ControlFrame.kind = [0x60#8, 0x62#8] ∧
      (stopped waiting).du.records = waiting ∧ (stopped waiting).aj.lost.clock = 1 ∧
      (stopped waiting).clu.notices.map ControlFrame.kind = [0x64#8, 0x60#8, 0x62#8] := by decide +kernel

/-! ### Stamp ports and the Sequence Allocator -/

theorem witness_AGoodStampFrameIsQueuedOrRefusedAtTheDoor :
    let frame := stampFrame 9 3#8 3#8 77
    let arrives (x : Port) := (after (.stampRequestFrame 2 frame) (withPort locked 2 x)).port 2
    takeStampBytes [] frame = .arrived frame ∧ judgeStampFrame frame = .good ⟨9#32, .trade, 3, 77#64⟩ ∧
      (arrives { state := .opened, score := 5 }).requests.length = 1 ∧
      (arrives { state := .opened, score := 5 }).score = 4 ∧
      (arrives { state := .opened, requests := List.replicate 7 waitingRequest }).requests.length = 8 ∧
      (arrives { state := .opened, requests := List.replicate 8 waitingRequest }).replies =
        [.refused 9#32 1 .queueFull] ∧
      (arrives {}).replies = [.refused 9#32 1 .portClosed] ∧
      (arrives { state := .faulted, score := 64 }).replies = [.refused 9#32 1 .portFaulted] ∧
      (arrives { replies := List.replicate 16 (.refused 0#32 1 .portClosed) }).counters.dropped = 1 ∧
      takeStampBytes [] (frame.take 17) = .assembling (frame.take 17) ∧
      (after (.stampLengthFault 2 [0xA7#8]) locked).port 2 = { rx := [0xA7#8] } := by decide +kernel

theorem witness_ABadStampFrameIsCountedScoredAndCaptured :
    let bad := stampFrame 9 3#8 16#8 77
    let short := [0xA7#8, 1#8, 3#8]
    let s (x : Port) := withPort locked 2 x
    takeStampBytes [] bad = .arrived bad ∧ judgeStampFrame bad = .bad .field 8 ∧ takeStampBytes [] short = .badLength ∧
      ((after (.stampRequestFrame 2 bad) (s { state := .opened, score := 59 })).port 2).score = 63 ∧
      ((after (.stampRequestFrame 2 bad) (s { state := .opened })).port 2).capture =
        some ⟨.field, 8, 4000000500, .opened, 0⟩ ∧
      (after (.stampRequestFrame 2 bad) (s { state := .opened })).clu.notices.length = locked.clu.notices.length + 1 ∧
      ((after (.stampLengthFault 2 short) (s { capture := some ⟨.check, 17, 1, .closed, 3⟩ })).port 2).capture =
        some ⟨.check, 17, 1, .closed, 4⟩ ∧
    (let x : Port := { state := .opened, score := 60, requests := [waitingRequest] }
     let full : Port := { x with replies := List.replicate 16 (.refused 0#32 1 .portClosed) }
     64 ≤ x.score + 4 ∧ ((after (.stampRequestFrame 2 bad) (s x)).port 2).state = .faulted ∧
       ((after (.stampRequestFrame 2 bad) (s x)).port 2).replies = [.refused 9#32 1 .portFaulted] ∧
       ((after (.stampLengthFault 2 short) (s x)).port 2).state = .faulted ∧
       ((after (.stampLengthFault 2 short) (s full)).port 2).requests =
         [{ waitingRequest with status := .refusing .portFaulted }]) := by decide +kernel

/-- R83: the kind and offset of the first check that fails, and the bounds of the length byte (R82). -/
theorem witness_ABadStampFrameIsCountedScoredAndCaptured_checks :
    let caught (frame : List Byte) :=
      (((after (.stampRequestFrame 2 frame) locked).port 2).capture.map fun c => (c.kind, c.offset))
    let frame (kind n cls group : Byte) : List Byte :=
      closeFrame ([0xA7#8, kind, n] ++ [9#8, 0#8, 0#8, 0#8] ++ [cls, group] ++ List.replicate (n.toNat - 10) 0#8)
    let ended (n : Byte) := ((after (.stampLengthFault 2 [0xA7#8, 1#8, n]) locked).port 2).capture.isSome
    caught (frame 1#8 18#8 7#8 15#8) = none ∧ caught ((frame 2#8 18#8 8#8 16#8).set 3 8#8) = some (.check, 17) ∧
      caught (frame 2#8 19#8 8#8 16#8) = some (.kind, 1) ∧ caught (frame 1#8 19#8 8#8 16#8) = some (.length, 2) ∧
      caught (frame 1#8 64#8 0#8 0#8) = some (.length, 2) ∧
      caught (closeFrame [0xA7#8, 1#8, 4#8]) = some (.length, 2) ∧ caught (frame 1#8 18#8 8#8 16#8) = some (.field, 7) ∧
      caught (frame 1#8 18#8 7#8 16#8) = some (.field, 8) ∧
      ended 3#8 = true ∧ ended 65#8 = true ∧ ended 4#8 = false ∧ ended 64#8 = false := by decide +kernel

theorem witness_ThePortTransmitterSendsTheFrontReply :
    let r : StampReply := .refused 1#32 1 .portClosed
    let s := withPort locked 2 { replies := [r] }
    ((after (.portTransmitStart 2) s).port 2).tx = some r ∧
      ((after (.portReplySent 2) (withPort locked 2 { tx := some r })).port 2).counters.sent = 1 ∧
    (let s := withPort locked 2
      { replies := List.replicate 16 r, requests := [{ waitingRequest with status := .refusing .portClosed }] }
     ((after (.portTransmitStart 2) s).port 2).requests = [] ∧
       ((after (.portTransmitStart 2) s).port 2).replies.getLast? = some (.refused 9#32 1 .portClosed)) ∧
    -- A reply sent frees a place for a refusal, and the second entry waits for the next.
    (let e (tag : BitVec 32) : StampRequest := { waitingRequest with tag := tag, status := .refusing .portFaulted }
     let t := after (.portReplySent 2)
       (withPort locked 2 { tx := some r, replies := List.replicate 16 r, requests := [e 8#32, e 9#32] })
     (t.port 2).tx = some r ∧ (t.port 2).requests = [e 9#32] ∧ (t.port 2).counters.portFaulted = 1 ∧
       (t.port 2).replies.getLast? = some (.refused 8#32 1 .portFaulted)) ∧
    -- A drain ends at a transmit start.
    (let s := withPort { locked with clu := { enables := {} } } 2
       { state := .draining, score := 9, grantsSinceOpen := 5, replies := [r] }
     let t := after (.portTransmitStart 2) s
     t.port 2 = { tx := some r, grantsSinceOpen := 5 } ∧
       t.aj.pool.getLast?.map Record.body = some (.admin 4000000500 (.portClosed 2 .draining 5)) ∧
       t.clu.notices.map ControlFrame.kind = [0x65#8] ∧
       (after (.portReplySent 2) (withPort locked 2 { state := .draining, tx := some r })).port 2 =
         { counters := { sent := 1 } }) := by decide +kernel

theorem witness_PortRequests :
    let ask (c : Instr) (kind : Nat) (i : Byte) (s : State) := after c (asked s kind [i])
    let s (x : Port) := withPort locked 7 x
    (asked locked 0x0F [8#8]).CanTake 0x0F (req 0x0F [8#8]) ∧ lastReply (ask .portOpen 0x0F 8#8 locked) = some [4#8] ∧
      ((ask .portOpen 0x0F 7#8 locked).port 7).state = .opened ∧
      ((ask .portOpen 0x0F 7#8 (s { state := .faulted, score := 64 })).port 7).score = 0 ∧
      lastReply (ask .portOpen 0x0F 7#8 (s { state := .draining, requests := [waitingRequest] })) = some [5#8] ∧
      lastReply (ask .portOpen 0x0F 7#8 State.reset) = some [8#8] ∧
      lastReply (ask .portOpen 0x0F 7#8 { locked with sa := { exhausted := true } }) = some [11#8] ∧
      ((ask .portClose 0x10 7#8 (s { state := .opened })).port 7).state = .closed ∧
      ((ask .portClose 0x10 7#8 (s { state := .opened, requests := [waitingRequest] })).port 7).state = .draining ∧
      lastReply (ask .portClose 0x10 7#8 (s {})) = some [0#8] ∧
      ((ask .statusPort 0x05 7#8 (s { capture := some ⟨.check, 17, 1, .closed, 3⟩ })).port 7).capture = none := by
  decide +kernel

/-- `locked` with a request at the front of a port's queue, the rotation pointer at port 0. -/
def toGrant (st : PortState) : State := withPort locked 2 { state := st, requests := [waitingRequest] }

theorem witness_AGrantStampsTheFrontRequest :
    let s := (toGrant .draining).setGroup 4 (groupAt .call 4000000500 9000000000 9005000000)
    s.sa.exhausted = false ∧ s.sa.seq < max64 ∧ s.du.records = [] ∧ s.gs.records = [] ∧ s.clu.markers = [] ∧
      (∀ j : Fin 8, j < 2 - s.sa.rotation → (s.port (s.sa.rotation + j)).serviceRequest = none) ∧
      (s.port 2).requests = waitingRequest :: [] ∧ (s.port 2).replies.length < 16 ∧
      (after .stampGrant s).sa.seq = 1 ∧ (after .stampGrant s).sa.rotation = 3 ∧
      ((after .stampGrant s).port 2).state = .closed ∧ ((after .stampGrant s).group 4).lastSeq = some 1 ∧
      ((after .stampGrant s).port 2).replies =
        [.stamped 9#32 1 1 4000000500 500 false .call ⟨.unset, false, false⟩ 37 .recorded] ∧
      ((after .stampGrant (toGrant .opened)).port 2).state = .opened := by decide +kernel

theorem witness_InternalRecordsReachTheJournal :
    let r : ClockRecord := ⟨.leapAnnounced false .a 3, .locked, none⟩
    let m : Marker := ⟨[0x41#8], false⟩
    let s := { locked with du := { locked.du with records := [r] } }
    let marked := { locked with clu := { queue := [{ req 0x19 [0x41#8] with status := .inService }], markers := [m] } }
    (after .internalGrant s).sa.duGrants = 1 ∧ (after .internalGrant s).aj.stored.clock = 1 ∧
      (after .unsequencedHandoff { s with sa := { exhausted := true } }).sa.seq = 0 ∧
      (after .unsequencedHandoff { s with sa := { exhausted := true } }).aj.stored.clock = 1 ∧
      (after .internalGrant marked).aj.stored.marker = 1 ∧ (after .internalGrant marked).clu.replies.length = 1 ∧
    (let g := { locked with gs := { locked.gs with records := [(groupAt .call 1 2 3).record 0 .callStart 1 2] } }
     g.du.records = [] ∧ (after .internalGrant g).sa.gsGrants = 1 ∧ (after .internalGrant g).aj.stored.auction = 1) := by
  decide +kernel

theorem witness_TheLastSequenceNumberExhaustsTheEpoch :
    let s := { toGrant .opened with sa := { seq := max64, granted := max64, recorded := max64 } }
    s.sa.seq = 18446744073709551615 ∧ s.internalHeld = false ∧ s.portToServe.isSome = true ∧
      (after .stampGrant s).sa.exhausted = true ∧ ((after .stampGrant s).port 2).state = .closed ∧
    (let s := { s with du := { s.du with records := [⟨.leapAnnounced false .a 3, .locked, none⟩] } }
     s.nextInternal.isSome = true ∧ (after .internalGrant s).sa.exhausted = true ∧
       (after .internalGrant s).du.records.length = 1) := by decide +kernel

theorem witness_GrantsAreConserved :
    let s := { toGrant .opened with pending := [.stampGrant] }
    s.sa.Conserved ∧ step s = .next (after .stampGrant (toGrant .opened)) ∧
      (after .stampGrant (toGrant .opened)).sa.granted = 1 := ⟨by decide, rfl, by decide +kernel⟩

/-! ### Control link, requests and the Settings Store -/

theorem witness_BytesOutsideAFrameAreCounted :
    (locked.mon .a).state ≠ .disabled ∧ (locked.mon .a).rx = [] ∧ locked.tlu.rx = none ∧ (locked.port 7).rx = [] ∧
      locked.clu.rx = [] ∧ (after (.refByteDiscarded .a 0xD2#8) locked).monA.counters.discarded = 1 ∧
      (after (.twinByteDiscarded 0#8) locked).tlu.counters.discarded = 1 ∧
      ((after (.portByteDiscarded 7 0#8) locked).port 7).counters.discarded = 1 ∧
      (after (.controlByteDiscarded 0#8) locked).clu.counters.discarded = 1 ∧
      takeTwinBytes none [0x3C#8, 0x07#8, 0#8] 4000000500 = .bad ∧ takeTwinBytes none [0x3C#8, 0x08#8] 4000000500 = .bad ∧
      (after (.twinBadFrame [0x3C#8, 0x08#8]) locked).tlu.counters.badFrames = 1 ∧
      takeTwinBytes none [0x3C#8, 0x04#8] 4000000500 = .assembling ⟨[0x3C#8, 0x04#8], 4000000500⟩ ∧
      (after (.offerReceived [0x3C#8, 0x04#8]) locked).tlu.rx = some ⟨[0x3C#8, 0x04#8], 4000000500⟩ := by
  decide +kernel

/-- The control frame of a request. -/
def controlFrameOf (kind : Byte) (payload : List Byte) : List Byte :=
  closeFrame ([0xC5#8] ++ leBytes 2 payload.length ++ [kind] ++ leBytes 2 7 ++ payload)

theorem witness_ControlFramesAreQueuedOrRefused :
    let frame := controlFrameOf 0x06#8 [15#8]
    let s (n k : Nat) : State := { locked with
      clu := { queue := List.replicate n (req 1 []), replies := List.replicate k ⟨0x81#8, 7#16, []⟩ } }
    takeControlBytes [] frame = .arrived frame ∧ byteSum frame = 0 ∧
      (after (.controlFrame frame) (s 3 0)).clu.queue.getLast? = some (req 6 [15#8]) ∧
      (after (.controlFrame frame) (s 4 7)).clu.replies.getLast? = some ⟨0x86#8, 7#16, [12#8]⟩ ∧
      (after (.controlFrame frame) (s 4 8)).clu.counters.busyDropped = 1 ∧
      (after (.controlFrame (frame.take 7 ++ [0#8])) locked).clu.counters.badCheck = 1 ∧
      takeControlBytes [] (frame.take 7) = .assembling (frame.take 7) ∧
      takeControlBytes [] [0xC5#8, 0#8, 4#8] = .assembling [0xC5#8, 0#8, 4#8] ∧
      takeControlBytes [] [0xC5#8, 1#8, 4#8] = .badLength ∧
      (after (.controlBadLength [0xC5#8, 1#8, 4#8]) locked).clu.counters.discarded = 3 := by decide +kernel

theorem witness_ControlAnswersAndTransmitter :
    let s (q : ControlRequest) : State := { locked with clu := { queue := [q] } }
    let f : ControlFrame := ⟨0x81#8, 7#16, []⟩
    lastReply (after .answerBusyReply (s { req 1 [] with status := .answerBusy })) = some [12#8] ∧
      lastReply (after .unknownRequest (s (req 0x1E []))) = some [2#8] ∧
      lastReply (after .unknownRequest (s (req 0x00 []))) = some [2#8] ∧
      lastReply (after .unknownRequest (s (req 0x19 (List.replicate 33 0)))) = some [3#8] ∧
      (after .unknownRequest (s (req 0x19 (List.replicate 32 0)))).clu.queue.length = 1 ∧
      (after .controlTransmitStart { locked with clu := { replies := [f], notices := [f] } }).clu.tx = .reply f ∧
      (after .controlTransmitStart { locked with clu := { notices := [f] } }).clu.tx = .notice f ∧
    (let sending := { locked with clu := { replies := [f], tx := .notice f } }
     sending.clu.tx ≠ .idle ∧ after .controlTransmitStart sending = sending) ∧
      after .controlTransmitStart { locked with clu := {} } = { locked with clu := {} } ∧
      (after .controlFrameSent { locked with clu := { tx := .reply f, notices := [f] } }).clu.tx = .notice f ∧
      (after .controlFrameSent { locked with clu := { tx := .notice f } }).clu.tx = .idle := by decide +kernel

theorem witness_StatusRequestsOnlyAnswer :
    let ok (c : Instr) (kind : Nat) := (lastReply (after c (asked locked kind []))).bind List.head? = some 0#8
    (asked locked 0x02 []).CanTake 0x02 (req 0x02 []) ∧ ok .identify 0x01 ∧ ok .statusClock 0x02 ∧ ok .statusRef 0x03 ∧
      ok .statusTwin 0x04 ∧ ok .statusJournal 0x07 ∧
      lastReply (after .statusGroup (asked locked 0x06 [16#8])) = some [4#8] ∧
      ((lastReply (after .statusGroup (asked locked 0x06 [15#8]))).bind List.head?) = some 0#8 ∧
    (let x := { groupAt .call 1 2 3 with extensions := [⟨.extend, 1, 2, 3⟩] }
     x.revealed < x.number ∧
       [(⟨.extend, 1, 2, 9⟩ : Extension)].map (fun y => (y.kind, y.time, y.tMin)) =
         x.extensions.map (fun y => (y.kind, y.time, y.tMin))) := by decide +kernel

theorem witness_ServoAndTraceSettingsAreStaged :
    let p := leBytes 2 1001 ++ leBytes 2 250 ++ leBytes 4 9999
    let q := leBytes 2 0 ++ leBytes 4 5000 ++ leBytes 4 2000 ++ leBytes 2 3601
    (asked locked 0x0A p).CanTake 0x0A (req 0x0A p) ∧
      (after .servoConfig (asked locked 0x0A p)).tb.servo = ⟨{}, some ⟨1000, 250, 10000⟩⟩ ∧
      (after .traceConfig (asked locked 0x0B q)).tb.trace = ⟨{}, some ⟨1, 2000, 2000, 3600⟩⟩ := by decide +kernel

theorem witness_RefSelectAndNoticeConfig :
    let ref (r enable preferred : Byte) := [r, enable] ++ leBytes 4 5 ++ leSigned 4 (-100001) ++ [preferred]
    (asked locked 0x09 (ref 2#8 1#8 2#8)).CanTake 0x09 (req 0x09 (ref 2#8 1#8 2#8)) ∧
      lastReply (after .refConfig (asked locked 0x09 (ref 3#8 1#8 2#8))) = some [4#8] ∧
      lastReply (after .refConfig (asked locked 0x09 (ref 2#8 2#8 2#8))) = some [4#8] ∧
      (after .refConfig (asked locked 0x09 (ref 2#8 1#8 2#8))).monB.ceiling = 10 ∧
      (after .refConfig (asked locked 0x09 (ref 2#8 1#8 2#8))).tb.delayB.pending = some (-100000) ∧
      (after .refConfig (asked locked 0x09 (ref 2#8 0#8 1#8))).monB.state = .disabled ∧
      (after .refConfig (asked { locked with monB := { state := .disabled, missingTimer := none } } 0x09
        (ref 2#8 1#8 1#8))).monB.state = .candidate ∧
    (let sel (mask : Nat) := [1#8, 1#8] ++ leBytes 2 4095 ++ leBytes 2 mask ++ [0#8] ++ leBytes 4 0
     readSelectors (sel 4095) 0 = some ⟨.dual, ⟨true, 4095, 4095⟩, ⟨false, 0, 0⟩⟩ ∧
       (after .selectConfig (asked locked 0x1A (sel 4095))).aj.selectors.mode = .dual ∧
       lastReply (after .selectConfig (asked locked 0x1A (sel 4096))) = some [4#8] ∧
       lastReply (after .selectConfig (asked locked 0x1A (2#8 :: List.replicate 10 0))) = some [4#8]) ∧
    (let notice (mode : Byte) := [1#8, 0#8, 1#8, 1#8, 1#8, 1#8, 1#8, mode]
     (after .noticeConfig (asked locked 0x1B (notice 2#8))).clu.tick = .eachSecond ∧
       (after .noticeConfig (asked locked 0x1B (notice 2#8))).clu.enables.ref = false ∧
       lastReply (after .noticeConfig (asked locked 0x1B (notice 3#8))) = some [4#8]) := by decide +kernel

/-- The reply and the CONFIG_CHANGE record of REF_CONFIG, of values as taken: clamped, and as sent. -/
theorem witness_RefSelectAndNoticeConfig_record :
    let t (ceiling : Nat) (delay : Int) :=
      after .refConfig (asked locked 0x09 ([2#8, 1#8] ++ leBytes 4 ceiling ++ leSigned 4 delay ++ [1#8]))
    lastReply (t 5 (-100001)) = some ([1#8, 1#8] ++ leBytes 4 10 ++ leSigned 4 (-100000) ++ [1#8, 1#8]) ∧
      (t 5 (-100001)).aj.pool.getLast?.map Record.body = some (.admin 4000000500 (.configChange 0x09#8 true true
        ([2#8, 1#8] ++ leBytes 4 10 ++ leSigned 4 (-100000) ++ [1#8]))) ∧
      lastReply (t 77 8) = some ([0#8, 1#8] ++ leBytes 4 77 ++ leSigned 4 8 ++ [1#8, 1#8]) ∧
      (t 77 8).aj.pool.getLast?.map Record.body = some (.admin 4000000500 (.configChange 0x09#8 false true
        ([2#8, 1#8] ++ leBytes 4 77 ++ leSigned 4 8 ++ [1#8]))) := by decide +kernel

theorem witness_ClockSetMovesRawTime :
    let p := leBytes 8 3000000000 ++ leBytes 4 999 ++ [38#8]
    let s (m : Mode) := asked { locked with du := { locked.du with mode := m } } 0x08 p
    (s .unset).CanTake 0x08 (req 0x08 p) ∧ (s .unset).anyPortOpen = false ∧
      lastReply (after .clockSet (s .locked)) = some [5#8] ∧ (after .clockSet (s .holdover)).tb.raw = 3000000000 ∧
      (after .clockSet (s .holdover)).du.anchor = some ⟨1000, 4000000500, .host, false⟩ ∧
      (after .clockSet (s .unset)).du.mode = .holdover ∧ (after .clockSet (s .unset)).tb.utcOffset = 38 ∧
      lastReply (after .clockSet (withPort (s .holdover) 0 { state := .opened })) = some [5#8] := by decide +kernel

/-- The OFFSET_CHANGE and SET records of CLOCK_SET, in DU's list and with one place left, and the SET of a step of 0. -/
theorem witness_ClockSetMovesRawTime_records :
    let p (offset : Byte) := leBytes 8 3000000000 ++ leBytes 4 999 ++ [offset]
    let s (offset : Byte) (n : Nat) : State :=
      asked { locked with du := { locked.du with
        mode := .holdover, records := List.replicate n ⟨.contestedClear .stop none, .locked, none⟩ } } 0x08 (p offset)
    let change : ClockRecord := ⟨.offsetChange 37 38 .host, .holdover, none⟩
    (after .clockSet (s 37#8 0)).du.records =
        [⟨.set 4000000500 3000000000 3000000000 1000 .holdover, .holdover, none⟩] ∧
      (after .clockSet (s 38#8 0)).du.records.head? = some change ∧ (after .clockSet (s 38#8 0)).du.records.length = 2 ∧
      (after .clockSet (s 38#8 31)).du.records.getLast? = some change ∧
      (after .clockSet (s 38#8 31)).aj.lost.clock = 1 ∧ (after .clockSet (s 37#8 31)).aj.lost.clock = 0 ∧
      (after .clockSet { s 37#8 0 with tb := { locked.tb with raw := 3000000000 } }).du.records =
        [⟨.set 3000000000 3000000000 3000000000 1000 .holdover, .holdover, none⟩] := by decide +kernel

/-! ### Groups -/

/-- A GROUP_SCHEDULE payload for group 15 with window 601 s. -/
def scheduleOf (tc tm : Nat) : List Byte := [15#8] ++ leBytes 8 tc ++ leBytes 8 tm ++ leBytes 2 601

/-- Records of an auction waiting in GS's list. -/
def waitingRecords (g : GroupIx) (n : Nat) : List AuctionRecord :=
  List.replicate n ((groupAt .call 1 2 3).record g .extend 1 1)

theorem witness_GroupScheduleOpensAnAuction :
    let s (tc tm : Nat) := asked locked 0x11 (scheduleOf tc tm)
    let busy (n : Nat) := withRecords (s 4000000501 4000000502) (waitingRecords 15 n)
    (s 4000000501 4000000502).CanTake 0x11 (req 0x11 (scheduleOf 4000000501 4000000502)) ∧
      ((after .groupSchedule (s 4000000501 4000000502)).group 15).phase = .scheduled ∧
      ((after .groupSchedule (s 4000000500 4000000501)).group 15).phase = .call ∧
      ((after .groupSchedule (s 4000000500 4000000501)).group 15).window = some 600 ∧
      lastReply (after .groupSchedule (s 4000000500 4000000500)) = some [4#8] ∧
      lastReply (after .groupSchedule (s 4000000499 4000000500)) = some [6#8] ∧
      lastReply (after .groupSchedule (s 0 86404000000501)) = some [4#8] ∧
      ((after .groupSchedule (s 4000000501 86404000000500)).group 15).phase = .scheduled ∧
      lastReply (after .groupSchedule ((s 4000000501 4000000502).setGroup 15 { number := 65535 })) = some [11#8] ∧
      lastReply (after .groupSchedule ((s 4000000501 4000000502).setGroup 15 (groupAt .closed 1 2 3))) = some [5#8] ∧
      lastReply (after .groupSchedule (asked locked 0x11 (16#8 :: List.replicate 18 0))) = some [4#8] ∧
      ((after .groupSchedule (busy 3)).group 15).phase = .scheduled ∧
      lastReply (after .groupSchedule (busy 4)) = some [12#8] ∧
      -- The catch-up comes first: it forms the fourth record, and its effects stay.
      lastReply (after .groupSchedule ((busy 3).setGroup 15 (groupAt .random 1 2 3))) = some [12#8] ∧
      ((after .groupSchedule ((busy 3).setGroup 15 (groupAt .random 1 2 3))).group 15).phase = .closed ∧
      lastReply (after .groupSchedule { s 4000000501 4000000502 with du := {} }) = some [8#8] := by
  decide +kernel

theorem witness_GroupExtendAndResume :
    let p := [3#8] ++ leBytes 2 0
    let s (x : Group) (kind : Nat) := (asked locked kind p).setGroup 3 x
    let entries (n : Nat) : List Extension := List.replicate n ⟨.extend, 1, 2, 3⟩
    let call := groupAt .call 1 9000000000 9000000001
    let susp : Group := { call with phase := .suspended, tEnd := none, cause := some .host }
    let busy (x : Group) (kind n : Nat) := withRecords (s x kind) (waitingRecords 3 n)
    (s call 0x12).CanTake 0x12 (req 0x12 p) ∧ ((after .groupExtend (s call 0x12)).group 3).tMin = some 5000000500 ∧
      ((after .groupExtend (s { call with extensions := entries 3 } 0x12)).group 3).extensions.length = 4 ∧
      lastReply (after .groupExtend (s { call with extensions := entries 4 } 0x12)) = some [7#8] ∧
      lastReply (after .groupExtend (s (groupAt .closed 1 2 3) 0x12)) = some [6#8] ∧
      lastReply (after .groupExtend (s (groupAt .random 1 2 4000000500) 0x12)) = some [6#8] ∧
      lastReply (after .groupExtend (s (groupAt .scheduled 4000000501 4000000502 4000000503) 0x12)) = some [5#8] ∧
      lastReply (after .groupExtend (busy call 0x12 3)) = some ([1#8] ++ leBytes 2 3 ++ leBytes 8 5000000500 ++ [1#8]) ∧
      lastReply (after .groupExtend (busy call 0x12 4)) = some [12#8] ∧
      lastReply (after .groupExtend (busy (groupAt .call 1 2 9000000000) 0x12 3)) = some [12#8] ∧
      lastReply (after .groupResume (busy susp 0x14 4)) = some [12#8] ∧
      lastReply (after .groupExtend (asked locked 0x12 ([16#8] ++ leBytes 2 0))) = some [4#8] ∧
      ((after .groupResume (s susp 0x14)).group 3).phase = .call ∧ lastReply (after .groupResume (s call 0x14)) = some [5#8] ∧
      lastReply (after .groupResume (s { susp with extensions := entries 4 } 0x14)) = some [7#8] ∧
      lastReply (after .groupResume { s susp 0x14 with du := { locked.du with trace := .untraceable } }) = some [9#8] := by
  decide +kernel

theorem witness_GroupSuspendAbandonAndClear :
    let s (x : Group) (kind : Nat) := (asked locked kind [0#8]).setGroup 0 x
    let busy (x : Group) (kind n : Nat) := withRecords (s x kind) (waitingRecords 0 n)
    let call := groupAt .call 1 9000000000 9000000001
    let soon := groupAt .scheduled 9000000000 9000000001 9000000002
    (s call 0x13).CanTake 0x13 (req 0x13 [0#8]) ∧ ((after .groupSuspend (s call 0x13)).group 0).phase = .suspended ∧
      (after .groupSuspend (s call 0x13)).clu.notices.length = locked.clu.notices.length + 1 ∧
      lastReply (after .groupSuspend (s soon 0x13)) = some [5#8] ∧
      lastReply (after .groupSuspend (s (groupAt .closed 1 2 3) 0x13)) = some [6#8] ∧
      lastReply (after .groupSuspend (busy call 0x13 4)) = some [12#8] ∧
      ((after .groupAbandon (s soon 0x15)).group 0).phase = .abandoned ∧
      ((after .groupAbandon (s soon 0x15)).group 0).revealed = 3 ∧
      lastReply (after .groupAbandon (s {} 0x15)) = some [5#8] ∧
      lastReply (after .groupAbandon (s (groupAt .closed 1 2 3) 0x15)) = some [6#8] ∧
      lastReply (after .groupAbandon (busy call 0x15 4)) = some [12#8] ∧
      lastReply (after .groupClear (s call 0x16)) = some [5#8] ∧ lastReply (after .groupClear (s {} 0x16)) = some [0#8] ∧
      (after .groupClear (s soon 0x16)).group 0 = { number := 3, revealed := 3 } ∧
      (after .groupClear (s { groupAt .closed 1 2 3 with revealed := 3 } 0x16)).group 0 = { number := 3, revealed := 3 } ∧
      lastReply (after .groupClear (busy soon 0x16 4)) = some [12#8] ∧
      -- A SCHEDULED group whose Tc has passed is caught up to CALL first, and refused WRONG_STATE.
      lastReply (after .groupClear (busy (groupAt .scheduled 1 9000000001 9000000002) 0x16 4)) = some [5#8] ∧
      lastReply (after .groupClear (asked locked 0x16 [16#8])) = some [4#8] := by decide +kernel

/-! ### Audit Journal, Settings Store and RESTART -/

/-- A stamp of port 2, class TRADE, group 4 in a phase. -/
def stampIn (phase : EffPhase) : Body :=
  .stamp 1 4000000500 ⟨2, .trade, 4, 77#64, 9#32, false, phase, ⟨.traceable, false, false⟩, 500⟩

theorem witness_ARecordIsStoredLostOrPassedOver :
    let j (used code mask : Nat) : State := { locked with
      aj := { used := used, selectors := { first := ⟨true, code, mask⟩ } } }
    let stored (x : State) (b : Body) := (State.submit x b).aj.pool.length = 1
    let lossNotices (x : State) (b : Body) := (State.submit x b).clu.notices.length - x.clu.notices.length
    stored (j 0 0x432 0xFFF) (stampIn .continuous) ∧ stored (j 30672 0 0) (stampIn .call) ∧
      (State.submit (j 0 0x433 0xFFF) (stampIn .continuous)).aj.notSelected = 1 ∧
      stored (j 0 0x433 0xFFF) (stampIn .call) ∧ stored (j 0 0x433 0xFFE) (stampIn .abandoned) ∧
      (State.submit (j 30673 0 0) (stampIn .call)).aj.tally = ⟨1, 0, some ⟨1, 1⟩⟩ ∧
      lossNotices (j 30673 0 0) (stampIn .call) = 1 ∧
      lossNotices { locked with aj := { used := 30673, tally := ⟨0, 1, none⟩ } } (stampIn .call) = 0 ∧
      stored (j 32700 0 0) (.admin 5 .restart) ∧ ¬ stored (j 32701 0 0) (.admin 5 .restart) ∧
      (State.submit { locked with aj := { next := none } } (.admin 5 .restart)).aj.lost.admin = 1 ∧
    -- The level notices: 16,384 and 24,576 bytes used.
    (let codes (used : Nat) (l50 l75 : LevelState) : List (List Byte) :=
       let s : State := { locked with aj := { used := used, level50 := l50, level75 := l75 }, clu := { enables := {} } }
       (s.submit (.admin 5 .restart)).clu.notices.map fun f => (f.payload.drop 5).take 1
     codes 16343 .armed .armed = [] ∧ codes 16344 .armed .armed = [[1#8]] ∧ codes 16344 .fired .armed = [] ∧
       codes 16384 .armed .armed = [] ∧ codes 24535 .fired .armed = [] ∧ codes 24536 .fired .armed = [[2#8]]) ∧
    -- The last journal number.
    (let t := State.submit { locked with aj := { next := some 4294967295 } } (.admin 5 .restart)
     t.aj.next = none ∧ t.aj.newest = 4294967295) := by
  decide +kernel

theorem witness_JournalRequests :
    let read (start count : Nat) (s : State) := (lastReply (after .journalRead
      (asked s 0x17 (leBytes 4 start ++ leBytes 1 count)))).map fun b => (b.take 1, b.length)
    let release (n : Nat) (s : State) := (after .journalRelease (asked s 0x18 (leBytes 4 n))).aj
    let empty : State := { locked with aj := { next := some 5, tally := ⟨1, 0, some ⟨9, 9⟩⟩ } }
    (asked locked 0x17 (leBytes 4 1 ++ [1#8])).CanTake 0x17 (req 0x17 (leBytes 4 1 ++ [1#8])) ∧
      read 1 1 locked = some ([0#8], 52) ∧ read 1 65 locked = some ([1#8], 52) ∧ read 0 1 locked = some ([10#8], 12) ∧
      read 2 1 locked = some ([0#8], 12) ∧ read 4 1 empty = some ([10#8], 12) ∧ read 5 1 empty = some ([0#8], 12) ∧
      (release 1 locked).pool = [] ∧ (release 0 locked).pool.length = 1 ∧ (release 4 empty).stored.gap = 1 ∧
      (release 4 { empty with aj := { empty.aj with next := none } }).gapDeferred = 1 ∧
      (release 1 { locked with aj := { locked.aj with level50 := .fired } }).level50 = .armed ∧
      (after .journalMark (asked locked 0x19 [0x1F#8, 0x41#8])).clu.markers = [⟨[0x3F#8, 0x41#8], true⟩] := by
  decide +kernel

/-- A journal of markers of these record lengths, numbered from `n`, its level notices fired. -/
def markersFrom (n : Nat) (sizes : List Nat) : Journal :=
  { pool := sizes.mapIdx fun i z => ⟨n + i, 0, .marker none 0 (List.replicate (z - 29) 0x41#8)⟩
    used := sizes.sum
    next := some (n + sizes.length)
    level50 := .fired
    level75 := .fired }

/-- The payload of a reply to a JOURNAL_READ. -/
def readReply (start count : Nat) (s : State) : List Byte :=
  (lastReply (after .journalRead (asked s 0x17 (leBytes 4 start ++ leBytes 1 count)))).getD []

/-- The example of R151: of 22 held stamps from 8,001 a READ of 64 returns 21, in 1,008 bytes. -/
theorem witness_JournalRequests_read :
    let s : State := { locked with
      aj := { pool := (List.range 22).map fun i => ⟨8001 + i, 0, stampIn .call⟩, used := 1056, next := some 8023 } }
    s.aj.Wf ∧ s.RecordsFit ∧ (readReply 8001 64 s).length = 12 + 1008 ∧
      ((readReply 8001 64 s).take 12).drop 11 = [21#8] ∧ (readReply 8022 64 s).length = 12 + 48 ∧
      (readReply 8003 2 s).length = 12 + 96 ∧ (readReply 8003 0 s).take 1 = [1#8] ∧
      (readReply 8003 0 s).length = 12 + 48 ∧ (readReply 8023 5 s).length = 12 ∧ (readReply 8000 5 s).take 1 = [10#8] := by
  refine ⟨⟨by decide +kernel, by decide, by decide +kernel, ?_, by decide +kernel⟩, by decide +kernel, by decide +kernel⟩
  intro n h; cases h; decide

/-- R157: the re-arming levels are 13,107 and 21,299 bytes used, one byte more leaves a level notice fired; and a GAP
record that takes the used bytes to 16,384 fires the first again. -/
theorem witness_JournalRequests_release :
    let run (sizes : List Nat) (j : Journal → Journal) (n : Nat) :=
      after .journalRelease (asked { locked with aj := j (markersFrom 4 sizes), clu := { enables := {} } } 0x18 (leBytes 4 n))
    let levels (sizes : List Nat) :=
      let j := (run (61 :: sizes) id 4).aj
      (j.used, j.level50, j.level75)
    let lossy (j : Journal) : Journal := { j with tally := ⟨2, 0, some ⟨7, 8⟩⟩ }
    let reply (s : State) := (lastReply s).getD []
    levels (List.replicate 214 61 ++ [53]) = (13107, .armed, .armed) ∧
      levels (List.replicate 214 61 ++ [54]) = (13108, .fired, .armed) ∧
      levels (List.replicate 348 61 ++ [35, 36]) = (21299, .fired, .armed) ∧
      levels (List.replicate 348 61 ++ [35, 37]) = (21300, .fired, .fired) ∧
    -- A GAP record, stored and chained.
    (let t := run [40, 50] lossy 4
     t.aj.pool.map Record.number = [5, 6] ∧ t.aj.next = some 7 ∧ t.aj.tally = ⟨0, 0, none⟩ ∧
       t.aj.chain = crc32 (recordBytes 6 0 false (.gap ⟨2, 0, some ⟨7, 8⟩⟩)) ∧
       reply t = [0#8, 1#8] ++ leBytes 4 1 ++ leBytes 4 40 ++ leBytes 4 5 ++ [2#8] ++ leBytes 4 6 ∧
       reply (run [40, 50] lossy 99) =
         [1#8, 1#8] ++ leBytes 4 2 ++ leBytes 4 90 ++ leBytes 4 6 ++ [2#8] ++ leBytes 4 6) ∧
    (let t := run (List.replicate 268 61) (fun j => { lossy j with level50 := .armed }) 3
     t.aj.used = 16384 ∧ t.aj.level50 = .fired ∧ t.clu.notices.map ControlFrame.kind = [0x64#8]) ∧
    -- Deferred: the journal numbers are exhausted.
    (let t := run [40, 50] (fun j => { lossy j with next := none }) 4
     t.aj.gapDeferred = 1 ∧ t.aj.tally.stamps = 2 ∧ t.clu.notices.map (fun f => (f.payload.drop 5).take 1) = [[4#8]] ∧
       reply t = [0#8, 0#8] ++ leBytes 4 1 ++ leBytes 4 40 ++ leBytes 4 5 ++ [3#8] ++ leBytes 4 0) := by
  decide +kernel

theorem witness_JournalRequests_release_form (sizes : List Nat)
    (h : sizes = [40, 50] ∨ sizes = 61 :: List.replicate 214 61 ++ [54] ∨ sizes = 61 :: List.replicate 348 61 ++ [35, 37]) :
    (markersFrom 4 sizes).Wf := by
  refine ⟨?_, ?_, ?_, ?_, ?_⟩
  · obtain rfl | rfl | rfl := h <;> decide +kernel
  · obtain rfl | rfl | rfl := h <;> decide +kernel
  · obtain rfl | rfl | rfl := h <;> decide +kernel
  · intro n hn
    have hl : sizes.length ≤ 400 := by obtain rfl | rfl | rfl := h <;> decide +kernel
    simp only [markersFrom, Option.some.injEq] at hn
    simp only [max32]
    omega
  · obtain rfl | rfl | rfl := h <;> decide +kernel

theorem witness_JournalRelease_form : locked.aj.Wf := by
  refine ⟨by decide, by decide, by decide, ?_, by decide⟩
  intro n h; cases h; decide

theorem witness_SettingsAreSaved :
    let x := { asked locked 0x1C [] with tb := { locked.tb with trace := ⟨{}, some {}⟩ } }
    let s := after .settingsSave x
    let copy := (s.ss.save.map Save.copy).getD []
    x.CanTake 0x1C (req 0x1C []) ∧ copy.length = 73 ∧
      s.clu.queue = { req 0x1C [] with status := .inService } :: [] ∧
      lastReply (after (.settingsSaveComplete copy) s) = some [0#8, 1#8, 4#8, 0#8, 1#8, 0#8, 0#8] ∧
      (after (.settingsSaveComplete copy) s).ss.profile = copy ∧
      lastReply (after (.settingsSaveComplete (List.replicate 73 0)) s) = some [0#8, 2#8, 4#8, 0#8, 1#8, 0#8, 0#8] ∧
      (loadProfile copy).isSome = true ∧ (loadProfile copy).map Settings.servo = some locked.tb.servo.active := by
  decide +kernel

theorem witness_RestartClosesPortsAndAuctions :
    let x := ((toGrant .opened).setGroup 2 (groupAt .call 1 9000000000 9000000001)).setGroup 6 (groupAt .random 1 2 3)
    let s := asked x 0x1D []
    s.CanTake 0x1D (req 0x1D []) ∧ ((after .restart s).port 2).state = .closed ∧
      ((after .restart s).port 2).replies.length = 1 ∧ (after .restart s).group 2 = { number := 3, revealed := 3 } ∧
      (after .restart s).du = s.du ∧ (after .restart s).tb = s.tb ∧
      -- Every group is caught up before any is abandoned (R138).
      (after .restart s).gs.records.map (fun r => (r.group, r.step)) = [(6, .close), (2, .abandon)] ∧
      lastReply (after .restart s) = some [0#8, 1#8, 1#8, 1#8, 1#8, 1#8, 1#8, 1#8, 1#8, 1#8, 1#8, 1#8] := by
  decide +kernel

theorem witness_ANoticeIsFormedOrDropped :
    let s (e : Enables) (n : Nat) : State := { locked with
      clu := { enables := e, notices := List.replicate n ⟨0x60#8, 0#16, []⟩, noticesLost := 3 } }
    (s { ref := false } 0).notice .ref [fx 1 9] = s { ref := false } 0 ∧
      ((s {} 15).notice .ref [fx 1 9]).clu.notices.getLast? = some ⟨0x61#8, 0#16, leBytes 4 3 ++ [9#8]⟩ ∧
      ((s {} 15).notice .ref [fx 1 9]).clu.notices.length = 16 ∧
      ((s {} 16).notice .ref [fx 1 9]).clu.notices.length = 16 ∧
      ((s {} 16).notice .ref [fx 1 9]).clu.noticesLost = 4 := by decide +kernel

/-! ### Invariants -/

theorem witness_TheJournalPoolKeepsItsForm :
    let s := { toGrant .opened with pending := [.stampGrant] }
    s.aj.Wf ∧ s.RecordsFit ∧ step s = .next (after .stampGrant (toGrant .opened)) ∧
      (after .stampGrant (toGrant .opened)).aj.pool.length = 2 :=
  ⟨witness_JournalRelease_form, by decide +kernel, rfl, by decide +kernel⟩

theorem witness_MonitorsAndPortsKeepTheirRanges :
    let s := { toGrant .draining with monA := pendingA, pending := [.stampGrant] }
    (s.mon .a).Wf ∧ (s.mon .b).Wf ∧ (∀ p, (s.port p).Wf) ∧
      step s = .next (after .stampGrant { toGrant .draining with monA := pendingA }) :=
  ⟨by decide +kernel, by decide +kernel, by decide +kernel, rfl⟩

theorem witness_DisciplineTwinGroupsAndControlKeepTheirForm :
    let x := (attached .measuring).setGroup 4 (groupAt .call 1 9000000000 9000000001)
    let s := { x with pending := [.closeExpiry] }
    (∀ r, (s.mon r).Wf) ∧ s.DisciplineWf ∧ s.TwinWf ∧ (∀ g, (s.group g).Wf) ∧ s.clu.Wf ∧
      step s = .next (after .closeExpiry x) := by
  refine ⟨?_, ⟨?_, by decide +kernel⟩, by decide +kernel, by decide +kernel, by decide +kernel, rfl⟩
  · intro r; cases r <;> decide +kernel
  · intro r h; cases h; rfl

end Sys2Proof.Tests
end

section
/-! R2: the rate word. Rounded division is within half a unit of the quotient; the increment word inherits that, and the
clamp keeps it within the range of Table 1-1. -/

namespace Sys2Proof.Machine

/-- Division rounded to nearest misses the exact quotient by at most one half (5.4), in units of `1 / (2 * d)`. -/
theorem divRound_nearest (n : Int) {d : Nat} (hd : 0 < d) : (2 * (divRound n d * d) - 2 * n).natAbs ≤ d := by
  have hdiv := Nat.div_add_mod (2 * n.natAbs + d) (2 * d)
  have hmod := Nat.mod_lt (2 * n.natAbs + d) (Nat.mul_pos Nat.two_pos hd)
  unfold divRound
  generalize (2 * n.natAbs + d) / (2 * d) = q at hdiv ⊢
  rw [Nat.mul_assoc, Nat.mul_comm d q] at hdiv
  have hcast : ((q * d : Nat) : Int) = (q : Int) * d := Nat.cast_mul q d
  by_cases hn : n < 0
  · simp only [if_pos hn, Int.neg_mul, ← hcast]
    omega
  · simp only [if_neg hn, ← hcast]
    omega

theorem clampRate_bounds (r : Int) : -200000000 ≤ clampRate r ∧ clampRate r ≤ 200000000 := by
  unfold clampRate clampInt
  omega

/-- Equation 1 of R2: Δ is the nearest whole number to `r * 2^35 / 10^12`. -/
theorem rateDelta_nearest (r : Int) :
    (2 * rateDelta r * 1000000000000 - 2 * r * 34359738368).natAbs ≤ 1000000000000 := by
  have h := divRound_nearest (r * 34359738368) (d := 1000000000000) (by decide)
  rw [rateDelta, Int.mul_assoc, Int.mul_assoc]
  exact h

/-- At the ends of the rate range the exact Δ is ±6,871,947.6736. -/
theorem rateDelta_bounds {r : Int} (hlo : -200000000 ≤ r) (hhi : r ≤ 200000000) :
    -6871948 ≤ rateDelta r ∧ rateDelta r ≤ 6871948 := by
  have h := rateDelta_nearest r
  omega

@[simp] theorem State.presentRate_tb_rate (s : State) (r : Int) : (s.presentRate r).tb.rate = clampRate r := rfl

/-- Equation 2 of R2: no increment word is cut off at 0. -/
theorem State.presentRate_tb_inc (s : State) (r : Int) :
    ((s.presentRate r).tb.inc : Int) = 34359738368 + rateDelta (clampRate r) := by
  obtain ⟨hlo, hhi⟩ := clampRate_bounds r
  have hdelta := rateDelta_bounds hlo hhi
  exact Int.toNat_of_nonneg (by omega)

theorem State.presentRate_tb_frame (s : State) (r : Int) :
    (s.presentRate r).tb = { s.tb with rate := (s.presentRate r).tb.rate, inc := (s.presentRate r).tb.inc } := rfl

/-- Settles O7: the increment word is 2³⁵ + Δ, so its distance and its range are those of Δ. -/
theorem rateWordFormsTheIncrement : Obligations.RateWordFormsTheIncrement := by
  intro s r
  obtain ⟨hlo, hhi⟩ := clampRate_bounds r
  have hdelta := rateDelta_bounds hlo hhi
  have hinc := s.presentRate_tb_inc r
  refine ⟨s.presentRate_same r, s.presentRate_tb_frame r, rfl, ?_, by omega, by omega⟩
  rw [hinc, State.presentRate_tb_rate, add_sub_cancel_left]
  exact rateDelta_nearest (clampRate r)

end Sys2Proof.Machine
end

section
/-! R28 to R31: the fault score and the qualification state. A closed mark takes one of five steps (DISABLED, good, bad,
exclusion, recovery); each step's score and runs are read off, and its state is the one its new score calls for. -/

namespace Sys2Proof.Machine

/-! ### The state a score calls for (R29, R30) -/

theorem stateOfScore_of_lt {n : Nat} (h : n < 32) : stateOfScore n = .qualified := if_pos h

theorem stateOfScore_of_le {n : Nat} (h : 32 ≤ n) : stateOfScore n = .watch := if_neg (Nat.not_lt.mpr h)

/-- Saturation of the good run does not hide the 16th good mark. -/
theorem qualifyRun_le_bump {n : Nat} : qualifyRun ≤ bump n ↔ 16 ≤ n + 1 := by
  simp only [qualifyRun, bump, sat32, max32]
  omega

namespace Monitor

variable {m : Monitor}

/-! ### Which step a closed mark takes -/

/-- The states in which a closed mark steps the fault score (R28). -/
def Scored (m : Monitor) : Prop := m.state = .candidate ∨ m.state = .qualified ∨ m.state = .watch

theorem step_none_of_scored (h : m.Scored) : m.step none = m.goodStep := by
  obtain h | h | h := h <;> simp only [step, h]

theorem step_some_of_lt (h : m.Scored) (x : Reason) (hlt : m.score + 8 < 96) : m.step (some x) = m.badStep := by
  have hkeep : ¬ excludeScore ≤ m.score + 8 := Nat.not_le.mpr hlt
  obtain h | h | h := h <;> simp only [step, h, if_neg hkeep]

theorem step_some_of_le (h : m.Scored) (x : Reason) (hle : 96 ≤ m.score + 8) : m.step (some x) = m.exclude := by
  have hexclude : excludeScore ≤ m.score + 8 := hle
  obtain h | h | h := h <;> simp only [step, h, if_pos hexclude]

theorem step_of_excluded (h : m.state = .excluded) (reason : Option Reason) :
    m.step reason = m.recoveryStep reason.isNone := by
  simp only [step, h]

/-! ### The good step and the bad step -/

@[simp] theorem goodStep_score : m.goodStep.score = m.score - 1 := rfl

@[simp] theorem goodStep_goodRun : m.goodStep.goodRun = min 4294967295 (m.goodRun + 1) := Nat.min_comm _ _

@[simp] theorem badStep_score : m.badStep.score = m.score + 8 := rfl

@[simp] theorem badStep_goodRun : m.badStep.goodRun = 0 := rfl

theorem goodStep_state_of_candidate (h : m.state = .candidate) :
    m.goodStep.state = if 16 ≤ m.goodRun + 1 then stateOfScore (m.score - 1) else .candidate := by
  simp only [goodStep, h, qualifyRun_le_bump]

theorem goodStep_state_of_qualified (h : m.state = .qualified) : m.goodStep.state = .qualified := by
  simp only [goodStep, h]

theorem goodStep_state_of_watch (h : m.state = .watch) : m.goodStep.state = stateOfScore (m.score - 1) := by
  simp only [goodStep, h]

theorem badStep_state_of_candidate (h : m.state = .candidate) : m.badStep.state = .candidate := by
  simp only [badStep, h]

theorem badStep_state_of_qualified (h : m.state = .qualified) : m.badStep.state = stateOfScore (m.score + 8) := by
  simp only [badStep, h]

theorem badStep_state_of_watch (h : m.state = .watch) : m.badStep.state = .watch := by
  simp only [badStep, h]

/-! ### Recovery from EXCLUDED (R31) -/

theorem recoveryStep_false : m.recoveryStep false = { m with recoveryRun := 0 } := rfl

theorem recoveryStep_true_of_lt (h : m.recoveryRun + 1 < 60) :
    m.recoveryStep true = { m with recoveryRun := m.recoveryRun + 1 } :=
  if_neg (Nat.not_le.mpr h)

theorem recoveryStep_true_of_le (h : 60 ≤ m.recoveryRun + 1) :
    m.recoveryStep true = { m with state := .qualified, score := 0, goodRun := 0, recoveryRun := 0 } :=
  if_pos h

/-! ### What a closed mark does, state by state -/

/-- R28: the score and the good run, and exclusion at a score of 96. -/
theorem step_score_and_runs (h : m.Scored) (x : Reason) :
    (m.step none).score = m.score - 1 ∧ (m.step none).goodRun = min 4294967295 (m.goodRun + 1) ∧
      (m.score + 8 < 96 → (m.step (some x)).score = m.score + 8 ∧ (m.step (some x)).goodRun = 0) ∧
      (96 ≤ m.score + 8 → m.step (some x) = m.exclude) := by
  rw [step_none_of_scored h]
  refine ⟨goodStep_score, goodStep_goodRun, fun hlt => ?_, step_some_of_le h x⟩
  rw [step_some_of_lt h x hlt]
  exact ⟨badStep_score, badStep_goodRun⟩

/-- R29: CANDIDATE ends at the 16th good mark in a row. -/
theorem step_state_of_candidate (h : m.state = .candidate) (x : Reason) :
    (m.goodRun + 1 < 16 → (m.step none).state = .candidate) ∧
      (16 ≤ m.goodRun + 1 → m.score - 1 < 32 → (m.step none).state = .qualified) ∧
      (16 ≤ m.goodRun + 1 → 32 ≤ m.score - 1 → (m.step none).state = .watch) ∧
      (m.score + 8 < 96 → (m.step (some x)).state = .candidate) := by
  have hs : m.Scored := .inl h
  rw [step_none_of_scored hs, goodStep_state_of_candidate h]
  refine ⟨fun hrun => if_neg (Nat.not_le.mpr hrun), fun hrun hlt => ?_, fun hrun hle => ?_, fun hlt => ?_⟩
  · rw [if_pos hrun, stateOfScore_of_lt hlt]
  · rw [if_pos hrun, stateOfScore_of_le hle]
  · rw [step_some_of_lt hs x hlt, badStep_state_of_candidate h]

/-- R30: QUALIFIED leaves for WATCH at a score of 32. -/
theorem step_state_of_qualified (h : m.state = .qualified) (x : Reason) :
    (m.step none).state = .qualified ∧ (m.score + 8 < 32 → (m.step (some x)).state = .qualified) ∧
      (32 ≤ m.score + 8 → m.score + 8 < 96 → (m.step (some x)).state = .watch) := by
  have hs : m.Scored := .inr (.inl h)
  rw [step_none_of_scored hs, goodStep_state_of_qualified h]
  refine ⟨rfl, fun hlt => ?_, fun hle hlt => ?_⟩
  · rw [step_some_of_lt hs x (by omega), badStep_state_of_qualified h, stateOfScore_of_lt hlt]
  · rw [step_some_of_lt hs x hlt, badStep_state_of_qualified h, stateOfScore_of_le hle]

/-- R30: WATCH returns to QUALIFIED at a score below 32. -/
theorem step_state_of_watch (h : m.state = .watch) (x : Reason) :
    (m.score - 1 < 32 → (m.step none).state = .qualified) ∧ (32 ≤ m.score - 1 → (m.step none).state = .watch) ∧
      (m.score + 8 < 96 → (m.step (some x)).state = .watch) := by
  have hs : m.Scored := .inr (.inr h)
  rw [step_none_of_scored hs, goodStep_state_of_watch h]
  refine ⟨stateOfScore_of_lt, stateOfScore_of_le, fun hlt => ?_⟩
  rw [step_some_of_lt hs x hlt, badStep_state_of_watch h]

/-- R31: EXCLUDED counts good marks in a row and ends at the 60th. -/
theorem step_of_excluded_cases (h : m.state = .excluded) (x : Reason) :
    m.step (some x) = { m with recoveryRun := 0 } ∧
      (m.recoveryRun + 1 < 60 → m.step none = { m with recoveryRun := m.recoveryRun + 1 }) ∧
      (60 ≤ m.recoveryRun + 1 →
        m.step none = { m with state := .qualified, score := 0, goodRun := 0, recoveryRun := 0 }) := by
  rw [step_of_excluded h, step_of_excluded h]
  exact ⟨recoveryStep_false, recoveryStep_true_of_lt, recoveryStep_true_of_le⟩

end Monitor

/-- Settles O19, state by state: the scored states share R28, then each state has its own rule. -/
theorem faultScoreAndQualification : Obligations.FaultScoreAndQualification := fun _ x =>
  ⟨fun h => Monitor.step_score_and_runs h x, fun h => Monitor.step_state_of_candidate h x,
    fun h => Monitor.step_state_of_qualified h x, fun h => Monitor.step_state_of_watch h x,
    fun h => Monitor.step_of_excluded_cases h x⟩

end Sys2Proof.Machine
end

section
/-! R63, R66, R67 and R69: what a good twin frame does. Each message has one command that takes it and one action on the
part; an action either finds no use for the frame or, by a fault, ends in DETACHED. -/

namespace Sys2Proof.Machine

/-! ### The command and the action of a message -/

/-- The command that brings a message on the twin link. -/
def TwinMessage.command (bytes : List Byte) : TwinMessage → Instr
  | .offer _ => .offerReceived bytes
  | .accept _ => .acceptReceived bytes
  | .refuse _ _ => .refuseReceived bytes
  | .probe _ => .probeReceived bytes
  | .echo _ _ _ => .echoReceived bytes
  | .status _ => .statusReceived bytes
  | .bye => .byeReceived bytes

/-- What the part does with a message whose start byte came at raw time `t`. -/
def State.onMessage (s : State) (t : Nat) : TwinMessage → State
  | .offer id => s.onOffer id
  | .accept id => s.onAccept id
  | .refuse _ _ => s.onEnding .refused
  | .probe n => s.onProbe n t
  | .echo n t2 t3 => s.onEcho n t2 t3 t
  | .status st => s.onStatus st
  | .bye => s.onEnding .bye

theorem live_of_running {s : State} (h : s.power = .running) (f : State → State) : live s f = .next (f s) := by
  simp only [live, h]

theorem twinArrival_of_good {s : State} {bytes : List Byte} {msg : TwinMessage} {t : Nat}
    (h : takeTwinBytes s.tlu.rx bytes s.tb.raw = .good msg t) (act : TwinMessage → Nat → Option (State → State)) :
    twinArrival bytes act s = (act msg t).elim s fun f => f s.twinReceived := by
  simp only [twinArrival, h]
  cases act msg t <;> rfl

/-- R63: the command of a good frame counts it and acts on its message. -/
theorem exec_command {s : State} {bytes : List Byte} {msg : TwinMessage} {t : Nat} (hp : s.power = .running)
    (h : takeTwinBytes s.tlu.rx bytes s.tb.raw = .good msg t) :
    exec (msg.command bytes) s = .next (s.twinReceived.onMessage t msg) := by
  cases msg <;> exact (live_of_running hp _).trans (congrArg Host.Outcome.next (twinArrival_of_good h _))

/-! ### Messages that find no use (R63, R66, R67, R70, R75) -/

theorem State.onMessage_of_off {s : State} (h : s.tlu.state = .off) (t : Nat) (msg : TwinMessage) :
    s.onMessage t msg = s.twinIgnored := by
  cases msg <;> simp only [onMessage, onOffer, onAccept, onEnding, onProbe, onEcho, onStatus, h,
    TwinState.attached, Bool.false_eq_true, if_false]

theorem State.onEnding_of_detached {s : State} (h : s.tlu.state = .detached) (fault : TwinFault) :
    s.onEnding fault = s.twinIgnored := by
  simp only [onEnding, h]

theorem State.onEcho_of_not_attached {s : State} (h : s.tlu.state.attached = false) (n t2 t3 t4 : Nat) :
    s.onEcho n t2 t3 t4 = s.twinIgnored := by
  simp only [onEcho, h, Bool.false_eq_true, if_false]

theorem State.onStatus_of_not_attached {s : State} (h : s.tlu.state.attached = false) (st : TwinStatus) :
    s.onStatus st = s.twinIgnored := by
  simp only [onStatus, h, Bool.false_eq_true, if_false]

/-- R66: while attached an acceptable ACCEPT is ignored. -/
theorem State.onAccept_of_attached {s : State} (h : s.tlu.state.attached = true) {id : TwinIdentity}
    (hid : s.attachFault id = none) : s.onAccept id = s.twinIgnored := by
  cases hs : s.tlu.state with
  | off | detached | offering =>
    rw [hs] at h
    exact absurd h (by decide)
  | measuring | agreed | disagree => simp only [onAccept, hs, hid]

/-! ### Messages that end in DETACHED (R66, R67) -/

theorem State.attachFault_venue {s : State} {id : TwinIdentity} (h : id.venue ≠ s.tlu.venue) :
    s.attachFault id = some .venue := if_pos h

theorem State.attachFault_loop {s : State} {id : TwinIdentity} (hv : id.venue = s.tlu.venue)
    (hs : id.serial = s.serial.toNat) : s.attachFault id = some .loop := by
  simp only [attachFault, hv, hs, ne_eq, not_true_eq_false, if_false, if_true]

theorem State.attachFault_none {s : State} {id : TwinIdentity} (hv : id.venue = s.tlu.venue)
    (hs : id.serial ≠ s.serial.toNat) : s.attachFault id = none := by
  simp only [attachFault, hv, hs, ne_eq, not_true_eq_false, if_false]

theorem State.onOffer_of_fault {s : State} {id : TwinIdentity} {fault : TwinFault} (h : s.tlu.state ≠ .off)
    (hf : s.attachFault id = some fault) : s.onOffer id = s.rejectTwin fault := by
  cases hs : s.tlu.state with
  | off => exact absurd hs h
  | _ => simp only [onOffer, hs, hf]

theorem State.onAccept_of_fault {s : State} {id : TwinIdentity} {fault : TwinFault} (h : s.tlu.state ≠ .off)
    (hf : s.attachFault id = some fault) : s.onAccept id = s.rejectTwin fault := by
  cases hs : s.tlu.state with
  | off => exact absurd hs h
  | _ => simp only [onAccept, hs, hf]

theorem State.onEnding_of_active {s : State} (ho : s.tlu.state ≠ .off) (hd : s.tlu.state ≠ .detached)
    (fault : TwinFault) : s.onEnding fault = s.enterDetached fault := by
  cases hs : s.tlu.state with
  | off => exact absurd hs ho
  | detached => exact absurd hs hd
  | _ => simp only [onEnding, hs]

/-! ### Entry to DETACHED (R69) -/

/-- R64: the model's `form` is the `joined` of the statements. -/
theorem TwinLink.form_eq_joined (x : TwinLink) (f : TwinFrame) : x.form f = x.joined f := by
  by_cases h : x.transmit.length < 8
  · calc x.form f = { x with transmit := x.transmit ++ [f] } := if_pos h
      _ = x.joined f := by simp only [joined, if_pos h]
  · calc x.form f
      _ = { x with counters := { x.counters with transmitDrops := bump x.counters.transmitDrops } } := if_neg h
      _ = x.joined f := by simp only [joined, if_neg h, bump, sat32, max32, Nat.min_comm]

@[simp] theorem State.withdrawAnchor_tlu (s : State) : s.withdrawAnchor.tlu = { s.tlu with heldOut := none } := by
  unfold withdrawAnchor
  split
  next => rfl
  next h =>
    have hn : s.tlu.heldOut = none := Option.not_isSome_iff_eq_none.mp h
    rw [← hn]

@[simp] theorem State.withdrawAnchor_du (s : State) :
    s.withdrawAnchor.du = if s.tlu.heldOut.isSome then { s.du with assisted := none } else s.du := by
  unfold withdrawAnchor
  split <;> rfl

@[simp] theorem State.withdrawAnchor_tick (s : State) : s.withdrawAnchor.tick = s.tick :=
  s.withdrawAnchor_same .tick (by decide)

@[simp] theorem State.twinChanged_tlu (s : State) (old : TwinState) (cause : TwinCause) (ev : Option Evaluation) :
    (s.twinChanged old cause ev).tlu = s.tlu :=
  s.twinChanged_same old cause ev .tlu (by decide)

@[simp] theorem State.twinChanged_du (s : State) (old : TwinState) (cause : TwinCause) (ev : Option Evaluation) :
    (s.twinChanged old cause ev).du = s.du :=
  s.twinChanged_same old cause ev .du (by decide)

theorem State.enterDetached_tlu (s : State) (fault : TwinFault) :
    (s.enterDetached fault).tlu = { s.tlu with
      state := .detached
      fault := some fault
      heldOut := none
      probes := []
      transmit := s.tlu.transmit.filter fun f => !f.isEcho
      offerTimer := none
      retryTimer := some (s.tick + 1000000000)
      spacingTimer := none
      probeTimer := none
      checkTimer := none
      counters := { s.tlu.counters with detachments := bump s.tlu.counters.detachments } } := by
  simp only [enterDetached, twinChanged_tlu, setTlu_tlu, withdrawAnchor_tlu, withdrawAnchor_tick, retryTicks]

theorem State.enterDetached_du (s : State) (fault : TwinFault) :
    (s.enterDetached fault).du = if s.tlu.heldOut.isSome then { s.du with assisted := none } else s.du := by
  simp only [enterDetached, twinChanged_du, setTlu_du, withdrawAnchor_du]

/-! ### The frame that ends the attempt or the attachment -/

/-- The state with the REFUSE formed that answers an offer refused, and as it is where no answer is due. -/
def State.answering (s : State) (refused : Bool) : State :=
  if refused then s.formTwin (.refuse s.tlu.venue s.serial.toNat) else s

theorem State.answering_same (s : State) (refused : Bool) : s.SameBut (s.answering refused) [.tlu] :=
  State.SameBut.ite (s.formTwin_same _) (State.SameBut.refl s _)

theorem State.answering_tlu (s : State) (refused : Bool) :
    (s.answering refused).tlu = if refused then s.tlu.joined (.refuse s.tlu.venue s.serial.toNat) else s.tlu := by
  cases refused
  · rfl
  · exact s.tlu.form_eq_joined _

theorem State.answering_du (s : State) (refused : Bool) : (s.answering refused).du = s.du :=
  s.answering_same refused .du (by decide)

theorem State.answering_tick (s : State) (refused : Bool) : (s.answering refused).tick = s.tick :=
  s.answering_same refused .tick (by decide)

/-- Counting a frame and answering it do not depend on their order. -/
theorem State.formTwin_twinReceived (s : State) (f : TwinFrame) :
    s.twinReceived.formTwin f = (s.formTwin f).twinReceived := by
  simp only [formTwin, twinReceived, TwinLink.form_eq_joined]
  rfl

theorem State.rejectTwin_twinReceived (s : State) (fault : TwinFault) :
    s.twinReceived.rejectTwin fault = (s.answering true).twinReceived.enterDetached fault :=
  congrArg (State.enterDetached · fault) (s.formTwin_twinReceived _)

/-- R69 after a frame: what TLU and DU hold, and that nothing else but the notices changes. -/
theorem State.enterDetached_answering (s : State) (refused : Bool) (fault : TwinFault) :
    let answered := if refused then s.tlu.joined (.refuse s.tlu.venue s.serial.toNat) else s.tlu
    let t := (s.answering refused).twinReceived.enterDetached fault
    s.SameBut t [.tlu, .du, .clu] ∧
      t.tlu = { answered with
        state := .detached
        fault := some fault
        heldOut := none
        probes := []
        transmit := answered.transmit.filter fun f => !f.isEcho
        offerTimer := none
        retryTimer := some (s.tick + 1000000000)
        spacingTimer := none
        probeTimer := none
        checkTimer := none
        rx := none
        counters := { answered.counters with
          received := bump s.tlu.counters.received
          detachments := bump s.tlu.counters.detachments } } ∧
      t.du = if s.tlu.heldOut.isSome then { s.du with assisted := none } else s.du := by
  refine ⟨?_, ?_, ?_⟩
  · exact (((s.answering_same refused).trans (State.setTlu_same _ _)).mono (by decide)).trans
      (State.enterDetached_same _ fault)
  · rw [enterDetached_tlu]
    simp only [twinReceived, setTlu_tlu, setTlu_tick, answering_tlu, answering_tick]
    cases refused <;> rfl
  · rw [enterDetached_du]
    simp only [twinReceived, setTlu_tlu, setTlu_du, answering_tlu, answering_du]
    cases refused <;> rfl

section
variable {s : State} {bytes : List Byte} {msg : TwinMessage} {t4 : Nat} {fault : TwinFault}

/-- R66: an OFFER or ACCEPT that is not acceptable. -/
theorem exec_command_of_attachFault {id : TwinIdentity} (hp : s.power = .running) (ho : s.tlu.state ≠ .off)
    (hmsg : msg = .offer id ∨ msg = .accept id) (hgood : takeTwinBytes s.tlu.rx bytes s.tb.raw = .good msg t4)
    (hf : s.attachFault id = some fault) :
    exec (msg.command bytes) s = .next ((s.answering true).twinReceived.enterDetached fault) := by
  rw [exec_command hp hgood, ← s.rejectTwin_twinReceived fault]
  congr 1
  obtain rfl | rfl := hmsg
  · exact State.onOffer_of_fault (s := s.twinReceived) ho hf
  · exact State.onAccept_of_fault (s := s.twinReceived) ho hf

/-- R67: a REFUSE or a BYE in OFFERING, MEASURING, AGREED or DISAGREE. -/
theorem exec_command_of_ending (hp : s.power = .running) (ho : s.tlu.state ≠ .off) (hd : s.tlu.state ≠ .detached)
    (hmsg : (∃ v n, msg = .refuse v n) ∧ fault = .refused ∨ msg = .bye ∧ fault = .bye)
    (hgood : takeTwinBytes s.tlu.rx bytes s.tb.raw = .good msg t4) :
    exec (msg.command bytes) s = .next ((s.answering false).twinReceived.enterDetached fault) := by
  rw [exec_command hp hgood]
  congr 1
  obtain ⟨⟨v, n, rfl⟩, rfl⟩ | ⟨rfl, rfl⟩ := hmsg <;> exact State.onEnding_of_active (s := s.twinReceived) ho hd _

/-- The frames that find no use, by the state and the message. -/
theorem onMessage_twinReceived_ignored
    (h : s.tlu.state = .off ∨ s.tlu.state = .detached ∧ (msg = .bye ∨ ∃ v n, msg = .refuse v n) ∨
      s.tlu.state.attached = false ∧ ((∃ n t2 t3, msg = .echo n t2 t3) ∨ ∃ st, msg = .status st) ∨
      s.tlu.state.attached = true ∧ ∃ id, msg = .accept id ∧ id.venue = s.tlu.venue ∧ id.serial ≠ s.serial.toNat) :
    s.twinReceived.onMessage t4 msg = s.twinReceived.twinIgnored := by
  obtain ho | ⟨hd, rfl | ⟨v, n, rfl⟩⟩ | ⟨ha, ⟨n, t2, t3, rfl⟩ | ⟨st, rfl⟩⟩ | ⟨ha, id, rfl, hv, hs⟩ := h
  · exact State.onMessage_of_off (s := s.twinReceived) ho t4 msg
  · exact State.onEnding_of_detached (s := s.twinReceived) hd _
  · exact State.onEnding_of_detached (s := s.twinReceived) hd _
  · exact State.onEcho_of_not_attached (s := s.twinReceived) ha n t2 t3 t4
  · exact State.onStatus_of_not_attached (s := s.twinReceived) ha st
  · exact State.onAccept_of_attached (s := s.twinReceived) ha (State.attachFault_none hv hs)

end

/-- Settles O26: the frame's command ends in DETACHED, by a refusal or by an ending, or finds no use for the frame. -/
theorem refusalsEndTheAttachment : Obligations.RefusalsEndTheAttachment := by
  intro s bytes t4 hp
  refine ⟨fun c fault refused h => ⟨_, ?_, s.enterDetached_answering refused fault⟩, fun c msg hgood hcase hc => ?_⟩
  · obtain ⟨ho, rfl, id, hc, hwhy⟩ | ⟨ho, hd, rfl, hc⟩ := h
    · have hf : s.attachFault id = some fault := by
        obtain ⟨hv, rfl⟩ | ⟨hv, hs, rfl⟩ := hwhy
        · exact State.attachFault_venue hv
        · exact State.attachFault_loop hv hs
      obtain ⟨rfl, hgood⟩ | ⟨rfl, hgood⟩ := hc
      · exact exec_command_of_attachFault hp ho (.inl rfl) hgood hf
      · exact exec_command_of_attachFault hp ho (.inr rfl) hgood hf
    · obtain ⟨rfl, rfl, v, n, hgood⟩ | ⟨rfl, rfl, hgood⟩ := hc
      · exact exec_command_of_ending hp ho hd (.inl ⟨⟨v, n, rfl⟩, rfl⟩) hgood
      · exact exec_command_of_ending hp ho hd (.inr ⟨rfl, rfl⟩) hgood
  · have hcommand : c = msg.command bytes := by
      obtain ⟨rfl, _, rfl⟩ | ⟨rfl, _, rfl⟩ | ⟨rfl, _, _, rfl⟩ | ⟨rfl, rfl⟩ | ⟨rfl, _, _, _, rfl⟩ | ⟨rfl, _, rfl⟩ := hc
        <;> rfl
    rw [hcommand, exec_command hp hgood, onMessage_twinReceived_ignored hcase]
    rfl

end Sys2Proof.Machine
end

section
/-! SUPPORT for chapter 6. What a grant rests on: the dating read, a record handed to AJ (its effect on AJ depends on AJ
alone, and of CLU it changes only the notices), and a port that re-examines a queue without REFUSING entries. -/

namespace Sys2Proof.Machine

/-! ### The head of a grant (R102) -/

@[simp] theorem TimeBase.raised_dating (tb : TimeBase) : tb.raised.dating = tb.dating := by
  simp only [raised, dating, max_eq_right_iff, le_max_left]

theorem State.beginGrant_same (s : State) : s.SameBut s.beginGrant [.tb, .sa] := by
  intro b hb
  cases b with
  | mon r => cases r <;> rfl
  | tb | sa => exact absurd hb (by decide)
  | _ => rfl

theorem State.beginGrant_sa (s : State) :
    s.beginGrant.sa = { s.sa with
      seq := s.sa.seq + 1
      floored := if s.tb.raw < s.tb.hwm then s.sa.floored + 1 else s.sa.floored } := by
  simp only [beginGrant, TimeBase.datingRead, decide_eq_true_eq]

theorem State.setSa_same (s : State) (x : Allocator) : s.SameBut (s.setSa x) [.sa] := by
  intro b hb
  cases b with
  | mon r => cases r <;> rfl
  | sa => exact absurd hb (by decide)
  | _ => rfl

theorem Allocator.full_eq_false {x : Allocator} (h : x.seq < 18446744073709551615) : x.full = false :=
  decide_eq_false (Nat.not_le.mpr h)

/-! ### A record handed to AJ (R143 to R145) -/

section
variable (s : State) (b : Body)

@[simp] theorem State.submit_tb : (s.submit b).tb = s.tb := s.submit_same b .tb (by decide)
@[simp] theorem State.submit_du : (s.submit b).du = s.du := s.submit_same b .du (by decide)
@[simp] theorem State.submit_sa : (s.submit b).sa = s.sa := s.submit_same b .sa (by decide)
@[simp] theorem State.submit_port (p : PortIx) : (s.submit b).port p = s.port p := s.submit_same b (.port p) (by simp)

theorem State.submit_gs : (s.submit b).gs = s.gs := by
  unfold State.submit
  split <;> rfl

end

/-- What a submission leaves in AJ depends on AJ and the record alone. -/
theorem State.submit_aj_congr {s t : State} (h : s.aj = t.aj) (b : Body) : (s.submit b).aj = (t.submit b).aj := by
  unfold State.submit
  rw [h]
  split <;> simp only [store, lose, h]

theorem State.admin_aj_congr {s t : State} (h : s.aj = t.aj) (hd : s.tb.dating = t.tb.dating) (e : AdminEvent) :
    (s.admin e).aj = (t.admin e).aj := by
  simp only [admin, dating, hd]
  exact submit_aj_congr h _

/-- Two states of CLU that agree on what R165 reads and writes: the request queue, the reply list, the counters and the
markers. -/
structure Control.SameRequests (c d : Control) : Prop where
  queue : d.queue = c.queue
  replies : d.replies = c.replies
  counters : d.counters = c.counters
  markers : d.markers = c.markers

theorem Control.SameRequests.refl (c : Control) : c.SameRequests c := ⟨rfl, rfl, rfl, rfl⟩

theorem Control.SameRequests.trans {c d e : Control} (h : c.SameRequests d) (k : d.SameRequests e) :
    c.SameRequests e :=
  ⟨k.queue.trans h.queue, k.replies.trans h.replies, k.counters.trans h.counters, k.markers.trans h.markers⟩

theorem Control.notice_sameRequests (c : Control) (cls : NoticeClass) (f : List Fld) :
    c.SameRequests (c.notice cls f) := by
  obtain ⟨hq, hr, hc, hm, _⟩ := c.notice_keeps cls f
  exact ⟨hq, hr, hc, hm⟩

theorem Control.levelNotices_sameRequests (c : Control) (old new : Journal) (dating : Nat) :
    c.SameRequests (c.levelNotices old new dating) := by
  unfold Control.levelNotices
  split <;> split
  · exact (c.notice_sameRequests _ _).trans (Control.notice_sameRequests _ _ _)
  · exact c.notice_sameRequests _ _
  · exact c.notice_sameRequests _ _
  · exact .refl c

/-- A submission may raise JOURNAL notices; of CLU it changes nothing else. -/
theorem State.submit_sameRequests (s : State) (b : Body) : s.clu.SameRequests (s.submit b).clu := by
  unfold State.submit
  split
  · exact s.clu.levelNotices_sameRequests _ _ _
  · exact .refl s.clu
  · simp only [lose]
    split
    · exact s.clu.notice_sameRequests _ _
    · exact .refl s.clu

/-! ### A port without REFUSING entries (R89, R95) -/

@[simp] theorem State.setPort_port_self (s : State) (p : PortIx) : s.setPort p (s.port p) = s := by
  simp only [setPort, port, Fin.getElem_fin, Vector.set_getElem_self]

theorem Port.answerFront_of_waiting {x : Port} (h : ∀ e ∈ x.requests, e.status = .waiting) (epoch : Nat) :
    x.answerFront epoch = x := by
  unfold Port.answerFront
  split
  next => rfl
  next q rest hx => rw [h q (by simp only [hx, List.mem_cons, true_or])]

theorem Port.answerRefusing_of_waiting {x : Port} (h : ∀ e ∈ x.requests, e.status = .waiting) (epoch n : Nat) :
    Port.answerRefusing epoch n x = x := by
  induction n with
  | zero => rfl
  | succ n ih => rw [answerRefusing, answerFront_of_waiting h, ih]

@[simp] theorem State.portChanged_port (s : State) (p q : PortIx) (old : PortState) (cause : PortCause) :
    (s.portChanged p old cause).port q = s.port q := rfl

theorem State.closePort_port (s : State) (p : PortIx) (cause : PortCause) :
    (s.closePort p cause).port p = { s.port p with state := .closed, score := 0 } := by
  simp only [closePort, portChanged_port, admin, submit_port, setPort_port]

theorem State.closePort_aj (s : State) (p : PortIx) (cause : PortCause) :
    (s.closePort p cause).aj = (s.admin (.portClosed p (s.port p).state (s.port p).grantsSinceOpen)).aj := by
  unfold State.closePort
  exact admin_aj_congr (by rfl) (by rfl) _

section
variable {s : State} {p : PortIx} {x : Port}

theorem State.reexamine_of_waiting (hx : s.port p = x) (h : ∀ e ∈ x.requests, e.status = .waiting) :
    s.reexamine p = if x.state = .draining ∧ x.requests = [] then s.closePort p .drained else s := by
  simp only [reexamine, hx, Port.answerRefusing_of_waiting h]
  rw [← hx, setPort_port_self]

theorem State.reexamine_port_of_waiting (hx : s.port p = x) (h : ∀ e ∈ x.requests, e.status = .waiting) :
    (s.reexamine p).port p = { x with
      state := if x.state = .draining ∧ x.requests = [] then .closed else x.state
      score := if x.state = .draining ∧ x.requests = [] then 0 else x.score } := by
  rw [reexamine_of_waiting hx h]
  by_cases hd : x.state = .draining ∧ x.requests = []
  · simp only [if_pos hd, closePort_port, hx]
  · simp only [if_neg hd, hx]

theorem State.reexamine_aj_of_not_drained (hx : s.port p = x) (h : ∀ e ∈ x.requests, e.status = .waiting)
    (hd : ¬ (x.state = .draining ∧ x.requests = [])) : (s.reexamine p).aj = s.aj := by
  rw [reexamine_of_waiting hx h, if_neg hd]

theorem State.reexamine_aj_of_drained (hx : s.port p = x) (h : ∀ e ∈ x.requests, e.status = .waiting)
    (hd : x.state = .draining ∧ x.requests = []) :
    (s.reexamine p).aj = (s.admin (.portClosed p .draining x.grantsSinceOpen)).aj := by
  rw [reexamine_of_waiting hx h, if_pos hd, closePort_aj, hx, hd.1]

end

end Sys2Proof.Machine
end

section
/-! R101 to R108: a grant to a port. The search finds the first port that holds a request; the grant is then the stamp
with its counts, its report to GS and its reply, after which the port re-examines what is left of its queue. -/

namespace Sys2Proof.Machine

/-! ### Which port is served (R100, R101) -/

theorem Port.serviceRequest_of_waiting {x : Port} {q : StampRequest} {rest : List StampRequest}
    (hx : x.requests = q :: rest) (hq : q.status = .waiting) (ho : x.state = .opened ∨ x.state = .draining)
    (hr : x.replies.length < 16) : x.serviceRequest = some q := by
  have hopen : x.openForClock = true := by
    obtain h | h := ho <;> simp only [openForClock, h]
  simp only [serviceRequest, hx]
  exact if_pos ⟨hq, hopen, hr⟩

theorem searchOrder_getElem (start : PortIx) (n : Nat) (h : n < (searchOrder start).length) :
    (searchOrder start)[n] = start + ⟨n, by simpa [searchOrder] using h⟩ := by
  simp [searchOrder]

/-- R101: the port served is the first from the rotation pointer that holds a request. -/
theorem State.portToServe_of_first {s : State} {p : PortIx} (hp : (s.port p).serviceRequest.isSome = true)
    (hfirst : ∀ j : Fin 8, j < p - s.sa.rotation → (s.port (s.sa.rotation + j)).serviceRequest = none) :
    s.portToServe = some p := by
  have hlen : (p - s.sa.rotation).val < (searchOrder s.sa.rotation).length := by
    simp [searchOrder]
  refine List.find?_eq_some_iff_getElem.mpr ⟨hp, (p - s.sa.rotation).val, hlen, ?_, fun j hj => ?_⟩
  · rw [searchOrder_getElem]
    exact add_sub_cancel s.sa.rotation p
  · rw [searchOrder_getElem, hfirst _ hj]
    rfl

theorem State.internalHeld_eq_false {s : State} (hd : s.du.records = []) (hg : s.gs.records = [])
    (hm : s.clu.markers = []) : s.internalHeld = false := by
  simp only [internalHeld, hd, hg, hm, List.isEmpty_nil, Bool.not_true, Bool.or_self]

theorem stampGrant_of_served {s : State} {p : PortIx} {q : StampRequest} (he : s.sa.exhausted = false)
    (hi : s.internalHeld = false) (hp : s.portToServe = some p) (hq : (s.port p).serviceRequest = some q)
    (hf : s.sa.full = false) : stampGrant s = s.grantPort p q := by
  simp only [stampGrant, he, hi, hp, hq, hf, Bool.false_eq_true, or_self, if_false]

/-! ### The stamp before the port re-examines its queue (R103 to R108) -/

theorem reported_iff (e : EffPhase) : reported e = true ↔ e = .call ∨ e = .random ∨ e = .suspended := by
  cases e <;> decide

theorem State.reportStamp_same (s : State) (r : StampRecord) (n : Nat) :
    s.SameBut (s.reportStamp r n) [.group r.group] :=
  State.SameBut.ite (s.setGroup_same _ _) (State.SameBut.refl s _)

theorem State.reportStamp_group (s : State) (r : StampRecord) (n : Nat) :
    (s.reportStamp r n).group r.group =
      if r.phase = .call ∨ r.phase = .random ∨ r.phase = .suspended then (s.group r.group).report n
      else s.group r.group := by
  simp only [reportStamp, reported_iff]
  split
  · exact s.setGroup_group _ _
  · rfl

theorem State.placeStamp_same (s : State) (p : PortIx) (r : StampRecord) (n t : Nat) (st : JournalStatus) :
    s.SameBut (s.placeStamp p r n t st) [.port p] := s.setPort_same p _

section
variable (s : State) (p : PortIx) (r : StampRecord) (seq t : Nat)

/-- A stamp grant up to the submission of its record and the counts of SA. -/
def State.stampSubmitted : State :=
  let s1 := (s.setPort p (s.port p).granted).submit (.stamp seq t r)
  s1.setSa { s1.sa.stamped (s.aj.decision (.stamp seq t r)).status with rotation := p + 1 }

/-- A stamp grant up to the reply placed at the back of the reply queue. -/
def State.stampPlaced : State :=
  ((s.stampSubmitted p r seq t).reportStamp r seq).placeStamp p r seq t (s.aj.decision (.stamp seq t r)).status

theorem State.stamp_eq (q : StampRequest) (floored : Bool) :
    s.stamp p q seq t floored = (s.stampPlaced p (s.stampRecord p q t floored) seq t).reexamine p := rfl

theorem State.stampSubmitted_same : s.SameBut (s.stampSubmitted p r seq t) [.sa, .port p, .aj, .clu] :=
  (((s.setPort_same p _).mono (by simp)).trans ((State.submit_same _ _).mono (by simp))).trans
    ((State.setSa_same _ _).mono (by simp))

theorem State.stampSubmitted_sa :
    (s.stampSubmitted p r seq t).sa =
      { s.sa.stamped (s.aj.decision (.stamp seq t r)).status with rotation := p + 1 } := by
  simp only [stampSubmitted, setSa_sa, submit_sa, setPort_sa]

theorem State.stampSubmitted_aj : (s.stampSubmitted p r seq t).aj = (s.submit (.stamp seq t r)).aj :=
  State.submit_aj_congr (by rfl) _

theorem State.stampSubmitted_port : (s.stampSubmitted p r seq t).port p = (s.port p).granted :=
  (State.submit_port _ _ p).trans (s.setPort_port p _)

theorem State.stampPlaced_same :
    s.SameBut (s.stampPlaced p r seq t) [.sa, .port p, .group r.group, .aj, .clu] :=
  (((s.stampSubmitted_same p r seq t).mono (by simp)).trans ((State.reportStamp_same _ _ _).mono (by simp))).trans
    ((State.placeStamp_same _ _ _ _ _ _).mono (by simp))

theorem State.stampPlaced_sa :
    (s.stampPlaced p r seq t).sa =
      { s.sa.stamped (s.aj.decision (.stamp seq t r)).status with rotation := p + 1 } := by
  rw [stampPlaced, State.placeStamp_same _ _ _ _ _ _ .sa (by simp), State.reportStamp_same _ _ _ .sa (by simp),
    stampSubmitted_sa]

theorem State.stampPlaced_aj : (s.stampPlaced p r seq t).aj = (s.submit (.stamp seq t r)).aj := by
  rw [stampPlaced, State.placeStamp_same _ _ _ _ _ _ .aj (by simp), State.reportStamp_same _ _ _ .aj (by simp),
    stampSubmitted_aj]

theorem State.stampPlaced_group :
    (s.stampPlaced p r seq t).group r.group =
      if r.phase = .call ∨ r.phase = .random ∨ r.phase = .suspended then (s.group r.group).report seq
      else s.group r.group := by
  rw [stampPlaced, State.placeStamp_same _ _ _ _ _ _ (.group r.group) (by simp), State.reportStamp_group,
    s.stampSubmitted_same p r seq t (.group r.group) (by simp)]

theorem State.stampPlaced_port :
    (s.stampPlaced p r seq t).port p = { (s.port p).granted with
      replies := (s.port p).replies ++ [.stamped r.tag s.epoch seq t r.wait r.late r.phase r.quality s.tb.utcOffset
        (s.aj.decision (.stamp seq t r)).status] } := by
  have hsame : s.SameBut ((s.stampSubmitted p r seq t).reportStamp r seq) [.sa, .port p, .group r.group, .aj, .clu] :=
    ((s.stampSubmitted_same p r seq t).mono (by simp)).trans ((State.reportStamp_same _ r seq).mono (by simp))
  have htb : ((s.stampSubmitted p r seq t).reportStamp r seq).tb = s.tb := hsame .tb (by simp)
  have hepoch : ((s.stampSubmitted p r seq t).reportStamp r seq).epoch = s.epoch := hsame .epoch (by simp)
  have hport : ((s.stampSubmitted p r seq t).reportStamp r seq).port p = (s.port p).granted :=
    (State.reportStamp_same _ r seq (.port p) (by simp)).trans (s.stampSubmitted_port p r seq t)
  simp only [stampPlaced, placeStamp, setPort_port, hport, htb, hepoch]
  rfl

end

theorem stampWait_eq (t arrival : Nat) : stampWait t arrival = min 4294967295 (t - arrival) := Nat.min_comm _ _

theorem State.grantPort_eq (s : State) (p : PortIx) (q : StampRequest) :
    s.grantPort p q =
      (s.beginGrant.stampPlaced p (s.stampRecord p q s.tb.dating (decide (s.tb.raw < s.tb.hwm))) (s.sa.seq + 1)
        s.tb.dating).reexamine p :=
  s.beginGrant.stamp_eq p _ _ q _

/-- Settles O39: the search finds the port, and the grant's effects are those of the head of the grant, of the stamp and
of the port's re-examination, in turn. -/
theorem aGrantStampsTheFrontRequest : Obligations.AGrantStampsTheFrontRequest := by
  intro s p q rest hrun hexh hseq hdu hgs hclu hfirst x hx hq hrest hopen hlen
  have hserve : (s.port p).serviceRequest = some q := Port.serviceRequest_of_waiting hx hq hopen hlen
  have hexec : exec .stampGrant s = .next (s.grantPort p q) := by
    rw [← stampGrant_of_served hexh (State.internalHeld_eq_false hdu hgs hclu)
      (State.portToServe_of_first (by rw [hserve]; rfl) hfirst) hserve (Allocator.full_eq_false hseq)]
    exact live_of_running hrun _
  obtain rfl : (s.port p).requests.tail = rest := congrArg List.tail hx
  intro seq now phase quality wait record st drained
  have hrecord : s.stampRecord p q now (decide (s.tb.raw < s.tb.hwm)) = record := by
    simp only [State.stampRecord, stampWait_eq]
    rfl
  have hport := s.beginGrant.stampPlaced_port p record seq now
  have hkeep := (s.beginGrant.stampPlaced p record seq now).reexamine_same p
  have htb : (s.beginGrant.stampPlaced p record seq now).tb = s.tb.raised :=
    State.stampPlaced_same _ p record seq now .tb (by simp)
  have haj : (s.beginGrant.stampPlaced p record seq now).aj = (s.submit (.stamp seq now record)).aj :=
    (State.stampPlaced_aj _ p record seq now).trans (State.submit_aj_congr (by rfl) _)
  refine ⟨(s.beginGrant.stampPlaced p record seq now).reexamine p, ?_, ?_, ?_, ?_, ?_, ?_, fun hd => ?_,
    fun hd => ?_⟩
  · rw [hexec, State.grantPort_eq, ← hrecord]
    rfl
  · exact ((s.beginGrant_same.mono (by simp)).trans ((State.stampPlaced_same _ p record seq now).mono
      (by simp [record]))).trans (hkeep.mono (by simp [portBlocks]))
  · exact (hkeep .tb (by simp [portBlocks])).trans htb
  · rw [hkeep .sa (by simp [portBlocks]), State.stampPlaced_sa, State.beginGrant_sa]
    rfl
  · exact (hkeep (.group q.group) (by simp [portBlocks])).trans (State.stampPlaced_group _ p record seq now)
  · exact State.reexamine_port_of_waiting hport hrest
  · exact (State.reexamine_aj_of_not_drained hport hrest hd).trans haj
  · rw [State.reexamine_aj_of_drained hport hrest hd]
    exact State.admin_aj_congr haj (by rw [htb, State.submit_tb, TimeBase.raised_dating]) _

end Sys2Proof.Machine
end

section
/-! R109, R111 and R156: internal records. A grant in a live epoch and a handoff in an exhausted one give the same
record to AJ; they differ only in the head, which numbers and dates it. -/

namespace Sys2Proof.Machine

/-! ### Which record is handed over (R101) -/

theorem State.nextInternal_clock {s : State} {r : ClockRecord} {rest : List ClockRecord}
    (hd : s.du.records = r :: rest) : s.nextInternal = some (.clock r) := by
  simp only [nextInternal, hd]

theorem State.nextInternal_auction {s : State} {r : AuctionRecord} {rest : List AuctionRecord}
    (hd : s.du.records = []) (hg : s.gs.records = r :: rest) : s.nextInternal = some (.auction r) := by
  simp only [nextInternal, hd, hg]

theorem State.nextInternal_marker {s : State} {m : Marker} {rest : List Marker} (hd : s.du.records = [])
    (hg : s.gs.records = []) (hm : s.clu.markers = m :: rest) : s.nextInternal = some (.marker m) := by
  simp only [nextInternal, hd, hg, hm]

/-! ### The head of an internal grant or handoff -/

/-- The sequence number that the next internal record carries: none in an exhausted epoch. -/
def State.internalSeq (s : State) (sequenced : Bool) : Option Nat := if sequenced then some (s.sa.seq + 1) else none

/-- TB and SA moved by the head of an internal grant; a handoff in an exhausted epoch moves nothing. -/
def State.internalHead (s : State) (sequenced : Bool) (x : Internal) : State :=
  if sequenced then s.beginGrant.setSa (s.beginGrant.sa.countInternal x) else s

section
variable (s : State) (sequenced : Bool) (x : Internal)

theorem State.internalHead_same : s.SameBut (s.internalHead sequenced x) [.tb, .sa] :=
  State.SameBut.ite (s.beginGrant_same.trans ((State.setSa_same _ _).mono (by decide))) (State.SameBut.refl s _)

theorem State.internalHead_tb :
    (s.internalHead sequenced x).tb = if sequenced then { s.tb with hwm := max s.tb.raw s.tb.hwm } else s.tb := by
  cases sequenced <;> rfl

theorem State.internalHead_sa :
    (s.internalHead sequenced x).sa = if sequenced then
        Allocator.countInternal { s.sa with
          seq := s.sa.seq + 1
          floored := if s.tb.raw < s.tb.hwm then s.sa.floored + 1 else s.sa.floored } x
      else s.sa := by
  cases sequenced
  · rfl
  · exact congrArg (Allocator.countInternal · x) s.beginGrant_sa

@[simp] theorem State.internalHead_du : (s.internalHead sequenced x).du = s.du :=
  s.internalHead_same sequenced x .du (by decide)
@[simp] theorem State.internalHead_aj : (s.internalHead sequenced x).aj = s.aj :=
  s.internalHead_same sequenced x .aj (by decide)
@[simp] theorem State.internalHead_clu : (s.internalHead sequenced x).clu = s.clu :=
  s.internalHead_same sequenced x .clu (by decide)
@[simp] theorem State.internalHead_gs : (s.internalHead sequenced x).gs = s.gs := by cases sequenced <;> rfl

end

/-- A grant in a live epoch and a handoff in an exhausted one both hand over the next internal record. -/
theorem exec_of_nextInternal {s : State} {c : Instr} {sequenced : Bool} {x : Internal} (hrun : s.power = .running)
    (hc : c = .internalGrant ∧ s.sa.exhausted = false ∧ s.sa.seq < 18446744073709551615 ∧ sequenced = true ∨
      c = .unsequencedHandoff ∧ s.sa.exhausted = true ∧ sequenced = false)
    (hx : s.nextInternal = some x) :
    exec c s = .next ((s.internalHead sequenced x).handOver x (s.internalSeq sequenced) s.tb.dating) := by
  obtain ⟨rfl, he, hseq, rfl⟩ | ⟨rfl, he, rfl⟩ := hc
  · have hgrant : internalGrant s = s.grantInternal x := by
      simp only [internalGrant, he, hx, Allocator.full_eq_false hseq, Bool.false_eq_true, if_false]
    exact (live_of_running hrun _).trans (congrArg Host.Outcome.next hgrant)
  · have hhandoff : unsequencedHandoff s = s.handOver x none s.dating := by
      simp only [unsequencedHandoff, he, hx, if_true]
    exact (live_of_running hrun _).trans (congrArg Host.Outcome.next hhandoff)

/-! ### The record handed over (R109, R156) -/

/-- The block whose list holds an internal record. -/
def Internal.holder : Internal → Block
  | .clock _ => .du
  | .auction _ => .auctions
  | .marker _ => .clu

theorem State.removeInternal_same (s : State) (x : Internal) : s.SameBut (s.removeInternal x) [x.holder] := by
  cases x with
  | clock r => exact s.setDu_same _
  | auction r =>
    intro b hb
    cases b with
    | mon r => cases r <;> rfl
    | auctions => exact absurd (List.mem_singleton.mpr rfl) hb
    | _ => rfl
  | marker m => exact s.setClu_same _

theorem State.answerInService_same (s : State) (payload : List Byte) :
    s.SameBut (s.answerInService payload) [.clu] := by
  unfold State.answerInService
  split
  · exact State.SameBut.refl s _
  · exact State.SameBut.ite (s.answer_same _ _) (State.SameBut.refl s _)

theorem State.afterInternal_same (s : State) (x : Internal) (seq : Option Nat) (t : Nat) (o : StoreOutcome) :
    s.SameBut (s.afterInternal x seq t o) [.clu] := by
  cases x with
  | clock r => exact State.SameBut.refl s _
  | auction r => exact State.SameBut.refl s _
  | marker m => exact s.answerInService_same _

section
variable (s : State) (x : Internal) (seq : Option Nat) (t : Nat)

theorem State.handOver_same : s.SameBut (s.handOver x seq t) [x.holder, .aj, .clu] :=
  (((s.removeInternal_same x).mono (by simp)).trans ((State.submit_same _ _).mono (by simp))).trans
    ((State.afterInternal_same _ x seq t _).mono (by simp))

theorem State.handOver_aj : (s.handOver x seq t).aj = (s.submit (x.body seq t)).aj :=
  calc (s.handOver x seq t).aj
    _ = ((s.removeInternal x).submit (x.body seq t)).aj := State.afterInternal_same _ x seq t _ .aj (by simp)
    _ = (s.submit (x.body seq t)).aj := submit_aj_congr (by cases x <;> rfl) _

theorem State.handOver_clock_du (r : ClockRecord) :
    (s.handOver (.clock r) seq t).du = { s.du with records := s.du.records.tail } :=
  State.submit_du _ _

theorem State.handOver_clock_markers (r : ClockRecord) : (s.handOver (.clock r) seq t).clu.markers = s.clu.markers :=
  (State.submit_sameRequests _ _).markers

theorem State.handOver_auction_gs (r : AuctionRecord) :
    (s.handOver (.auction r) seq t).gs = { s.gs with records := s.gs.records.tail } :=
  State.submit_gs _ _

theorem State.handOver_auction_markers (r : AuctionRecord) :
    (s.handOver (.auction r) seq t).clu.markers = s.clu.markers :=
  (State.submit_sameRequests _ _).markers

end

/-- What a grant or handoff of an internal record does to the blocks other than its requester's. -/
theorem State.handOver_internalHead (s : State) (sequenced : Bool) (x : Internal) (seq : Option Nat) (t : Nat) :
    let u := (s.internalHead sequenced x).handOver x seq t
    s.SameBut u [.tb, x.holder, .sa, .aj, .clu] ∧ u.tb = (s.internalHead sequenced x).tb ∧
      u.sa = (s.internalHead sequenced x).sa ∧ u.aj = (s.submit (x.body seq t)).aj := by
  have hkeep := (s.internalHead sequenced x).handOver_same x seq t
  refine ⟨((s.internalHead_same sequenced x).mono (by simp)).trans (hkeep.mono (by simp)),
    hkeep .tb (by cases x <;> simp [Internal.holder]), hkeep .sa (by cases x <;> simp [Internal.holder]), ?_⟩
  rw [handOver_aj]
  exact submit_aj_congr (s.internalHead_aj sequenced x) _

/-! ### The JOURNAL_MARK reply (R156) -/

theorem State.answerInService_of_inService {s : State} {q : ControlRequest} {later : List ControlRequest}
    (h : s.clu.queue = q :: later) (hq : q.status = .inService) (payload : List Byte) :
    s.answerInService payload = s.answer q payload := by
  simp only [answerInService, h, hq, if_true]

theorem State.answer_replied (s : State) (q : ControlRequest) (payload : List Byte) :
    s.Replied (s.answer q payload) q payload := ⟨rfl, rfl, rfl⟩

/-- A reply is the same seen from a state that differs in notices alone. -/
theorem State.Replied.of_sameRequests {s t u : State} {q : ControlRequest} {payload : List Byte}
    (h : s.clu.SameRequests t.clu) (k : t.Replied u q payload) : s.Replied u q payload := by
  obtain ⟨hqueue, hreplies, hcounters⟩ := k
  rw [h.queue] at hqueue
  rw [h.replies] at hreplies
  rw [h.counters] at hcounters
  exact ⟨hqueue, hreplies, hcounters⟩

theorem State.handOver_marker {s : State} {q : ControlRequest} {later : List ControlRequest}
    (h : s.clu.queue = q :: later) (hq : q.status = .inService) (m : Marker) (seq : Option Nat) (t : Nat) :
    s.Replied (s.handOver (.marker m) seq t) q
        (markReply m seq (seq.map fun _ => t) (s.aj.decision (.marker seq t m.text))) ∧
      (s.handOver (.marker m) seq t).clu.markers = s.clu.markers.tail := by
  have hsame := (s.removeInternal (.marker m)).submit_sameRequests (.marker seq t m.text)
  have hanswer : s.handOver (.marker m) seq t = State.answer _ q _ :=
    State.answerInService_of_inService (hsame.queue.trans h) hq _
  rw [hanswer]
  exact ⟨State.Replied.of_sameRequests (s := s.removeInternal (.marker m)) hsame (State.answer_replied _ q _),
    hsame.markers⟩

/-- Settles O40: the next internal record is handed over; its requester's list and, for CLU, the reply are read off. -/
theorem internalRecordsReachTheJournal : Obligations.InternalRecordsReachTheJournal := by
  intro s c sequenced hrun hc now seq tb sa one
  refine ⟨fun r rest hd => ?_, fun r rest hd hg => ?_, fun m rest q later hd hg hm hqueue hq => ?_⟩
  · obtain ⟨hsame, htb, hsa, haj⟩ :=
      s.handOver_internalHead sequenced (.clock r) (s.internalSeq sequenced) s.tb.dating
    refine ⟨_, exec_of_nextInternal hrun hc (State.nextInternal_clock hd), hsame, htb.trans (s.internalHead_tb _ _),
      ?_, ?_, haj, ?_⟩
    · rw [State.handOver_clock_du, State.internalHead_du, hd, List.tail_cons]
    · rw [hsa, State.internalHead_sa]
      cases sequenced <;> rfl
    · rw [State.handOver_clock_markers, State.internalHead_clu]
  · obtain ⟨hsame, htb, hsa, haj⟩ :=
      s.handOver_internalHead sequenced (.auction r) (s.internalSeq sequenced) s.tb.dating
    refine ⟨_, exec_of_nextInternal hrun hc (State.nextInternal_auction hd hg), hsame,
      htb.trans (s.internalHead_tb _ _), ?_, ?_, haj, ?_⟩
    · rw [State.handOver_auction_gs, State.internalHead_gs, hg, List.tail_cons]
    · rw [hsa, State.internalHead_sa]
      cases sequenced <;> rfl
    · rw [State.handOver_auction_markers, State.internalHead_clu]
  · obtain ⟨hsame, htb, hsa, haj⟩ :=
      s.handOver_internalHead sequenced (.marker m) (s.internalSeq sequenced) s.tb.dating
    have hhead := s.internalHead_clu sequenced (.marker m)
    obtain ⟨hreplied, hmarkers⟩ := State.handOver_marker ((congrArg Control.queue hhead).trans hqueue) hq m
      (s.internalSeq sequenced) s.tb.dating
    refine ⟨_, exec_of_nextInternal hrun hc (State.nextInternal_marker hd hg hm), hsame.mono ?_,
      htb.trans (s.internalHead_tb _ _), ?_, ?_, haj, ?_⟩
    · simp [Internal.holder]
    · rw [hmarkers, hhead, hm, List.tail_cons]
    · rw [hsa, State.internalHead_sa]
      cases sequenced <;> rfl
    · rw [State.internalHead_aj] at hreplied
      exact State.Replied.of_sameRequests (hhead ▸ .refl _) hreplied

end Sys2Proof.Machine
end

section
/-! What a command does to a part that runs, and the blocks it can change: the inversion of `exec` and of `step` on which
the statements about every command rest. -/

namespace Sys2Proof.Machine

/-! ### Membership in the blocks of a frame -/

@[simp] theorem port_mem_allPorts (p : PortIx) : Block.port p ∈ allPorts := by simp [allPorts]

@[simp] theorem group_mem_allGroups (g : GroupIx) : Block.group g ∈ allGroups := by simp [allGroups]

/-- A list of blocks without a block of a kind, as a computation. -/
theorem not_mem_of_contains {b : Block} {bs : List Block} (h : bs.contains b = false) : b ∉ bs := by
  simpa using h

/-! ### The action of a command on a part that runs -/

/-- What a command does to a part that runs; RESET and the end of a reset are no actions of a running part. -/
def actOf : Instr → State → State
  | .reset _ | .startUp => id
  | .oscillatorTick => oscillatorTick
  | .secondBoundary => secondBoundary
  | .callStartExpiry => expiry .scheduled
  | .windowStartExpiry => expiry .call
  | .closeExpiry => expiry .random
  | .markEdge r => markEdge r
  | .timeMessage r bytes => timeMessage r bytes
  | .messageWaitExpiry r => messageWaitExpiry r
  | .missingMarkExpiry r => missingMarkExpiry r
  | .twinBadFrame bytes => twinBadFrame bytes
  | .offerReceived bytes => offerReceived bytes
  | .acceptReceived bytes => acceptReceived bytes
  | .refuseReceived bytes => refuseReceived bytes
  | .byeReceived bytes => byeReceived bytes
  | .probeReceived bytes => probeReceived bytes
  | .echoReceived bytes => echoReceived bytes
  | .statusReceived bytes => statusReceived bytes
  | .twinFrameSend => twinFrameSend
  | .offerTimerExpiry => offerTimerExpiry
  | .retryTimerExpiry => retryTimerExpiry
  | .probeSpacingExpiry => probeSpacingExpiry
  | .probeTimeout => probeTimeout
  | .checkTimerExpiry => checkTimerExpiry
  | .statusAgeLimit => statusAgeLimit
  | .stampRequestFrame p bytes => stampRequestFrame p bytes
  | .stampLengthFault p bytes => stampLengthFault p bytes
  | .stampGrant => stampGrant
  | .internalGrant => internalGrant
  | .unsequencedHandoff => unsequencedHandoff
  | .portTransmitStart p => portTransmitStart p
  | .portReplySent p => portReplySent p
  | .controlFrame bytes => controlFrame bytes
  | .controlBadLength bytes => controlBadLength bytes
  | .answerBusyReply => answerBusyReply
  | .unknownRequest => unknownRequest
  | .controlTransmitStart => controlTransmitStart
  | .controlFrameSent => controlFrameSent
  | .identify => takeRequest 0x01 identify
  | .statusClock => takeRequest 0x02 statusClock
  | .statusRef => takeRequest 0x03 statusRef
  | .statusTwin => takeRequest 0x04 statusTwin
  | .statusPort => takeRequest 0x05 statusPort
  | .statusGroup => takeRequest 0x06 statusGroup
  | .statusJournal => takeRequest 0x07 statusJournal
  | .clockSet => takeRequest 0x08 clockSet
  | .refConfig => takeRequest 0x09 refConfig
  | .servoConfig => takeRequest 0x0A servoConfig
  | .traceConfig => takeRequest 0x0B traceConfig
  | .twinConfig => takeRequest 0x0C twinConfig
  | .twinStart => takeRequest 0x0D twinStart
  | .twinStop => takeRequest 0x0E twinStop
  | .portOpen => takeRequest 0x0F portOpen
  | .portClose => takeRequest 0x10 portClose
  | .groupSchedule => takeRequest 0x11 groupSchedule
  | .groupExtend => takeRequest 0x12 groupExtend
  | .groupSuspend => takeRequest 0x13 groupSuspend
  | .groupResume => takeRequest 0x14 groupResume
  | .groupAbandon => takeRequest 0x15 groupAbandon
  | .groupClear => takeRequest 0x16 groupClear
  | .journalRead => takeRequest 0x17 journalRead
  | .journalRelease => takeRequest 0x18 journalRelease
  | .journalMark => journalMark
  | .selectConfig => takeRequest 0x1A selectConfig
  | .noticeConfig => takeRequest 0x1B noticeConfig
  | .settingsSave => settingsSave
  | .settingsSaveComplete readBack => settingsSaveComplete readBack
  | .restart => restart
  | .refByteDiscarded r byte => refByteDiscarded r byte
  | .twinByteDiscarded byte => twinByteDiscarded byte
  | .portByteDiscarded p byte => portByteDiscarded p byte
  | .controlByteDiscarded byte => controlByteDiscarded byte

/-- Every command but RESET and START_UP is its action, taken by a part that runs. -/
theorem exec_eq_live {c : Instr} (hreset : ∀ k, c ≠ .reset k) (hstart : c ≠ .startUp) (s : State) :
    exec c s = live s (actOf c) := by
  cases c with
  | reset k => exact absurd rfl (hreset k)
  | startUp => exact absurd rfl hstart
  | _ => rfl

theorem live_of_held {s : State} {cause : ResetCause} (h : s.power = .held cause) (f : State → State) :
    live s f = .next s := by
  simp only [live, h]

theorem exec_startUp_of_held {s : State} {cause : ResetCause} (h : s.power = .held cause) :
    exec .startUp s = .next (startUpFrom cause s) := by
  simp only [exec, execStartUp, startUp, h]

/-- A command but RESET and START_UP does nothing or is its action. -/
theorem exec_eq_self_or_act {c : Instr} {s t : State} (hreset : ∀ k, c ≠ .reset k) (hstart : c ≠ .startUp)
    (h : exec c s = .next t) : t = s ∨ t = actOf c s := by
  rw [exec_eq_live hreset hstart] at h
  cases hp : s.power with
  | held cause =>
    rw [live_of_held hp] at h
    exact .inl (Host.Outcome.next.inj h).symm
  | running =>
    rw [live_of_running hp] at h
    exact .inr (Host.Outcome.next.inj h).symm

/-- A command holds the part in reset, ends a reset, does nothing or is its action. -/
theorem exec_cases {c : Instr} {s t : State} (h : exec c s = .next t) :
    (∃ cause, t = resetHeld cause s) ∨ (∃ cause, t = startUpFrom cause s) ∨ t = s ∨ t = actOf c s := by
  by_cases hreset : ∃ k, c = .reset k
  · obtain ⟨k, rfl⟩ := hreset
    exact .inl ⟨k, (Host.Outcome.next.inj h).symm⟩
  by_cases hstart : c = .startUp
  · subst hstart
    cases hp : s.power with
    | held cause =>
      rw [exec_startUp_of_held hp] at h
      exact .inr (.inl ⟨cause, (Host.Outcome.next.inj h).symm⟩)
    | running =>
      simp only [exec, execStartUp, startUp, hp] at h
      exact .inr (.inr (.inl (Host.Outcome.next.inj h).symm))
  · exact .inr (.inr (exec_eq_self_or_act (fun k hk => hreset ⟨k, hk⟩) hstart h))

/-- What every command keeps, the step keeps: the resets, the ends of a reset and the actions are all there is. -/
theorem step_keeps {P : State → Prop} (hqueue : ∀ s rest, P s → P { s with pending := rest })
    (hreset : ∀ cause s, P s → P (resetHeld cause s)) (hstart : ∀ cause s, P s → P (startUpFrom cause s))
    (hact : ∀ c s, P s → P (actOf c s)) {s t : State} (hs : P s) (h : step s = .next t) : P t := by
  unfold step at h
  split at h
  · exact Host.Outcome.next.inj h ▸ hs
  · next c rest _ =>
    have hs' := hqueue s rest hs
    obtain ⟨_, rfl⟩ | ⟨_, rfl⟩ | rfl | rfl := exec_cases h
    · exact hreset _ _ hs'
    · exact hstart _ _ hs'
    · exact hs'
    · exact hact c _ hs'

/-- Settles O1: it is the definition of the step. -/
theorem stepRunsFrontCommand : Obligations.StepRunsFrontCommand := by
  intro c rest s h
  simp only [step, h]

end Sys2Proof.Machine
end

section
/-! The blocks a command may change: for each action the frame of its own operations, and one list for each command. -/

namespace Sys2Proof.Machine

/-! ### Fields replaced -/

section
variable (s : State)

theorem State.tb_same (x : TimeBase) : s.SameBut { s with tb := x } [.tb] := by
  intro b hb
  cases b with
  | mon r => cases r <;> rfl
  | tb => exact absurd hb (by decide)
  | _ => rfl

theorem State.clu_same (x : Control) : s.SameBut { s with clu := x } [.clu] := s.setClu_same x

theorem State.aj_same (x : Journal) : s.SameBut { s with aj := x } [.aj] := by
  intro b hb
  cases b with
  | mon r => cases r <;> rfl
  | aj => exact absurd hb (by decide)
  | _ => rfl

theorem State.ss_same (x : Store) : s.SameBut { s with ss := x } [.ss] := by
  intro b hb
  cases b with
  | mon r => cases r <;> rfl
  | ss => exact absurd hb (by decide)
  | _ => rfl

theorem oscillatorTick_same : s.SameBut (oscillatorTick s) [.tick, .tb] := by
  intro b hb
  cases b with
  | mon r => cases r <;> rfl
  | tick | tb => exact absurd hb (by decide)
  | _ => rfl

/-! ### Second boundaries and expiries -/

theorem clockSuspend_same (now : Nat) (g : GroupIx) : s.SameBut (clockSuspend now s g) [.group g, .auctions, .clu] :=
  State.SameBut.ite ((s.catchUp_same g now true).trans (State.suspendGroup_same _ _ _ _ _)) (s.catchUp_same g now true)

theorem State.clockSuspension_same : s.SameBut s.clockSuspension ([.auctions, .clu] ++ allGroups) :=
  s.eachGroup_same fun x g => (clockSuspend_same x _ g).mono (by simp)

theorem State.tellScheduler_same : s.SameBut s.tellScheduler ([.auctions, .clu] ++ allGroups) :=
  State.SameBut.ite s.clockSuspension_same (State.SameBut.refl s _)

theorem State.tellTwin_same : s.SameBut s.tellTwin [.tlu] :=
  State.SameBut.ite (s.formTwin_same _) (State.SameBut.refl s _)

/-- The blocks a second boundary may change, TB aside. -/
def boundaryBlocks : List Block := [.du, .tlu, .auctions, .aj, .clu] ++ allGroups

theorem State.traceChanged_same (old : TraceState) (dating : Nat) :
    s.SameBut (s.traceChanged old dating) boundaryBlocks :=
  State.SameBut.ite (State.SameBut.refl s _)
    ((((s.clockRecordAt_same _ _).mono (by simp [boundaryBlocks])).trans
      ((State.tellScheduler_same _).mono (by simp +contextual [boundaryBlocks]))).trans
      ((State.tellTwin_same _).mono (by simp [boundaryBlocks])))

theorem State.evaluateTrace_same (dating : Nat) : s.SameBut (s.evaluateTrace dating) [.du] := s.setDu_same _

theorem State.countBoundary_same : s.SameBut s.countBoundary [.du, .aj, .clu] :=
  State.SameBut.ite (((s.submit_same _).mono (by decide)).trans ((State.setDu_same _ _).mono (by decide)))
    ((s.setDu_same _).mono (by decide))

theorem State.tickReaction_same (b : Boundary) : s.SameBut (s.tickReaction b) [.clu] := by
  unfold State.tickReaction
  cases s.clu.tick
  · exact State.SameBut.refl s _
  · exact (s.notice_same _ _).trans (State.clu_same _ _)
  · exact s.notice_same _ _

theorem State.reactTo_same (b : Boundary) : s.SameBut (s.reactTo b) (.tb :: boundaryBlocks) :=
  (((((s.tb_same _).mono (by simp)).trans ((State.evaluateTrace_same _ _).mono (by simp [boundaryBlocks]))).trans
    ((State.traceChanged_same _ _ _).mono (by simp +contextual))).trans
    ((State.countBoundary_same _).mono (by simp [boundaryBlocks]))).trans
    ((State.tickReaction_same _ _).mono (by simp [boundaryBlocks]))

theorem secondBoundary_same : s.SameBut (secondBoundary s) (.tb :: boundaryBlocks) := by
  unfold secondBoundary
  split
  · exact State.SameBut.refl s _
  · exact ((s.tb_same _).mono (by simp)).trans (State.reactTo_same _ _)

theorem State.takeDue_same (fuel now : Nat) :
    s.SameBut (State.takeDue fuel now s) ([.auctions, .clu] ++ allGroups) := by
  induction fuel generalizing s with
  | zero => exact State.SameBut.refl s _
  | succ fuel ih =>
    unfold State.takeDue
    split
    · exact ((s.takeExpiry_same _ _ _).mono (by simp)).trans (ih _)
    · exact State.SameBut.refl s _

theorem expiry_same (phase : Phase) : s.SameBut (expiry phase s) ([.auctions, .clu] ++ allGroups) := by
  unfold expiry
  split
  · exact State.SameBut.ite (s.takeDue_same _ _) (State.SameBut.refl s _)
  · exact State.SameBut.refl s _

/-! ### Reference monitors -/

/-- The blocks an event of a reference may change. -/
def markBlocks (r : Ref) : List Block := .mon r :: disciplineBlocks

theorem State.closeNoLabel_same (r : Ref) (p : PendingMark) : s.SameBut (s.closeNoLabel r p) (markBlocks r) :=
  ((s.setMon_same r _).mono (by simp [markBlocks])).trans (State.closeMark_same _ r _)

theorem State.openMark_same (r : Ref) (p : PendingMark) : s.SameBut (s.openMark r p) [.mon r] := s.setMon_same r _

theorem markEdge_same (r : Ref) : s.SameBut (markEdge r s) (markBlocks r) := by
  unfold markEdge
  refine State.SameBut.ite ?_ (State.SameBut.refl s _)
  cases (s.mon r).pendingMark with
  | none => exact ((s.setMon_same r _).trans (State.openMark_same _ r _)).mono (by simp [markBlocks])
  | some old =>
    exact (((s.setMon_same r _).mono (by simp [markBlocks])).trans (State.closeNoLabel_same _ r old)).trans
      ((State.openMark_same _ r _).mono (by simp [markBlocks]))

theorem State.messageArrived_same (r : Ref) (msg : TimeMessage) : s.SameBut (s.messageArrived r msg) (markBlocks r) := by
  unfold State.messageArrived
  simp only
  split
  · exact ((s.setMon_same r _).mono (by simp [markBlocks])).trans (State.closeMark_same _ r _)
  · exact (s.setMon_same r _).mono (by simp [markBlocks])

theorem timeMessage_same (r : Ref) (bytes : List Byte) : s.SameBut (timeMessage r bytes s) (markBlocks r) := by
  unfold timeMessage
  refine State.SameBut.ite ?_ (State.SameBut.refl s _)
  split
  · exact State.SameBut.refl s _
  · exact (s.setMon_same r _).mono (by simp [markBlocks])
  · exact s.messageArrived_same r _

theorem messageWaitExpiry_same (r : Ref) : s.SameBut (messageWaitExpiry r s) (markBlocks r) := by
  unfold messageWaitExpiry
  split
  · exact State.SameBut.ite (s.closeNoLabel_same r _) (State.SameBut.refl s _)
  · exact State.SameBut.refl s _

theorem missingMarkExpiry_same (r : Ref) : s.SameBut (missingMarkExpiry r s) (markBlocks r) :=
  State.SameBut.ite (((s.setMon_same r _).mono (by simp [markBlocks])).trans (State.closeMark_same _ r _))
    (State.SameBut.refl s _)

theorem refByteDiscarded_same (r : Ref) (byte : Byte) : s.SameBut (refByteDiscarded r byte s) [.mon r] :=
  State.SameBut.ite (s.setMon_same r _) (State.SameBut.refl s _)

/-! ### The twin link -/

theorem State.twinReceived_same : s.SameBut s.twinReceived [.tlu] := s.setTlu_same _

theorem State.twinIgnored_same : s.SameBut s.twinIgnored [.tlu] := s.setTlu_same _

theorem State.rejectTwin_same (f : TwinFault) : s.SameBut (s.rejectTwin f) twinBlocks :=
  ((s.formTwin_same _).mono (by decide)).trans ((State.enterDetached_same _ _).mono (by decide))

theorem State.onOffer_same (id : TwinIdentity) : s.SameBut (s.onOffer id) twinBlocks := by
  unfold State.onOffer
  have h : s.SameBut (match s.attachFault id with
      | some f => s.rejectTwin f
      | none => (s.formTwin (.accept s.ownIdentity)).enterMeasuring id .offer) twinBlocks := by
    split
    · exact s.rejectTwin_same _
    · exact ((s.formTwin_same _).mono (by decide)).trans ((State.enterMeasuring_same _ _ _).mono (by decide))
  cases s.tlu.state with
  | off => exact s.twinIgnored_same.mono (by decide)
  | _ => exact h

theorem State.onAccept_same (id : TwinIdentity) : s.SameBut (s.onAccept id) twinBlocks := by
  unfold State.onAccept
  have hfault (x : State) (hx : s.SameBut x twinBlocks) : s.SameBut (match s.attachFault id with
      | some f => s.rejectTwin f
      | none => x) twinBlocks := by
    split
    · exact s.rejectTwin_same _
    · exact hx
  cases s.tlu.state with
  | off => exact s.twinIgnored_same.mono (by decide)
  | detached | offering => exact hfault _ ((s.enterMeasuring_same _ _).mono (by decide))
  | _ => exact hfault _ (s.twinIgnored_same.mono (by decide))

theorem State.onEnding_same (f : TwinFault) : s.SameBut (s.onEnding f) twinBlocks := by
  unfold State.onEnding
  cases s.tlu.state with
  | off | detached => exact s.twinIgnored_same.mono (by decide)
  | _ => exact (s.enterDetached_same f).mono (by decide)

theorem State.onProbe_same (n t2 : Nat) : s.SameBut (s.onProbe n t2) [.tlu] :=
  State.SameBut.ite (s.formTwin_same _) s.twinIgnored_same

theorem State.onEcho_same (n t2 t3 t4 : Nat) : s.SameBut (s.onEcho n t2 t3 t4) twinBlocks := by
  unfold State.onEcho
  refine State.SameBut.ite ?_ (s.twinIgnored_same.mono (by decide))
  split
  · exact s.closeProbe_same _
  · exact (s.setTlu_same _).mono (by decide)

theorem State.onStatus_same (st : TwinStatus) : s.SameBut (s.onStatus st) twinBlocks := by
  unfold State.onStatus
  refine State.SameBut.ite (State.SameBut.ite (State.SameBut.ite ?_ ?_) ?_) (s.twinIgnored_same.mono (by decide))
  · exact (s.setTlu_same _).mono (by decide)
  · exact ((s.setTlu_same _).mono (by decide)).trans ((State.withdrawAnchor_same _).mono (by decide))
  · exact (s.setTlu_same _).mono (by decide)

theorem State.onMessage_same (t : Nat) (msg : TwinMessage) : s.SameBut (s.onMessage t msg) twinBlocks := by
  cases msg with
  | offer id => exact s.onOffer_same id
  | accept id => exact s.onAccept_same id
  | refuse | bye => exact s.onEnding_same _
  | probe => exact (s.onProbe_same _ _).mono (by decide)
  | echo => exact s.onEcho_same _ _ _ _
  | status => exact s.onStatus_same _

/-- Bytes on the twin link stay in the receiver, or bring a message on which the part acts, or do nothing (R63). -/
theorem twinArrival_cases {bytes : List Byte} {act : TwinMessage → Nat → Option (State → State)} {s : State}
    (h : ∀ msg t f, act msg t = some f → ∀ x : State, f x = x.onMessage t msg) :
    twinArrival bytes act s = s ∨ (∃ rx, twinArrival bytes act s = s.setTlu { s.tlu with rx := some rx }) ∨
      ∃ t msg, twinArrival bytes act s = s.twinReceived.onMessage t msg := by
  unfold twinArrival
  split
  · exact .inr (.inl ⟨_, rfl⟩)
  · next msg t _ =>
    cases hf : act msg t with
    | none => exact .inl rfl
    | some f => exact .inr (.inr ⟨t, msg, h msg t f hf _⟩)
  · exact .inl rfl
  · exact .inl rfl

/-- What the seven commands of a good frame do: nothing, bytes kept, or the action of a message. -/
theorem frameCommand_cases {c : Instr} {bytes : List Byte} {msg : TwinMessage} (hc : c = msg.command bytes)
    (s : State) :
    actOf c s = s ∨ (∃ rx, actOf c s = s.setTlu { s.tlu with rx := some rx }) ∨
      ∃ t m, actOf c s = s.twinReceived.onMessage t m := by
  subst hc
  cases msg <;>
  · refine twinArrival_cases fun m t f hf x => ?_
    cases m <;> cases hf; rfl

theorem frameCommand_same (bytes : List Byte) (msg : TwinMessage) :
    s.SameBut (actOf (msg.command bytes) s) twinBlocks := by
  obtain h | ⟨rx, h⟩ | ⟨t, m, h⟩ := frameCommand_cases (c := msg.command bytes) rfl s
  · rw [h]
    exact State.SameBut.refl s _
  · rw [h]
    exact (s.setTlu_same _).mono (by decide)
  · rw [h]
    exact (s.twinReceived_same.mono (by decide)).trans (State.onMessage_same _ t m)

theorem twinBadFrame_same (bytes : List Byte) : s.SameBut (twinBadFrame bytes s) [.tlu] := by
  unfold twinBadFrame
  split <;> exact s.setTlu_same _

theorem twinFrameSend_same : s.SameBut (twinFrameSend s) [.tlu] := by
  unfold twinFrameSend
  split
  · exact State.SameBut.refl s _
  · exact s.setTlu_same _

theorem State.openOffer_same : s.SameBut s.openOffer [.tlu] := (s.formTwin_same _).trans (State.setTlu_same _ _)

theorem offerTimerExpiry_same : s.SameBut (offerTimerExpiry s) twinBlocks :=
  State.SameBut.ite (((s.setTlu_same _).mono (by decide)).trans ((State.enterDetached_same _ _).mono (by decide)))
    (State.SameBut.refl s _)

theorem retryTimerExpiry_same : s.SameBut (retryTimerExpiry s) twinBlocks :=
  State.SameBut.ite ((s.openOffer_same.mono (by decide)).trans ((State.twinChanged_same _ _ _ _).mono (by decide)))
    (State.SameBut.refl s _)

theorem probeSpacingExpiry_same : s.SameBut (probeSpacingExpiry s) twinBlocks :=
  State.SameBut.ite (s.formProbe_same.mono (by decide)) (State.SameBut.refl s _)

theorem probeTimeout_same : s.SameBut (probeTimeout s) twinBlocks := by
  unfold probeTimeout
  split
  · exact State.SameBut.ite (((s.setTlu_same _).mono (by decide)).trans (State.closeProbe_same _ _))
      (State.SameBut.refl s _)
  · exact State.SameBut.refl s _

theorem checkTimerExpiry_same : s.SameBut (checkTimerExpiry s) twinBlocks :=
  State.SameBut.ite (((s.setTlu_same _).mono (by decide)).trans ((State.formProbe_same _).mono (by decide)))
    (State.SameBut.refl s _)

theorem statusAgeLimit_same : s.SameBut (statusAgeLimit s) twinBlocks :=
  State.SameBut.ite (s.withdrawAnchor_same.mono (by decide)) (State.SameBut.refl s _)

theorem twinByteDiscarded_same (byte : Byte) : s.SameBut (twinByteDiscarded byte s) [.tlu] :=
  State.SameBut.ite (s.setTlu_same _) (State.SameBut.refl s _)

/-! ### Stamp ports and grants -/

theorem State.frameArrived_same (p : PortIx) (frame : List Byte) :
    s.SameBut (s.frameArrived p frame) (portBlocks p) := by
  unfold State.frameArrived
  split
  · exact s.goodFrame_same p _
  · exact s.badFrame_same p _ _

theorem State.assemble_same (p : PortIx) (rx : List Byte) : s.SameBut (s.assemble p rx) (portBlocks p) :=
  (s.setPort_same p _).mono (by simp [portBlocks])

theorem stampRequestFrame_same (p : PortIx) (bytes : List Byte) :
    s.SameBut (stampRequestFrame p bytes s) (portBlocks p) := by
  unfold stampRequestFrame
  split
  · exact s.frameArrived_same p _
  · exact s.assemble_same p _
  · exact State.SameBut.refl s _
  · exact State.SameBut.refl s _

theorem stampLengthFault_same (p : PortIx) (bytes : List Byte) :
    s.SameBut (stampLengthFault p bytes s) (portBlocks p) := by
  unfold stampLengthFault
  split
  · exact s.badFrame_same p _ _
  · exact s.assemble_same p _
  · exact State.SameBut.refl s _
  · exact State.SameBut.refl s _

theorem setPort_reexamine_same (p : PortIx) (x : Port) : s.SameBut ((s.setPort p x).reexamine p) (portBlocks p) :=
  ((s.setPort_same p _).mono (by simp [portBlocks])).trans (State.reexamine_same _ p)

theorem portTransmitStart_same (p : PortIx) : s.SameBut (portTransmitStart p s) (portBlocks p) :=
  State.SameBut.ite (setPort_reexamine_same s p _) (State.SameBut.refl s _)

theorem portReplySent_same (p : PortIx) : s.SameBut (portReplySent p s) (portBlocks p) :=
  State.SameBut.ite (setPort_reexamine_same s p _) (State.SameBut.refl s _)

theorem portByteDiscarded_same (p : PortIx) (byte : Byte) : s.SameBut (portByteDiscarded p byte s) [.port p] :=
  State.SameBut.ite (s.setPort_same p _) (State.SameBut.refl s _)

/-- What is done to one port after the other may change the ports, the journal and the notices. -/
theorem State.foldPorts_same {f : State → PortIx → State} (h : ∀ (x : State) (p : PortIx), x.SameBut (f x p) (portBlocks p))
    (ps : List PortIx) : s.SameBut (ps.foldl f s) ([.aj, .clu] ++ allPorts) := by
  induction ps generalizing s with
  | nil => exact State.SameBut.refl s _
  | cons p ps ih => exact ((h s p).mono (by simp [portBlocks])).trans (ih _)

theorem State.restartPorts_same : s.SameBut s.restartPorts ([.aj, .clu] ++ allPorts) :=
  s.foldPorts_same (fun x p => restartPort_same x p) _

theorem State.exhaust_same : s.SameBut s.exhaust ([.sa, .aj, .clu] ++ allPorts) :=
  (((s.setSa_same _).mono (by simp)).trans ((State.foldPorts_same _ exhaustPort_same _).mono
    (by simp +contextual))).trans ((State.configChange_same _ _ _ _ _).mono (by simp))

theorem State.grantPort_same (p : PortIx) (q : StampRequest) :
    s.SameBut (s.grantPort p q) ([.tb, .sa, .aj, .clu] ++ allPorts ++ allGroups) := by
  rw [State.grantPort_eq]
  exact ((s.beginGrant_same.mono (by simp)).trans ((State.stampPlaced_same _ p _ _ _).mono (by simp))).trans
    ((State.reexamine_same _ p).mono (by simp [portBlocks]))

theorem stampGrant_same : s.SameBut (stampGrant s) ([.tb, .sa, .aj, .clu] ++ allPorts ++ allGroups) := by
  unfold stampGrant
  refine State.SameBut.ite (State.SameBut.refl s _) ?_
  split
  · exact State.SameBut.refl s _
  · split
    · exact State.SameBut.refl s _
    · exact State.SameBut.ite (s.exhaust_same.mono (by simp +contextual)) (s.grantPort_same _ _)

theorem State.handOver_same_all (x : Internal) (seq : Option Nat) (t : Nat) :
    s.SameBut (s.handOver x seq t) [.du, .auctions, .aj, .clu] :=
  (s.handOver_same x seq t).mono (by cases x <;> simp [Internal.holder])

theorem State.grantInternal_same (x : Internal) :
    s.SameBut (s.grantInternal x) [.tb, .sa, .du, .auctions, .aj, .clu] :=
  ((s.beginGrant_same.mono (by decide)).trans ((State.setSa_same _ _).mono (by decide))).trans
    ((State.handOver_same_all _ _ _ _).mono (by decide))

theorem internalGrant_same :
    s.SameBut (internalGrant s) ([.tb, .sa, .du, .auctions, .aj, .clu] ++ allPorts) := by
  unfold internalGrant
  refine State.SameBut.ite (State.SameBut.refl s _) ?_
  split
  · exact State.SameBut.refl s _
  · exact State.SameBut.ite (s.exhaust_same.mono (by simp +contextual)) ((s.grantInternal_same _).mono (by simp))

theorem unsequencedHandoff_same : s.SameBut (unsequencedHandoff s) [.du, .auctions, .aj, .clu] := by
  unfold unsequencedHandoff
  refine State.SameBut.ite ?_ (State.SameBut.refl s _)
  split
  · exact State.SameBut.refl s _
  · exact s.handOver_same_all _ _ _

/-! ### Control link -/

theorem controlFrame_same (bytes : List Byte) : s.SameBut (controlFrame bytes s) [.clu] := by
  unfold controlFrame
  split <;> exact s.setClu_same _

theorem controlBadLength_same (bytes : List Byte) : s.SameBut (controlBadLength bytes s) [.clu] := by
  unfold controlBadLength
  split <;> exact s.setClu_same _

theorem controlByteDiscarded_same (byte : Byte) : s.SameBut (controlByteDiscarded byte s) [.clu] :=
  State.SameBut.ite (s.setClu_same _) (State.SameBut.refl s _)

theorem answerBusyReply_same : s.SameBut (answerBusyReply s) [.clu] := by
  unfold answerBusyReply
  split
  · exact State.SameBut.refl s _
  · exact State.SameBut.ite (s.setClu_same _) (State.SameBut.refl s _)

theorem State.placeReply_same (q : ControlRequest) (payload : List Byte) :
    s.SameBut (s.placeReply q payload) [.clu] := s.clu_same _

theorem unknownRequest_same : s.SameBut (unknownRequest s) [.clu] := by
  unfold unknownRequest
  split
  · exact State.SameBut.refl s _
  · have h (q st c) : s.SameBut (s.refuseForm q st c) [.clu] :=
      (s.setClu_same _).trans (State.placeReply_same _ _ _)
    exact State.SameBut.ite (h _ _ _) (State.SameBut.ite (h _ _ _) (State.SameBut.refl s _))

theorem controlFrameSent_same : s.SameBut (controlFrameSent s) [.clu] := by
  unfold controlFrameSent
  split <;> exact s.setClu_same _

theorem journalMark_same : s.SameBut (journalMark s) [.clu] := by
  unfold journalMark
  split
  · exact State.SameBut.refl s _
  · exact s.beginService_same.trans (State.clu_same _ _)

theorem settingsSave_same : s.SameBut (settingsSave s) [.clu, .ss] := by
  unfold settingsSave
  split
  · exact State.SameBut.refl s _
  · exact (s.beginService_same.mono (by decide)).trans ((State.ss_same _ _).mono (by decide))

theorem settingsSaveComplete_same (readBack : List Byte) :
    s.SameBut (settingsSaveComplete readBack s) [.ss, .aj, .clu] := by
  unfold settingsSaveComplete
  split
  · exact State.SameBut.refl s _
  · exact State.SameBut.ite ((((s.ss_same _).mono (by decide)).trans ((State.admin_same _ _).mono (by decide))).trans
      ((State.answerInService_same _ _).mono (by decide))) (State.SameBut.refl s _)

theorem State.restartBlocks_same :
    s.SameBut s.restartBlocks ([.auctions, .aj, .clu] ++ allPorts ++ allGroups) :=
  ((s.restartPorts_same.mono (by simp +contextual)).trans ((State.restartGroups_same _).mono
    (by simp +contextual))).trans ((State.admin_same _ _).mono (by simp))

theorem restart_same : s.SameBut (restart s) ([.auctions, .aj, .clu] ++ allPorts ++ allGroups) := by
  unfold restart
  split
  · exact State.SameBut.refl s _
  · exact (((s.beginService_same.mono (by simp)).trans (State.restartBlocks_same _)).trans
      ((State.answer_same _ _ _).mono (by simp))).trans ((State.clu_same _ _).mono (by simp))

/-! ### Requests -/

variable (payload : List Byte)

/-- What the owner of a request may change, CLU aside, the taking of it may change. -/
theorem takeRequest_same {kind : Nat} {act : List Byte → State → Acted} {bs : List Block}
    (h : ∀ p x, State.SameBut x (act p x).state bs) (hclu : .clu ∈ bs) : s.SameBut (takeRequest kind act s) bs := by
  have hone : ∀ b, b ∈ [Block.clu] → b ∈ bs := by simpa using hclu
  unfold takeRequest
  split
  · exact State.SameBut.refl s _
  · exact ((s.beginService_same.mono hone).trans (h _ _)).trans ((State.answer_same _ _ _).mono hone)

theorem statusPort_same : s.SameBut (statusPort payload s).state (.clu :: allPorts) := by
  unfold statusPort
  split
  · exact State.SameBut.refl s _
  · exact (s.setPort_same _ _).mono (by simp)

theorem statusGroup_same : s.SameBut (statusGroup payload s).state [.clu] := by
  unfold statusGroup
  split <;> exact State.SameBut.refl s _

theorem State.clockSetApplied_same (v bd : Nat) (o : Int) (b a : Nat) :
    s.SameBut (s.clockSetApplied v bd o b a) disciplineBlocks := by
  unfold State.clockSetApplied
  simp only
  have h {x : Discipline} :
      s.SameBut (((s.stepTime ((v : Int) - s.tb.raw)).setDu x).writeOffset o .host).markStale disciplineBlocks :=
    (((s.stepTime_same _).trans ((State.setDu_same _ _).mono (by decide))).trans (State.writeOffset_same _ _ _)).trans
      ((State.markStale_same _).mono (by decide))
  refine State.SameBut.trans ?_ ((State.clockRecord_same _ _).mono (by decide))
  split
  · exact h.trans ((State.setDu_same _ _).mono (by decide))
  all_goals exact h

theorem clockSet_same : s.SameBut (clockSet payload s).state disciplineBlocks := by
  unfold clockSet
  simp only
  split
  · split
    · exact s.clockSetApplied_same _ _ _ _ _
    · exact State.SameBut.refl s _
  · exact State.SameBut.refl s _

/-- The blocks REF_CONFIG may change. -/
def refConfigBlocks : List Block := .mon .a :: .mon .b :: disciplineBlocks

theorem State.setEnable_same (r : Ref) (e : Bool) : s.SameBut (s.setEnable r e) refConfigBlocks := by
  unfold State.setEnable
  have h := (s.setMon_same r ((s.mon r).setEnable e s.tick)).mono (cs := refConfigBlocks)
    (by cases r <;> decide)
  refine State.SameBut.ite h (h.trans (State.SameBut.trans (?_ : State.SameBut _ (State.refChanged _ _ _ _) _)
    ((State.evaluateReport_same _ _ _ _ _).mono (by decide))))
  exact (State.notice_same _ _ _).mono (by decide)

theorem State.setPreferred_same (r : Ref) : s.SameBut (s.setPreferred r) disciplineBlocks :=
  State.SameBut.ite (State.SameBut.refl s _)
    (((s.setDu_same _).mono (by decide)).trans (State.evaluateSelection_same _ _))

theorem State.configureRef_same (r : Ref) (e : Bool) (c : Nat) (d : Int) (p : Ref) :
    s.SameBut (s.configureRef r e c d p) refConfigBlocks :=
  (((s.setEnable_same r e).trans ((State.setMon_same _ r _).mono (by cases r <;> decide))).trans
    ((State.tb_same _ _).mono (by decide))).trans ((State.setPreferred_same _ p).mono (by decide))

theorem refConfig_same : s.SameBut (refConfig payload s).state refConfigBlocks := by
  unfold refConfig
  split
  · exact (s.configureRef_same _ _ _ _ _).trans ((State.configChange_same _ _ _ _ _).mono (by decide))
  · exact State.SameBut.refl s _

theorem servoConfig_same : s.SameBut (servoConfig payload s).state [.tb, .aj, .clu] :=
  ((s.tb_same _).mono (by decide)).trans ((State.configChange_same _ _ _ _ _).mono (by decide))

theorem traceConfig_same : s.SameBut (traceConfig payload s).state [.tb, .aj, .clu] :=
  ((s.tb_same _).mono (by decide)).trans ((State.configChange_same _ _ _ _ _).mono (by decide))

theorem twinConfig_same : s.SameBut (twinConfig payload s).state [.tlu, .aj, .clu] := by
  unfold twinConfig
  split
  · exact State.SameBut.refl s _
  · split
    · exact ((s.setTlu_same _).mono (by decide)).trans ((State.configChange_same _ _ _ _ _).mono (by decide))
    · exact State.SameBut.refl s _

theorem twinStart_same : s.SameBut (twinStart payload s).state [.tlu, .clu] := by
  unfold twinStart
  split
  · exact (s.openOffer_same.mono (by decide)).trans ((State.twinChanged_same _ _ _ _).mono (by decide))
  all_goals exact State.SameBut.refl s _

theorem State.stopTwin_same : s.SameBut s.stopTwin twinBlocks :=
  (((((s.formTwin_same _).mono (by decide)).trans ((State.setTlu_same _ _).mono (by decide))).trans
    (((State.withdrawAnchor_same _).mono (by decide)).trans ((State.uncontest_same _ _ _).mono (by decide)))).trans
    ((State.setTlu_same _ _).mono (by decide))).trans ((State.twinChanged_same _ _ _ _).mono (by decide))

theorem twinStop_same : s.SameBut (twinStop payload s).state twinBlocks := by
  unfold twinStop
  split
  · exact State.SameBut.refl s _
  all_goals exact s.stopTwin_same

theorem State.openPort_same (p : PortIx) : s.SameBut (s.openPort p) (portBlocks p) :=
  ((((s.setPort_same p _).mono (by simp [portBlocks])).trans ((State.admin_same _ _).mono (by simp [portBlocks]))).trans
    ((State.portChanged_same _ _ _ _).mono (by simp [portBlocks]))).trans (State.reexamine_same _ p)

theorem portOpen_same : s.SameBut (portOpen payload s).state ([.aj, .clu] ++ allPorts) := by
  unfold portOpen
  split
  · exact State.SameBut.refl s _
  · split
    · exact State.SameBut.refl s _
    · split
      · exact State.SameBut.refl s _
      · unfold State.openRequest
        split <;> first
          | exact State.SameBut.refl s _
          | exact (s.openPort_same _).mono (by simp [portBlocks])

theorem State.closeRequest_same (p : PortIx) : s.SameBut (s.closeRequest p) (portBlocks p) := by
  unfold State.closeRequest
  split
  · exact State.SameBut.ite (s.closePort_same p _) ((((s.setPort_same p _).mono (by simp [portBlocks])).trans
      ((State.portChanged_same _ _ _ _).mono (by simp [portBlocks]))).trans (State.reexamine_same _ p))
  · exact (s.closePort_same p _).trans (State.reexamine_same _ p)
  · exact State.SameBut.refl s _
  · exact State.SameBut.refl s _

theorem portClose_same : s.SameBut (portClose payload s).state ([.aj, .clu] ++ allPorts) := by
  unfold portClose
  split
  · exact State.SameBut.refl s _
  · exact (s.closeRequest_same _).mono (by simp [portBlocks])

/-- The blocks a group request may change. -/
def groupBlocks : List Block := [.auctions, .demands, .clu] ++ allGroups

theorem groupRequest_same (forms : Group → Bool) {act : GroupIx → Nat → State → Acted}
    (h : ∀ g now x, State.SameBut x (act g now x).state groupBlocks) :
    s.SameBut (groupRequest forms act payload s).state groupBlocks := by
  unfold groupRequest
  split
  · exact State.SameBut.refl s _
  · next g _ =>
    have hcatch := (s.catchUp_same g s.dating true).mono (cs := groupBlocks) (by simp [groupBlocks])
    simp only
    split
    · exact hcatch
    · exact hcatch.trans (h _ _ _)

theorem State.schedule_same (g : GroupIx) (tc tm window now : Nat) :
    s.SameBut (s.schedule g tc tm window now) groupBlocks := by
  unfold State.schedule
  have h := fun y r => (s.demand_same.mono (cs := groupBlocks) (by simp [groupBlocks])).trans
    ((State.auctionStep_same s.demand g y r true).mono (by simp [groupBlocks]))
  exact State.SameBut.ite ((h _ _).trans ((State.takeExpiry_same _ g _ _).mono (by simp [groupBlocks]))) (h _ _)

theorem groupSchedule_same : s.SameBut (groupSchedule payload s).state groupBlocks :=
  groupRequest_same s payload _ fun g now x => by
    simp only
    split
    · exact State.SameBut.refl x _
    · exact x.schedule_same g _ _ _ _

theorem State.lengthen_same (g : GroupIx) (k : ExtKind) (st : AuctionStep) (n : Clamped Nat) (now : Nat) :
    s.SameBut (s.lengthen g k st n now).state groupBlocks :=
  (s.extendGroup_same g k st _ _).mono (by simp [groupBlocks])

theorem groupExtend_same : s.SameBut (groupExtend payload s).state groupBlocks :=
  groupRequest_same s payload _ fun g now x => by
    split
    · exact State.SameBut.refl x _
    · exact x.lengthen_same g _ _ _ _

theorem groupResume_same : s.SameBut (groupResume payload s).state groupBlocks :=
  groupRequest_same s payload _ fun g now x => by
    split
    · exact State.SameBut.refl x _
    · exact x.lengthen_same g _ _ _ _

theorem groupSuspend_same : s.SameBut (groupSuspend payload s).state groupBlocks :=
  groupRequest_same s payload _ fun g now x => by
    split
    · exact State.SameBut.refl x _
    · exact (x.suspendGroup_same g _ _ _).mono (by simp [groupBlocks])

theorem groupAbandon_same : s.SameBut (groupAbandon payload s).state groupBlocks :=
  groupRequest_same s payload _ fun g now x => by
    split
    · exact State.SameBut.refl x _
    · exact (x.abandonGroup_same g _ _ _).mono (by simp [groupBlocks])

theorem State.clearRequest_same (g : GroupIx) (now : Nat) : s.SameBut (s.clearRequest g now).state groupBlocks := by
  unfold State.clearRequest
  split
  · exact State.SameBut.refl s _
  · exact ((s.abandonGroup_same g _ _ _).mono (by simp [groupBlocks])).trans
      ((State.clearGroup_same _ g _ _).mono (by simp [groupBlocks]))
  · exact (s.clearGroup_same g _ _).mono (by simp [groupBlocks])
  · exact (s.clearGroup_same g _ _).mono (by simp [groupBlocks])
  all_goals exact State.SameBut.refl s _

theorem groupClear_same : s.SameBut (groupClear payload s).state groupBlocks :=
  groupRequest_same s payload _ fun g now x => x.clearRequest_same g now

theorem journalRead_same : s.SameBut (journalRead payload s).state [.aj, .clu] := (s.aj_same _).mono (by decide)

theorem journalRelease_same : s.SameBut (journalRelease payload s).state [.aj, .clu] :=
  ((s.aj_same _).mono (by decide)).trans (State.gap_same _)

theorem selectConfig_same : s.SameBut (selectConfig payload s).state [.aj, .clu] := by
  unfold selectConfig
  split
  · exact State.SameBut.refl s _
  · split
    · exact ((s.aj_same _).mono (by decide)).trans (State.admin_same _ _)
    · exact State.SameBut.refl s _

theorem noticeConfig_same : s.SameBut (noticeConfig payload s).state [.clu] := by
  unfold noticeConfig
  split
  · exact s.setClu_same _
  · exact State.SameBut.refl s _

end

/-! ### One list for each command -/

/-- The blocks that the action of a command may change. -/
def actBlocks : Instr → List Block
  | .reset _ | .startUp => []
  | .oscillatorTick => [.tick, .tb]
  | .secondBoundary => .tb :: boundaryBlocks
  | .callStartExpiry | .windowStartExpiry | .closeExpiry => [.auctions, .clu] ++ allGroups
  | .markEdge r | .timeMessage r _ | .messageWaitExpiry r | .missingMarkExpiry r => markBlocks r
  | .twinBadFrame _ | .twinFrameSend | .twinByteDiscarded _ => [.tlu]
  | .offerReceived _ | .acceptReceived _ | .refuseReceived _ | .byeReceived _ | .probeReceived _ | .echoReceived _
  | .statusReceived _ | .offerTimerExpiry | .retryTimerExpiry | .probeSpacingExpiry | .probeTimeout | .checkTimerExpiry
  | .statusAgeLimit | .twinStop => twinBlocks
  | .stampRequestFrame p _ | .stampLengthFault p _ | .portTransmitStart p | .portReplySent p => portBlocks p
  | .stampGrant => [.tb, .sa, .aj, .clu] ++ allPorts ++ allGroups
  | .internalGrant => [.tb, .sa, .du, .auctions, .aj, .clu] ++ allPorts
  | .unsequencedHandoff => [.du, .auctions, .aj, .clu]
  | .controlFrame _ | .controlBadLength _ | .answerBusyReply | .unknownRequest | .controlTransmitStart
  | .controlFrameSent | .identify | .statusClock | .statusRef | .statusTwin | .statusGroup | .statusJournal
  | .journalMark | .noticeConfig | .controlByteDiscarded _ => [.clu]
  | .statusPort => .clu :: allPorts
  | .clockSet => disciplineBlocks
  | .refConfig => refConfigBlocks
  | .servoConfig | .traceConfig => [.tb, .aj, .clu]
  | .twinConfig => [.tlu, .aj, .clu]
  | .twinStart => [.tlu, .clu]
  | .portOpen | .portClose => [.aj, .clu] ++ allPorts
  | .groupSchedule | .groupExtend | .groupSuspend | .groupResume | .groupAbandon | .groupClear => groupBlocks
  | .journalRead | .journalRelease | .selectConfig => [.aj, .clu]
  | .settingsSave => [.clu, .ss]
  | .settingsSaveComplete _ => [.ss, .aj, .clu]
  | .restart => [.auctions, .aj, .clu] ++ allPorts ++ allGroups
  | .refByteDiscarded r _ => [.mon r]
  | .portByteDiscarded p _ => [.port p]

theorem actOf_same (c : Instr) (s : State) : s.SameBut (actOf c s) (actBlocks c) := by
  cases c with
  | reset | startUp => exact State.SameBut.refl s _
  | oscillatorTick => exact oscillatorTick_same s
  | secondBoundary => exact secondBoundary_same s
  | callStartExpiry | windowStartExpiry | closeExpiry => exact expiry_same s _
  | markEdge r => exact markEdge_same s r
  | timeMessage r bytes => exact timeMessage_same s r bytes
  | messageWaitExpiry r => exact messageWaitExpiry_same s r
  | missingMarkExpiry r => exact missingMarkExpiry_same s r
  | twinBadFrame bytes => exact twinBadFrame_same s bytes
  | offerReceived bytes => exact frameCommand_same s bytes (.offer ⟨0, 0, 0⟩)
  | acceptReceived bytes => exact frameCommand_same s bytes (.accept ⟨0, 0, 0⟩)
  | refuseReceived bytes => exact frameCommand_same s bytes (.refuse 0 0)
  | byeReceived bytes => exact frameCommand_same s bytes .bye
  | probeReceived bytes => exact frameCommand_same s bytes (.probe 0)
  | echoReceived bytes => exact frameCommand_same s bytes (.echo 0 0 0)
  | statusReceived bytes => exact frameCommand_same s bytes (.status ⟨.unset, none, .unset, none, 0⟩)
  | twinFrameSend => exact twinFrameSend_same s
  | offerTimerExpiry => exact offerTimerExpiry_same s
  | retryTimerExpiry => exact retryTimerExpiry_same s
  | probeSpacingExpiry => exact probeSpacingExpiry_same s
  | probeTimeout => exact probeTimeout_same s
  | checkTimerExpiry => exact checkTimerExpiry_same s
  | statusAgeLimit => exact statusAgeLimit_same s
  | stampRequestFrame p bytes => exact stampRequestFrame_same s p bytes
  | stampLengthFault p bytes => exact stampLengthFault_same s p bytes
  | stampGrant => exact stampGrant_same s
  | internalGrant => exact internalGrant_same s
  | unsequencedHandoff => exact unsequencedHandoff_same s
  | portTransmitStart p => exact portTransmitStart_same s p
  | portReplySent p => exact portReplySent_same s p
  | controlFrame bytes => exact controlFrame_same s bytes
  | controlBadLength bytes => exact controlBadLength_same s bytes
  | answerBusyReply => exact answerBusyReply_same s
  | unknownRequest => exact unknownRequest_same s
  | controlTransmitStart => exact s.setClu_same _
  | controlFrameSent => exact controlFrameSent_same s
  | identify | statusClock | statusRef | statusTwin | statusJournal =>
    exact takeRequest_same s (fun _ x => State.SameBut.refl x _) (by decide)
  | statusPort => exact takeRequest_same s (fun p x => statusPort_same x p) (by simp [actBlocks])
  | statusGroup => exact takeRequest_same s (fun p x => statusGroup_same x p) (by decide)
  | clockSet => exact takeRequest_same s (fun p x => clockSet_same x p) (by decide)
  | refConfig => exact takeRequest_same s (fun p x => refConfig_same x p) (by decide)
  | servoConfig => exact takeRequest_same s (fun p x => servoConfig_same x p) (by decide)
  | traceConfig => exact takeRequest_same s (fun p x => traceConfig_same x p) (by decide)
  | twinConfig => exact takeRequest_same s (fun p x => twinConfig_same x p) (by decide)
  | twinStart => exact takeRequest_same s (fun p x => twinStart_same x p) (by decide)
  | twinStop => exact takeRequest_same s (fun p x => twinStop_same x p) (by decide)
  | portOpen => exact takeRequest_same s (fun p x => portOpen_same x p) (by simp [actBlocks])
  | portClose => exact takeRequest_same s (fun p x => portClose_same x p) (by simp [actBlocks])
  | groupSchedule => exact takeRequest_same s (fun p x => groupSchedule_same x p) (by simp [actBlocks, groupBlocks])
  | groupExtend => exact takeRequest_same s (fun p x => groupExtend_same x p) (by simp [actBlocks, groupBlocks])
  | groupSuspend => exact takeRequest_same s (fun p x => groupSuspend_same x p) (by simp [actBlocks, groupBlocks])
  | groupResume => exact takeRequest_same s (fun p x => groupResume_same x p) (by simp [actBlocks, groupBlocks])
  | groupAbandon => exact takeRequest_same s (fun p x => groupAbandon_same x p) (by simp [actBlocks, groupBlocks])
  | groupClear => exact takeRequest_same s (fun p x => groupClear_same x p) (by simp [actBlocks, groupBlocks])
  | journalRead => exact takeRequest_same s (fun p x => journalRead_same x p) (by decide)
  | journalRelease => exact takeRequest_same s (fun p x => journalRelease_same x p) (by decide)
  | journalMark => exact journalMark_same s
  | selectConfig => exact takeRequest_same s (fun p x => selectConfig_same x p) (by decide)
  | noticeConfig => exact takeRequest_same s (fun p x => noticeConfig_same x p) (by decide)
  | settingsSave => exact settingsSave_same s
  | settingsSaveComplete readBack => exact settingsSaveComplete_same s readBack
  | restart => exact restart_same s
  | refByteDiscarded r byte => exact refByteDiscarded_same s r byte
  | twinByteDiscarded byte => exact twinByteDiscarded_same s byte
  | portByteDiscarded p byte => exact portByteDiscarded_same s p byte
  | controlByteDiscarded byte => exact controlByteDiscarded_same s byte

end Sys2Proof.Machine
end

section
/-! Every command answers, and none touches the queue, the serial number or the epoch; a held part takes only a reset and
its end. -/

namespace Sys2Proof.Machine

/-- The blocks that belong to no unit of a running part. -/
def idleBlocks : List Block := [.power, .cause, .epoch, .serial, .pending]

theorem actBlocks_disjoint_idleBlocks (c : Instr) : ∀ b ∈ idleBlocks, b ∉ actBlocks c := by
  cases c <;>
    simp [idleBlocks, actBlocks, boundaryBlocks, markBlocks, disciplineBlocks, twinBlocks, portBlocks, refConfigBlocks,
      groupBlocks, allPorts, allGroups]

theorem actOf_idle (c : Instr) (s : State) {b : Block} (hb : b ∈ idleBlocks) : s.agreesOn (actOf c s) b :=
  actOf_same c s b (actBlocks_disjoint_idleBlocks c b hb)

@[simp] theorem actOf_power (c : Instr) (s : State) : (actOf c s).power = s.power :=
  actOf_idle c s (b := .power) (by decide)
@[simp] theorem actOf_epoch (c : Instr) (s : State) : (actOf c s).epoch = s.epoch :=
  actOf_idle c s (b := .epoch) (by decide)
@[simp] theorem actOf_serial (c : Instr) (s : State) : (actOf c s).serial = s.serial :=
  actOf_idle c s (b := .serial) (by decide)
@[simp] theorem actOf_pending (c : Instr) (s : State) : (actOf c s).pending = s.pending :=
  actOf_idle c s (b := .pending) (by decide)

/-! ### Start-up -/

theorem State.offerAtStart_same (s : State) : s.SameBut s.offerAtStart [.tlu, .clu] :=
  State.SameBut.ite ((s.openOffer_same.mono (by decide)).trans ((State.twinChanged_same _ _ _ _).mono (by decide)))
    (State.SameBut.refl s _)

/-- The part as start-up first sets its blocks (R180, R181). -/
def startBlocks (cause : ResetCause) (s : State) : State :=
  blocksSet cause (issueEpoch s.ss.epochCounter) ((loadProfile s.ss.profile).getD {})
    (if (loadProfile s.ss.profile).isSome then .loaded else .defaulted) s

/-- What follows the setting of the blocks: the STARTUP record and notice, and the first OFFER (R182, R80). -/
theorem startUpFrom_same (cause : ResetCause) (s : State) :
    (startBlocks cause s).SameBut (startUpFrom cause s) [.tlu, .aj, .clu] :=
  (((State.admin_same _ _).mono (by decide)).trans ((State.notice_same _ _ _).mono (by decide))).trans
    ((State.offerAtStart_same _).mono (by decide))

/-- Settles O2: RESET and START_UP set every block but these two, and an action's frame leaves them out. -/
theorem everyCommandAnswersAndKeepsTheQueue : Obligations.EveryCommandAnswersAndKeepsTheQueue := by
  refine ⟨fun c s => ?_, fun s h => ?_, fun c cause s hheld hreset hstart => ?_⟩
  · by_cases hreset : ∃ k, c = .reset k
    · obtain ⟨k, rfl⟩ := hreset
      exact ⟨_, rfl, rfl, rfl⟩
    by_cases hstart : c = .startUp
    · subst hstart
      cases hp : s.power with
      | running => exact ⟨s, by simp only [exec, execStartUp, startUp, hp], rfl, rfl⟩
      | held cause =>
        exact ⟨_, exec_startUp_of_held hp, startUpFrom_same cause s .pending (by decide),
          startUpFrom_same cause s .serial (by decide)⟩
    have hexec := exec_eq_live (fun k hk => hreset ⟨k, hk⟩) hstart s
    cases hp : s.power with
    | running => exact ⟨_, hexec.trans (live_of_running hp _), actOf_pending c s, actOf_serial c s⟩
    | held cause => exact ⟨s, hexec.trans (live_of_held hp _), rfl, rfl⟩
  · simp only [step, h]
  · exact (exec_eq_live hreset hstart s).trans (live_of_held hheld _)

end Sys2Proof.Machine
end

section
/-! What records and notices do to AJ and CLU. An operation that only submits records, loses them and raises notices keeps
the form of the pool and touches nothing of CLU but the notices; this is said once of the three and then of every
operation that is built from them. -/

namespace Sys2Proof.Machine

/-! ### The pool (R141, R144) -/

theorem totalSize_append (xs ys : List Record) : totalSize (xs ++ ys) = totalSize xs + totalSize ys := by
  simp [totalSize]

theorem numbersFrom_append (n : Nat) (xs ys : List Record) :
    numbersFrom n (xs ++ ys) = (numbersFrom n xs && numbersFrom (n + xs.length) ys) := by
  induction xs generalizing n with
  | nil => simp [numbersFrom]
  | cons x xs ih =>
    simp only [List.cons_append, numbersFrom, ih, List.length_cons, Bool.and_assoc, Nat.add_assoc, Nat.add_comm 1]

theorem Journal.oldest_append {j : Journal} (h : j.pool ≠ []) (xs : List Record) (k : Journal)
    (hk : k.pool = j.pool ++ xs) : k.oldest = j.oldest := by
  cases hj : j.pool with
  | nil => exact absurd hj h
  | cons r rs => simp only [Journal.oldest, hk, hj, List.cons_append]

theorem Body.size_pos (b : Body) : 0 < b.size := by
  cases b <;> simp only [Body.size] <;> omega

/-- A record that Equation 1 admits leaves the used bytes within the pool. -/
theorem Journal.used_add_size_le {j : Journal} {b : Body} (hfits : j.fits b = true) : j.used + b.size ≤ poolSize := by
  have hpos := b.size_pos
  have hle : b.kind.tier + b.size ≤ poolSize - j.used := of_decide_eq_true hfits
  omega

/-- Two journals alike in the pool, its figures and the selectors. -/
structure Journal.SamePool (j k : Journal) : Prop where
  pool : k.pool = j.pool
  used : k.used = j.used
  next : k.next = j.next
  selectors : k.selectors = j.selectors

theorem Journal.SamePool.wf {j k : Journal} (h : j.SamePool k) (hj : j.Wf) : k.Wf := by
  have hold : k.oldest = j.oldest := by simp only [Journal.oldest, h.pool]
  have hnew : k.newest = j.newest := by simp only [Journal.newest, h.next]
  simpa only [Journal.Wf, h.pool, h.used, h.next, hold, hnew] using hj

/-- R144: a placed record keeps the form of the pool. -/
theorem Journal.place_wf {j : Journal} {n : Nat} {b : Body} (hj : j.Wf) (hn : j.next = some n)
    (hfits : j.fits b = true) : (j.place n b).Wf := by
  obtain ⟨hused, _, hnumbers, hnext, hspan⟩ := hj
  obtain ⟨hlo, hhi⟩ := hnext n hn
  have hpool : (j.place n b).pool = j.pool ++ [⟨n, chainWord n j.chain b, b⟩] := rfl
  have hnewest : (j.place n b).newest = n := by
    have h : (j.place n b).next = nextNumber n := rfl
    simp only [Journal.newest, h, nextNumber]
    split <;> simp_all <;> omega
  have hwas : j.newest = n - 1 := by simp only [Journal.newest, hn]
  refine ⟨?_, j.used_add_size_le hfits, ?_, ?_, fun _ => ?_⟩
  · simp only [hpool, totalSize_append, ← hused]
    rfl
  · cases hp : j.pool with
    | nil => simp [Journal.oldest, hpool, hp, numbersFrom]
    | cons r rs =>
      have hne : j.pool ≠ [] := by simp [hp]
      obtain ⟨_, hlast⟩ := hspan hne
      rw [Journal.oldest_append hne _ _ hpool, hpool, numbersFrom_append, hnumbers]
      simp only [numbersFrom, Bool.and_true, Bool.true_and, decide_eq_true_eq]
      omega
  · intro m hm
    have hnum : nextNumber n = some m := hm
    unfold nextNumber at hnum
    split at hnum
    · cases hnum
      omega
    · cases hnum
  · rw [hnewest, hpool]
    cases hp : j.pool with
    | nil => simp [Journal.oldest, hpool, hp, hlo]
    | cons r rs =>
      have hne : j.pool ≠ [] := by simp [hp]
      obtain ⟨hone, hlast⟩ := hspan hne
      rw [Journal.oldest_append hne _ _ hpool, ← hp, List.length_append, List.length_singleton]
      omega

/-- The record of a decision RECORDED n is numbered n, the next number, and fits. -/
theorem Journal.decision_recorded {j : Journal} {b : Body} {n : Nat} (h : j.decision b = .recorded n) :
    j.next = some n ∧ j.fits b = true := by
  unfold Journal.decision at h
  split at h
  · cases h
  · split at h
    · next m hm =>
      split at h
      · next hf =>
        cases h
        exact ⟨hm, hf⟩
      · cases h
    · cases h

/-- What a submission leaves of the pool: the record is placed at the back, or the pool stays. -/
theorem State.submit_aj_cases (s : State) (b : Body) :
    s.aj.SamePool (s.submit b).aj ∨
      ∃ n, s.aj.next = some n ∧ s.aj.fits b = true ∧ (s.aj.place n b).SamePool (s.submit b).aj := by
  unfold State.submit
  split
  · next n h =>
    obtain ⟨hn, hf⟩ := Journal.decision_recorded h
    exact .inr ⟨n, hn, hf, ⟨rfl, rfl, rfl, rfl⟩⟩
  · exact .inl ⟨rfl, rfl, rfl, rfl⟩
  · exact .inl ⟨rfl, rfl, rfl, rfl⟩

theorem State.submit_wf {s : State} (b : Body) (h : s.aj.Wf) : (s.submit b).aj.Wf := by
  obtain hsame | ⟨n, hn, hf, hsame⟩ := s.submit_aj_cases b
  · exact hsame.wf h
  · exact hsame.wf (Journal.place_wf h hn hf)

/-- Every record of a journal's pool is of a length up to the longest kind's (Table 8-1). -/
def Journal.SizesFit (j : Journal) : Prop := ∀ r ∈ j.pool, r.body.size ≤ 104

theorem Journal.SamePool.sizesFit {j k : Journal} (h : j.SamePool k) (hj : j.SizesFit) : k.SizesFit := by
  intro r hr
  rw [h.pool] at hr
  exact hj r hr

theorem State.submit_sizesFit {s : State} {b : Body} (hb : b.size ≤ 104) (h : s.aj.SizesFit) :
    (s.submit b).aj.SizesFit := by
  obtain hsame | ⟨n, _, _, hsame⟩ := s.submit_aj_cases b
  · exact hsame.sizesFit h
  · refine hsame.sizesFit fun r hr => ?_
    have hmem : r ∈ s.aj.pool ++ [⟨n, chainWord n s.aj.chain b, b⟩] := hr
    obtain hold | hnew := List.mem_append.mp hmem
    · exact h r hold
    · rw [List.mem_singleton.mp hnew]
      exact hb

theorem State.submit_selectors (s : State) (b : Body) : (s.submit b).aj.selectors = s.aj.selectors := by
  obtain h | ⟨_, _, _, h⟩ := s.submit_aj_cases b
  · exact h.selectors
  · exact h.selectors

/-! ### Notices (R174) -/

/-- CLU with nothing changed but notices raised. -/
structure Control.Noticed (c d : Control) : Prop where
  requests : c.SameRequests d
  rx : d.rx = c.rx
  tx : d.tx = c.tx
  enables : d.enables = c.enables
  tick : d.tick = c.tick
  bounded : c.notices.length ≤ noticeListMax → d.notices.length ≤ noticeListMax

theorem Control.Noticed.refl (c : Control) : c.Noticed c := ⟨.refl c, rfl, rfl, rfl, rfl, id⟩

theorem Control.Noticed.trans {c d e : Control} (h : c.Noticed d) (k : d.Noticed e) : c.Noticed e :=
  ⟨h.requests.trans k.requests, k.rx.trans h.rx, k.tx.trans h.tx, k.enables.trans h.enables, k.tick.trans h.tick,
    k.bounded ∘ h.bounded⟩

theorem Control.notice_noticed (c : Control) (cls : NoticeClass) (f : List Fld) : c.Noticed (c.notice cls f) := by
  obtain ⟨hq, hr, hc, hm, he, ht, hrx, htx⟩ := c.notice_keeps cls f
  refine ⟨⟨hq, hr, hc, hm⟩, hrx, htx, he, ht, fun h => ?_⟩
  unfold Control.notice
  split
  · split
    · next hlt =>
      rw [List.length_append]
      exact hlt
    · exact h
  · exact h

theorem Control.levelNotices_noticed (c : Control) (old new : Journal) (dating : Nat) :
    c.Noticed (c.levelNotices old new dating) := by
  unfold Control.levelNotices
  split <;> split
  · exact (c.notice_noticed _ _).trans (Control.notice_noticed _ _ _)
  · exact c.notice_noticed _ _
  · exact c.notice_noticed _ _
  · exact .refl c

/-! ### Records and notices together -/

/-- AJ and CLU moved by records and notices alone. -/
structure Logging (j k : Journal) (c d : Control) : Prop where
  wf : j.Wf → k.Wf
  sizesFit : j.SizesFit → k.SizesFit
  selectors : k.selectors = j.selectors
  noticed : c.Noticed d

/-- `t` is reached from `s` by records and notices, as far as AJ and CLU are concerned. -/
abbrev State.Logged (s t : State) : Prop := Logging s.aj t.aj s.clu t.clu

namespace State.Logged

theorem refl (s : State) : s.Logged s := ⟨id, id, rfl, .refl s.clu⟩

theorem trans {s t u : State} (h : s.Logged t) (k : t.Logged u) : s.Logged u :=
  ⟨k.wf ∘ h.wf, k.sizesFit ∘ h.sizesFit, k.selectors.trans h.selectors, h.noticed.trans k.noticed⟩

theorem ite {s t u : State} {c : Prop} [Decidable c] (h : s.Logged t) (k : s.Logged u) :
    s.Logged (if c then t else u) := by
  split <;> assumption

variable {s t : State}

/-- What keeps AJ and CLU keeps what has been logged. -/
theorem of_same {u : State} {bs : List Block} (h : s.Logged t) (k : t.SameBut u bs) (haj : .aj ∉ bs) (hclu : .clu ∉ bs) :
    s.Logged u := by
  have hj : u.aj = t.aj := k .aj haj
  have hc : u.clu = t.clu := k .clu hclu
  rw [State.Logged, hj, hc]
  exact h

theorem setTlu (h : s.Logged t) (x : TwinLink) : s.Logged (t.setTlu x) := h
theorem setDu (h : s.Logged t) (x : Discipline) : s.Logged (t.setDu x) := h
theorem setSa (h : s.Logged t) (x : Allocator) : s.Logged (t.setSa x) := h
theorem setMon (h : s.Logged t) (r : Ref) (x : Monitor) : s.Logged (t.setMon r x) := h
theorem setPort (h : s.Logged t) (p : PortIx) (x : Port) : s.Logged (t.setPort p x) := h
theorem setGroup (h : s.Logged t) (g : GroupIx) (x : Group) : s.Logged (t.setGroup g x) := h
theorem setTb (h : s.Logged t) (x : TimeBase) : s.Logged { t with tb := x } := h
theorem presentRate (h : s.Logged t) (r : Int) : s.Logged (t.presentRate r) := h
theorem formTwin (h : s.Logged t) (f : TwinFrame) : s.Logged (t.formTwin f) := h
theorem formProbe (h : s.Logged t) : s.Logged t.formProbe := h
theorem formAuction (h : s.Logged t) (r : AuctionRecord) : s.Logged (t.formAuction r) := h
theorem demand (h : s.Logged t) : s.Logged t.demand := h
theorem markStale (h : s.Logged t) : s.Logged t.markStale := h
theorem beginGrant (h : s.Logged t) : s.Logged t.beginGrant := h

theorem withdrawAnchor (h : s.Logged t) : s.Logged t.withdrawAnchor :=
  h.of_same t.withdrawAnchor_same (by decide) (by decide)

theorem offerAnchor (h : s.Logged t) (x : Int) : s.Logged (t.offerAnchor x) :=
  h.of_same (t.offerAnchor_same x) (by decide) (by decide)

/-! ### Notices, submissions, losses and CLOCK records -/

theorem notice (h : s.Logged t) (c : NoticeClass) (f : List Fld) : s.Logged (t.notice c f) :=
  ⟨h.wf, h.sizesFit, h.selectors, h.noticed.trans (Control.notice_noticed _ _ _)⟩

theorem lose (h : s.Logged t) (k : RecordKind) (q : Option Nat) : s.Logged (t.lose k q) := by
  have hpool : t.aj.SamePool (t.lose k q).aj := ⟨rfl, rfl, rfl, rfl⟩
  refine ⟨hpool.wf ∘ h.wf, hpool.sizesFit ∘ h.sizesFit, h.selectors, h.noticed.trans ?_⟩
  unfold State.lose
  dsimp only
  split
  · exact Control.notice_noticed _ _ _
  · exact .refl _

end State.Logged

theorem State.submit_noticed (s : State) (b : Body) : s.clu.Noticed (s.submit b).clu := by
  unfold State.submit
  split
  · exact s.clu.levelNotices_noticed _ _ _
  · exact .refl s.clu
  · exact ((State.Logged.refl s).lose _ _).noticed

namespace State.Logged

variable {s t : State}

theorem submit (h : s.Logged t) {b : Body} (hb : b.size ≤ 104) : s.Logged (t.submit b) :=
  ⟨t.submit_wf b ∘ h.wf, State.submit_sizesFit hb ∘ h.sizesFit, (t.submit_selectors b).trans h.selectors,
    h.noticed.trans (t.submit_noticed b)⟩

end State.Logged

end Sys2Proof.Machine
end

section
/-! The operations that are built from records and notices, block by block, in the order of the model. -/

namespace Sys2Proof.Machine

namespace State.Logged

variable {s t : State}

theorem admin (h : s.Logged t) (e : AdminEvent) : s.Logged (t.admin e) := h.submit (by simp only [Body.size]; omega)

theorem configChange (h : s.Logged t) (k : Byte) (c d : Bool) (x : List Byte) : s.Logged (t.configChange k c d x) :=
  h.admin _

/-! ### CLOCK records (R55, R58) -/

theorem clockRecordAt (h : s.Logged t) (e : ClockEvent) (d : Nat) : s.Logged (t.clockRecordAt e d) := by
  unfold State.clockRecordAt
  refine notice (ite ?_ (h.lose _ _)) _ _
  exact h

theorem clockRecord (h : s.Logged t) (e : ClockEvent) : s.Logged (t.clockRecord e) := h.clockRecordAt e _

theorem contest (h : s.Logged t) (x : Int) (l : Nat) : s.Logged (t.contest x l) :=
  ite h (clockRecord (t := t.setDu { t.du with contested := true }) h _)

theorem uncontest (h : s.Logged t) (c : ContestCause) (x : Option Int) : s.Logged (t.uncontest c x) :=
  ite (clockRecord (t := t.setDu { t.du with contested := false }) h _) h

/-! ### The twin link -/

theorem twinNotice (h : s.Logged t) (o : TwinState) (c : TwinCause) (e : Option Evaluation) :
    s.Logged (t.twinNotice o c e) := h.notice _ _

theorem twinChanged (h : s.Logged t) (o : TwinState) (c : TwinCause) (e : Option Evaluation) :
    s.Logged (t.twinChanged o c e) := ite h (h.twinNotice o c e)

theorem enterMeasuring (h : s.Logged t) (i : TwinIdentity) (c : TwinCause) : s.Logged (t.enterMeasuring i c) :=
  .twinChanged (.formProbe (.setTlu (.withdrawAnchor h) _)) _ _ _

theorem enterDetached (h : s.Logged t) (f : TwinFault) : s.Logged (t.enterDetached f) :=
  .twinChanged (.setTlu (.withdrawAnchor h) _) _ _ _

theorem reportAgreement (h : s.Logged t) (x : Int) : s.Logged (t.reportAgreement x) := by
  unfold State.reportAgreement
  split
  · exact h.uncontest _ _
  · exact h.contest _ _
  · exact h

theorem afterEvaluation (h : s.Logged t) (o : TwinState) (m : Measured) : s.Logged (t.afterEvaluation o m) :=
  .offerAnchor (.formTwin (ite h (h.reportAgreement _)) _) _

theorem evaluateMeasurement (h : s.Logged t) : s.Logged t.evaluateMeasurement := by
  unfold State.evaluateMeasurement
  dsimp only
  split
  · exact ite (.twinChanged (.setTlu (.afterEvaluation (.setTlu h _) _ _) _) _ _ _) (h.enterDetached _)
  · exact h.enterDetached _

theorem failCheck (h : s.Logged t) : s.Logged t.failCheck :=
  ite (.formTwin (.twinNotice (.setTlu h _) _ _ _) _) (.enterDetached (.twinNotice (.setTlu h _) _ _ _) _)

theorem evaluateCheck (h : s.Logged t) : s.Logged t.evaluateCheck := by
  unfold State.evaluateCheck
  dsimp only
  split
  · exact ite (.twinChanged (.afterEvaluation (.setTlu h _) _ _) _ _ _) h.failCheck
  · exact h.failCheck

theorem afterClose (h : s.Logged t) : s.Logged t.afterClose := by
  unfold State.afterClose
  refine ite ?_ h
  split
  · exact h.evaluateMeasurement
  · exact h.evaluateCheck
  · exact h.evaluateCheck
  all_goals exact h

theorem closeProbe (h : s.Logged t) (o : ProbeOutcome) : s.Logged (t.closeProbe o) := .afterClose (.setTlu h _)

theorem twinStepped (h : s.Logged t) : s.Logged t.twinStepped :=
  ite (.closeProbe (.setTlu h _) _) (.setTlu h _)

/-! ### The Discipline Unit -/

theorem stepTime (h : s.Logged t) (a : Int) : s.Logged (t.stepTime a) := .twinStepped (.setTb h _)

theorem writeOffset (h : s.Logged t) (o : Int) (c : OffsetCause) : s.Logged (t.writeOffset o c) :=
  ite h (.clockRecord (.setTb h _) _)

theorem enterHoldover (h : s.Logged t) : s.Logged t.enterHoldover := .clockRecord (.presentRate (.setDu h _) _) _

theorem loseSelection (h : s.Logged t) : s.Logged t.loseSelection := by
  unfold State.loseSelection
  split
  · exact h.enterHoldover
  · exact h.enterHoldover
  · exact (h.clockRecord _).enterHoldover
  · exact h

theorem adoptSelection (h : s.Logged t) (n : Option Ref) : s.Logged (t.adoptSelection n) := by
  unfold State.adoptSelection
  split
  · refine setDu ?_ _
    split
    · exact h.writeOffset _ _
    · exact h
  · exact .loseSelection (.setDu h _)

theorem switchTo (h : s.Logged t) (n : Option Ref) (c : SwitchCause) : s.Logged (t.switchTo n c) :=
  .adoptSelection (.clockRecord (.setDu h _) _) _

theorem evaluateSelection (h : s.Logged t) (c : SwitchCause) : s.Logged (t.evaluateSelection c) :=
  ite h (h.switchTo _ _)

theorem evaluateReport (h : s.Logged t) (r : Ref) (o n : QualState) (c : RefCause) :
    s.Logged (t.evaluateReport r o n c) := ite (ite (h.clockRecord _) h) (h.switchTo _ _)

theorem servo (h : s.Logged t) (e : Int) : s.Logged (t.servo e) := h

theorem enterLocked (h : s.Logged t) (o : Mode) (m : UsedMark) : s.Logged (t.enterLocked o m) := by
  unfold State.enterLocked
  cases o
  case unset | holdover => exact .clockRecord (.setDu h _) _
  all_goals exact h

theorem stepBack (h : s.Logged t) (e : Int) (b a : Nat) : s.Logged (t.stepBack e b a) :=
  .markStale (.clockRecord (.stepTime h _) _)

theorem stepAndLock (h : s.Logged t) (m : UsedMark) {o : State} (ho : s.Logged o) :
    s.Logged (t.stepAndLock m o).state := by
  unfold State.stepAndLock
  split
  · exact .enterLocked (.stepBack h _ _ _) _ _
  · exact ho

theorem enterSlewing (h : s.Logged t) (e : Int) : s.Logged (t.enterSlewing e) :=
  .clockRecord (.presentRate (.setDu h _) _) _

theorem backOrSlew (h : s.Logged t) (m : UsedMark) : s.Logged (t.backOrSlew m).state := by
  unfold State.backOrSlew
  split
  · exact h.enterSlewing _
  · exact h.stepAndLock m (h.enterSlewing _)

theorem endSlewByStep (h : s.Logged t) (e : Int) (b a : Nat) : s.Logged (t.endSlewByStep e b a) :=
  .presentRate (.setDu (.markStale (.clockRecord (.stepTime (.clockRecord h _) _) _)) _) _

theorem slewOn (h : s.Logged t) (m : UsedMark) : s.Logged (t.slewOn m).state := by
  unfold State.slewOn
  split
  · exact .enterLocked (.servo (.clockRecord h _) _) _ _
  · split
    · split
      · exact h
      · split
        · exact h.endSlewByStep _ _ _
        · exact h
    · split
      · exact h.endSlewByStep _ _ _
      · exact h

theorem actOnMark (h : s.Logged t) (m : UsedMark) : s.Logged (t.actOnMark m).state := by
  have hheld : s.Logged (if (m.e.natAbs : Int) ≤ t.tb.servo.active.threshold then
      (⟨(t.servo m.e).enterLocked t.du.mode m, false⟩ : Action)
      else if m.e < 0 then t.stepAndLock m t else t.backOrSlew m).state := by
    split
    · exact .enterLocked (.servo h _) _ _
    · split
      · exact h.stepAndLock m h
      · exact h.backOrSlew m
  unfold State.actOnMark
  cases hm : t.du.mode with
  | unset => exact h.stepAndLock m h
  | slewing => exact .slewOn (.setDu h _) m
  | locked | holdover => simpa only [hm] using hheld

theorem followOffset (h : s.Logged t) (m : MarkReport) : s.Logged (t.followOffset m) := by
  unfold State.followOffset
  split
  · exact h.writeOffset _ _
  · exact h

theorem followLeap (h : s.Logged t) (m : MarkReport) : s.Logged (t.followLeap m) := by
  unfold State.followLeap
  split
  · exact h
  · exact ite (.clockRecord (.setDu h _) _) h

theorem takeOwnReport (h : s.Logged t) (m : MarkReport) : s.Logged (t.takeOwnReport m) := by
  have hcount : s.Logged (((t.followOffset m).followLeap m).countReport m) := .setDu (.followLeap (.followOffset h _) _) _
  unfold State.takeOwnReport
  dsimp only
  split
  · exact .setDu (.actOnMark hcount _) _
  · exact hcount

theorem takeReport (h : s.Logged t) (m : MarkReport) : s.Logged (t.takeReport m) := by
  have hselect : s.Logged (match m.cause with
      | some c => t.evaluateReport m.ref m.before m.after c
      | none => t) := by
    split
    · exact h.evaluateReport _ _ _ _
    · exact h
  exact .setDu (ite (.takeOwnReport hselect _) hselect) _

theorem refChanged (h : s.Logged t) (r : Ref) (o : QualState) (c : RefCause) : s.Logged (t.refChanged r o c) :=
  h.notice _ _

theorem closeMark (h : s.Logged t) (r : Ref) (c : ClosedMark) : s.Logged (t.closeMark r c) :=
  .takeReport (ite (.setMon h _ _) (.refChanged (.setMon h _ _) _ _ _)) _

theorem closeNoLabel (h : s.Logged t) (r : Ref) (p : PendingMark) : s.Logged (t.closeNoLabel r p) :=
  .closeMark (.setMon h _ _) _ _

theorem clockSetApplied (h : s.Logged t) (v bd : Nat) (o : Int) (b a : Nat) :
    s.Logged (t.clockSetApplied v bd o b a) := by
  unfold State.clockSetApplied
  refine .clockRecord ?_ _
  have hset {x : Discipline} : s.Logged (((t.stepTime ((v : Int) - t.tb.raw)).setDu x).writeOffset o .host).markStale :=
    .markStale (.writeOffset (.setDu (.stepTime h _) _) _ _)
  split
  · exact .setDu hset _
  all_goals exact hset

theorem setEnable (h : s.Logged t) (r : Ref) (e : Bool) : s.Logged (t.setEnable r e) :=
  ite (.setMon h _ _) (.evaluateReport (.refChanged (.setMon h _ _) _ _ _) _ _ _ _)

theorem setPreferred (h : s.Logged t) (p : Ref) : s.Logged (t.setPreferred p) :=
  ite h (.evaluateSelection (.setDu h _) _)

theorem configureRef (h : s.Logged t) (r : Ref) (e : Bool) (c : Nat) (d : Int) (p : Ref) :
    s.Logged (t.configureRef r e c d p) :=
  .setPreferred (.setTb (.setMon (.setEnable h _ _) _ _) _) _

/-! ### The Group Scheduler -/

theorem auctionStep (h : s.Logged t) (g : GroupIx) (x : Group) (r : AuctionRecord) (n : Bool) :
    s.Logged (t.auctionStep g x r n) :=
  ite (.notice (.formAuction (.setGroup h _ _) _) _ _) (.formAuction (.setGroup h _ _) _)

theorem takeExpiry (h : s.Logged t) (g : GroupIx) (n : Nat) (y : Bool) : s.Logged (t.takeExpiry g n y) := by
  unfold State.takeExpiry
  dsimp only
  split
  case h_1 | h_2 | h_3 => exact h.auctionStep _ _ _ _
  all_goals exact h

theorem takeReached (h : s.Logged t) (g : GroupIx) (n : Nat) (y : Bool) : s.Logged (t.takeReached g n y) := by
  unfold State.takeReached
  split
  · exact h.takeExpiry _ _ _
  · exact h

theorem catchUp (h : s.Logged t) (g : GroupIx) (n : Nat) (y : Bool) : s.Logged (t.catchUp g n y) :=
  ((h.takeReached g n y).takeReached g n y).takeReached g n y

theorem takeDue (h : s.Logged t) (fuel now : Nat) : s.Logged (State.takeDue fuel now t) := by
  induction fuel generalizing t with
  | zero => exact h
  | succ fuel ih =>
    unfold State.takeDue
    split
    · exact ih (h.takeExpiry _ _ _)
    · exact h

theorem suspendGroup (h : s.Logged t) (g : GroupIx) (c : AuctionCause) (x : Option TraceState) (n : Nat) :
    s.Logged (t.suspendGroup g c x n) := h.auctionStep _ _ _ _

theorem abandonGroup (h : s.Logged t) (g : GroupIx) (c : AuctionCause) (n : Nat) (y : Bool) :
    s.Logged (t.abandonGroup g c n y) := h.auctionStep _ _ _ _

theorem clearGroup (h : s.Logged t) (g : GroupIx) (n : Nat) (y : Bool) : s.Logged (t.clearGroup g n y) :=
  ite (.notice (.setGroup h _ _) _ _) (.setGroup h _ _)

theorem extendGroup (h : s.Logged t) (g : GroupIx) (k : ExtKind) (st : AuctionStep) (e n : Nat) :
    s.Logged (t.extendGroup g k st e n) := .auctionStep (.demand h) _ _ _ _

theorem schedule (h : s.Logged t) (g : GroupIx) (tc tm window now : Nat) :
    s.Logged (t.schedule g tc tm window now) :=
  ite (.takeExpiry (.auctionStep (.demand h) _ _ _ _) _ _ _) (.auctionStep (.demand h) _ _ _ _)

theorem eachGroup (h : s.Logged t) {f : State → GroupIx → State} (hf : ∀ x g, s.Logged x → s.Logged (f x g)) :
    s.Logged (t.eachGroup f) := by
  unfold State.eachGroup
  induction List.finRange 16 generalizing t with
  | nil => exact h
  | cons g gs ih => exact ih (hf t g h)

theorem clockSuspension (h : s.Logged t) : s.Logged t.clockSuspension :=
  h.eachGroup fun _ _ hx => ite (.suspendGroup (.catchUp hx _ _ _) _ _ _ _) (.catchUp hx _ _ _)

theorem restartAbandon (h : s.Logged t) (n : Nat) (g : GroupIx) : s.Logged (restartAbandon n t g) := by
  unfold Machine.restartAbandon
  split
  case h_1 | h_2 | h_3 | h_4 => exact h.abandonGroup _ _ _ _
  all_goals exact h

theorem restartClear (h : s.Logged t) (n : Nat) (g : GroupIx) : s.Logged (restartClear n t g) := by
  unfold Machine.restartClear
  split
  case h_1 | h_2 => exact h.clearGroup _ _ _
  all_goals exact h

theorem restartGroups (h : s.Logged t) : s.Logged t.restartGroups :=
  ((h.eachGroup fun _ _ hx => hx.catchUp _ _ _).eachGroup fun _ _ hx => hx.restartAbandon _ _).eachGroup
    fun _ _ hx => hx.restartClear _ _

/-! ### Second boundaries -/

theorem traceChanged (h : s.Logged t) (o : TraceState) (d : Nat) : s.Logged (t.traceChanged o d) := by
  have htold : s.Logged (t.clockRecordAt (.traceState o t.du.trace t.du.bound d) d).tellScheduler :=
    ite (.clockSuspension (.clockRecordAt h _ _)) (.clockRecordAt h _ _)
  exact ite h (ite (.formTwin htold _) htold)

theorem countBoundary (h : s.Logged t) : s.Logged t.countBoundary :=
  ite (.setDu (.submit h (by simp only [Body.size]; omega)) _) (.setDu h _)

/-! ### The stamp ports -/

theorem portChanged (h : s.Logged t) (p : PortIx) (o : PortState) (c : PortCause) : s.Logged (t.portChanged p o c) :=
  h.notice _ _

theorem closePort (h : s.Logged t) (p : PortIx) (c : PortCause) : s.Logged (t.closePort p c) :=
  .portChanged (.admin (.setPort h _ _) _) _ _ _

theorem reexamine (h : s.Logged t) (p : PortIx) : s.Logged (t.reexamine p) :=
  ite (.closePort (.setPort h _ _) _ _) (.setPort h _ _)

theorem faultPort (h : s.Logged t) (p : PortIx) (f : FaultKind) : s.Logged (t.faultPort p f) :=
  .portChanged (.admin (.setPort h _ _) _) _ _ _

theorem capture (h : s.Logged t) (p : PortIx) (f : FaultKind) (o : Nat) (st : PortState) :
    s.Logged (t.capture p f o st) := ite (.notice (.setPort h _ _) _ _) (.setPort h _ _)

theorem badFrame (h : s.Logged t) (p : PortIx) (f : FaultKind) (o : Nat) : s.Logged (t.badFrame p f o) :=
  .reexamine (.capture (ite (.faultPort (.setPort h _ _) _ _) (.setPort h _ _)) _ _ _ _) _

theorem goodFrame (h : s.Logged t) (p : PortIx) (f : StampFields) : s.Logged (t.goodFrame p f) :=
  .reexamine (.setPort h _ _) _

theorem frameArrived (h : s.Logged t) (p : PortIx) (frame : List Byte) : s.Logged (t.frameArrived p frame) := by
  unfold State.frameArrived
  split
  · exact h.goodFrame _ _
  · exact h.badFrame _ _ _

theorem foldPorts (h : s.Logged t) {f : State → PortIx → State} (hf : ∀ x p, s.Logged x → s.Logged (f x p))
    (ps : List PortIx) : s.Logged (ps.foldl f t) := by
  induction ps generalizing t with
  | nil => exact h
  | cons p ps ih => exact ih (hf t p h)

theorem restartPorts (h : s.Logged t) : s.Logged t.restartPorts :=
  h.foldPorts (fun _ _ hx => .reexamine (.setPort hx _ _) _) _

theorem exhaust (h : s.Logged t) : s.Logged t.exhaust :=
  .configChange (.foldPorts (.setSa h _)
    (fun _ _ hx => .reexamine (ite (.setPort hx _ _) (.portChanged (.setPort hx _ _) _ _ _)) _) _) _ _ _ _

theorem openPort (h : s.Logged t) (p : PortIx) : s.Logged (t.openPort p) :=
  .reexamine (.portChanged (.admin (.setPort h _ _) _) _ _ _) _

theorem closeRequest (h : s.Logged t) (p : PortIx) : s.Logged (t.closeRequest p) := by
  unfold State.closeRequest
  split
  · exact ite (h.closePort _ _) (.reexamine (.portChanged (.setPort h _ _) _ _ _) _)
  · exact .reexamine (h.closePort _ _) _
  all_goals exact h

theorem stampPlaced (h : s.Logged t) (p : PortIx) (r : StampRecord) (seq now : Nat) :
    s.Logged (t.stampPlaced p r seq now) := by
  have hsub : s.Logged (t.stampSubmitted p r seq now) :=
    .setSa (.submit (.setPort h _ _) (by simp only [Body.size]; omega)) _
  exact .setPort (ite (.setGroup hsub _ _) hsub) _ _

theorem grantPort (h : s.Logged t) (p : PortIx) (q : StampRequest) : s.Logged (t.grantPort p q) := by
  rw [State.grantPort_eq]
  exact .reexamine (.stampPlaced (.beginGrant h) _ _ _ _) _

/-! ### Start-up -/

theorem openOffer (h : s.Logged t) : s.Logged t.openOffer := h

theorem offerAtStart (h : s.Logged t) : s.Logged t.offerAtStart := ite (.twinChanged (.openOffer h) _ _ _) h

theorem restartBlocks (h : s.Logged t) : s.Logged t.restartBlocks := (h.restartPorts.restartGroups).admin _

end State.Logged

theorem startUpFrom_logged (cause : ResetCause) (s : State) : (startBlocks cause s).Logged (startUpFrom cause s) :=
  .offerAtStart (.notice (.admin (.refl _) _) _ _)

end Sys2Proof.Machine
end

section
/-! The commands and the requests that only log: of AJ and CLU they change what records and notices change. -/

namespace Sys2Proof.Machine

namespace State.Logged

variable {s t : State}

/-! ### Events -/

theorem expiry (h : s.Logged t) (phase : Phase) : s.Logged (expiry phase t) := by
  unfold Machine.expiry
  split
  · exact ite (h.takeDue _ _) h
  · exact h

theorem markEdge (h : s.Logged t) (r : Ref) : s.Logged (markEdge r t) := by
  unfold Machine.markEdge
  refine ite ?_ h
  split
  · exact .setMon (.closeNoLabel (.setMon h _ _) _ _) _ _
  · exact h

theorem messageArrived (h : s.Logged t) (r : Ref) (msg : TimeMessage) : s.Logged (t.messageArrived r msg) := by
  unfold State.messageArrived
  dsimp only
  split
  · exact .closeMark (.setMon h _ _) _ _
  · exact h

theorem timeMessage (h : s.Logged t) (r : Ref) (bytes : List Byte) : s.Logged (timeMessage r bytes t) := by
  unfold Machine.timeMessage
  refine ite ?_ h
  split
  · exact h
  · exact h
  · exact h.messageArrived r _

theorem messageWaitExpiry (h : s.Logged t) (r : Ref) : s.Logged (messageWaitExpiry r t) := by
  unfold Machine.messageWaitExpiry
  split
  · exact ite (h.closeNoLabel r _) h
  · exact h

theorem missingMarkExpiry (h : s.Logged t) (r : Ref) : s.Logged (missingMarkExpiry r t) :=
  ite (.closeMark (.setMon h _ _) _ _) h

theorem rejectTwin (h : s.Logged t) (f : TwinFault) : s.Logged (t.rejectTwin f) := .enterDetached (.formTwin h _) _

theorem onOffer (h : s.Logged t) (id : TwinIdentity) : s.Logged (t.onOffer id) := by
  have hjudged : s.Logged (match t.attachFault id with
      | some f => t.rejectTwin f
      | none => (t.formTwin (.accept t.ownIdentity)).enterMeasuring id .offer) := by
    split
    · exact h.rejectTwin _
    · exact .enterMeasuring (.formTwin h _) _ _
  unfold State.onOffer
  cases t.tlu.state with
  | off => exact h
  | _ => exact hjudged

theorem onAccept (h : s.Logged t) (id : TwinIdentity) : s.Logged (t.onAccept id) := by
  have hjudged {x : State} (hx : s.Logged x) : s.Logged (match t.attachFault id with
      | some f => t.rejectTwin f
      | none => x) := by
    split
    · exact h.rejectTwin _
    · exact hx
  unfold State.onAccept
  cases t.tlu.state with
  | off => exact h
  | detached | offering => exact hjudged (h.enterMeasuring _ _)
  | _ => exact hjudged h

theorem onEnding (h : s.Logged t) (f : TwinFault) : s.Logged (t.onEnding f) := by
  unfold State.onEnding
  cases t.tlu.state with
  | off | detached => exact h
  | _ => exact h.enterDetached f

theorem onProbe (h : s.Logged t) (n t2 : Nat) : s.Logged (t.onProbe n t2) := ite h h

theorem onEcho (h : s.Logged t) (n t2 t3 t4 : Nat) : s.Logged (t.onEcho n t2 t3 t4) := by
  unfold State.onEcho
  refine ite ?_ h
  split
  · exact h.closeProbe _
  · exact h

theorem onStatus (h : s.Logged t) (st : TwinStatus) : s.Logged (t.onStatus st) :=
  ite (ite (ite h (.withdrawAnchor (.setTlu h _))) h) h

theorem onMessage (h : s.Logged t) (at_ : Nat) (msg : TwinMessage) : s.Logged (t.onMessage at_ msg) := by
  cases msg with
  | offer id => exact h.onOffer id
  | accept id => exact h.onAccept id
  | refuse | bye => exact h.onEnding _
  | probe => exact h.onProbe _ _
  | echo => exact h.onEcho _ _ _ _
  | status => exact h.onStatus _

theorem frameCommand (h : s.Logged t) (bytes : List Byte) (msg : TwinMessage) :
    s.Logged (actOf (msg.command bytes) t) := by
  obtain hc | ⟨rx, hc⟩ | ⟨at_, m, hc⟩ := frameCommand_cases (c := msg.command bytes) rfl t
  · rw [hc]
    exact h
  · rw [hc]
    exact h
  · rw [hc]
    exact onMessage (t := t.twinReceived) h at_ m

theorem probeTimeout (h : s.Logged t) : s.Logged (probeTimeout t) := by
  unfold Machine.probeTimeout
  split
  · exact ite (.closeProbe (.setTlu h _) _) h
  · exact h

theorem stampRequestFrame (h : s.Logged t) (p : PortIx) (bytes : List Byte) :
    s.Logged (stampRequestFrame p bytes t) := by
  unfold Machine.stampRequestFrame
  split
  · exact h.frameArrived p _
  all_goals exact h

theorem stampLengthFault (h : s.Logged t) (p : PortIx) (bytes : List Byte) :
    s.Logged (stampLengthFault p bytes t) := by
  unfold Machine.stampLengthFault
  split
  · exact h.badFrame p _ _
  all_goals exact h

theorem portTransmitStart (h : s.Logged t) (p : PortIx) : s.Logged (portTransmitStart p t) :=
  ite (.reexamine (.setPort h _ _) _) h

theorem portReplySent (h : s.Logged t) (p : PortIx) : s.Logged (portReplySent p t) :=
  ite (.reexamine (.setPort h _ _) _) h

theorem stampGrant (h : s.Logged t) : s.Logged (stampGrant t) := by
  unfold Machine.stampGrant
  refine ite h ?_
  split
  · exact h
  · split
    · exact h
    · exact ite h.exhaust (h.grantPort _ _)

/-! ### Requests -/

variable (payload : List Byte)

theorem clockSet (h : s.Logged t) : s.Logged (clockSet payload t).state := by
  unfold Machine.clockSet
  dsimp only
  split
  · split
    · exact h.clockSetApplied _ _ _ _ _
    · exact h
  · exact h

theorem refConfig (h : s.Logged t) : s.Logged (refConfig payload t).state := by
  unfold Machine.refConfig
  split
  · exact .configChange (.configureRef h _ _ _ _ _) _ _ _ _
  · exact h

theorem servoConfig (h : s.Logged t) : s.Logged (servoConfig payload t).state :=
  .configChange (.setTb h _) _ _ _ _

theorem traceConfig (h : s.Logged t) : s.Logged (traceConfig payload t).state :=
  .configChange (.setTb h _) _ _ _ _

theorem twinConfig (h : s.Logged t) : s.Logged (twinConfig payload t).state := by
  unfold Machine.twinConfig
  split
  · exact h
  · split
    · exact .configChange (.setTlu h _) _ _ _ _
    · exact h

theorem twinStart (h : s.Logged t) : s.Logged (twinStart payload t).state := by
  unfold Machine.twinStart
  split
  · exact .twinChanged (.openOffer h) _ _ _
  all_goals exact h

theorem stopTwin (h : s.Logged t) : s.Logged t.stopTwin :=
  .twinChanged (.setTlu (.uncontest (.withdrawAnchor (.setTlu (.formTwin h _) _)) _ _) _) _ _ _

theorem twinStop (h : s.Logged t) : s.Logged (twinStop payload t).state := by
  unfold Machine.twinStop
  split
  · exact h
  all_goals exact h.stopTwin

theorem statusPort (h : s.Logged t) : s.Logged (statusPort payload t).state := by
  unfold Machine.statusPort
  split <;> exact h

theorem statusGroup (h : s.Logged t) : s.Logged (statusGroup payload t).state := by
  unfold Machine.statusGroup
  split <;> exact h

theorem portOpen (h : s.Logged t) : s.Logged (portOpen payload t).state := by
  unfold Machine.portOpen
  split
  · exact h
  · split
    · exact h
    · split
      · exact h
      · unfold State.openRequest
        split
        · exact h
        · exact h
        · exact h.openPort _
        · exact h.openPort _

theorem portClose (h : s.Logged t) : s.Logged (portClose payload t).state := by
  unfold Machine.portClose
  split
  · exact h
  · exact h.closeRequest _

theorem groupRequest (h : s.Logged t) (forms : Group → Bool) {act : GroupIx → Nat → State → Acted}
    (hact : ∀ g now x, s.Logged x → s.Logged (act g now x).state) : s.Logged (groupRequest forms act payload t).state := by
  unfold Machine.groupRequest
  split
  · exact h
  · dsimp only
    split
    · exact h.catchUp _ _ _
    · exact hact _ _ _ (h.catchUp _ _ _)

theorem groupSchedule (h : s.Logged t) : s.Logged (groupSchedule payload t).state :=
  h.groupRequest payload _ fun g now x hx => by
    simp only
    split
    · exact hx
    · exact hx.schedule _ _ _ _ _

theorem lengthen (h : s.Logged t) (g : GroupIx) (k : ExtKind) (st : AuctionStep) (n : Clamped Nat) (now : Nat) :
    s.Logged (t.lengthen g k st n now).state := h.extendGroup _ _ _ _ _

theorem groupExtend (h : s.Logged t) : s.Logged (groupExtend payload t).state :=
  h.groupRequest payload _ fun g now x hx => by
    split
    · exact hx
    · exact hx.lengthen _ _ _ _ _

theorem groupResume (h : s.Logged t) : s.Logged (groupResume payload t).state :=
  h.groupRequest payload _ fun g now x hx => by
    split
    · exact hx
    · exact hx.lengthen _ _ _ _ _

theorem groupSuspend (h : s.Logged t) : s.Logged (groupSuspend payload t).state :=
  h.groupRequest payload _ fun g now x hx => by
    split
    · exact hx
    · exact hx.suspendGroup _ _ _ _

theorem groupAbandon (h : s.Logged t) : s.Logged (groupAbandon payload t).state :=
  h.groupRequest payload _ fun g now x hx => by
    split
    · exact hx
    · exact hx.abandonGroup _ _ _ _

theorem groupClear (h : s.Logged t) : s.Logged (groupClear payload t).state :=
  h.groupRequest payload _ fun g now x hx => by
    unfold State.clearRequest
    split
    · exact hx
    · exact .clearGroup (hx.abandonGroup _ _ _ _) _ _ _
    · exact hx.clearGroup _ _ _
    · exact hx.clearGroup _ _ _
    all_goals exact hx

end State.Logged

/-! ### The commands that only log -/

/-- The commands that are events and of AJ and CLU change what records and notices change. -/
def onlyLogs : Instr → Bool
  | .oscillatorTick | .callStartExpiry | .windowStartExpiry | .closeExpiry | .markEdge _ | .timeMessage _ _
  | .messageWaitExpiry _ | .missingMarkExpiry _ | .twinBadFrame _ | .offerReceived _ | .acceptReceived _
  | .refuseReceived _ | .byeReceived _ | .probeReceived _ | .echoReceived _ | .statusReceived _ | .twinFrameSend
  | .offerTimerExpiry | .retryTimerExpiry | .probeSpacingExpiry | .probeTimeout | .checkTimerExpiry | .statusAgeLimit
  | .stampRequestFrame _ _ | .stampLengthFault _ _ | .stampGrant | .portTransmitStart _ | .portReplySent _
  | .refByteDiscarded _ _ | .twinByteDiscarded _ | .portByteDiscarded _ _ | .reset _ | .startUp => true
  | _ => false

theorem actOf_logged {c : Instr} (hc : onlyLogs c = true) (s : State) : s.Logged (actOf c s) := by
  have hs := State.Logged.refl s
  cases c with
  | oscillatorTick | reset | startUp => exact hs
  | callStartExpiry | windowStartExpiry | closeExpiry => exact hs.expiry _
  | markEdge r => exact hs.markEdge r
  | timeMessage r bytes => exact hs.timeMessage r bytes
  | messageWaitExpiry r => exact hs.messageWaitExpiry r
  | missingMarkExpiry r => exact hs.missingMarkExpiry r
  | twinBadFrame | twinFrameSend | twinByteDiscarded | refByteDiscarded | portByteDiscarded =>
    exact hs.of_same (actOf_same _ s) (by simp [actBlocks]) (by simp [actBlocks])
  | offerReceived bytes => exact hs.frameCommand bytes (.offer ⟨0, 0, 0⟩)
  | acceptReceived bytes => exact hs.frameCommand bytes (.accept ⟨0, 0, 0⟩)
  | refuseReceived bytes => exact hs.frameCommand bytes (.refuse 0 0)
  | byeReceived bytes => exact hs.frameCommand bytes .bye
  | probeReceived bytes => exact hs.frameCommand bytes (.probe 0)
  | echoReceived bytes => exact hs.frameCommand bytes (.echo 0 0 0)
  | statusReceived bytes => exact hs.frameCommand bytes (.status ⟨.unset, none, .unset, none, 0⟩)
  | offerTimerExpiry => exact .ite (.enterDetached (.setTlu hs _) _) hs
  | retryTimerExpiry => exact .ite (.twinChanged (.openOffer hs) _ _ _) hs
  | probeSpacingExpiry => exact .ite (.formProbe hs) hs
  | probeTimeout => exact hs.probeTimeout
  | checkTimerExpiry => exact .ite (.formProbe (.setTlu hs _)) hs
  | statusAgeLimit => exact .ite hs.withdrawAnchor hs
  | stampRequestFrame p bytes => exact hs.stampRequestFrame p bytes
  | stampLengthFault p bytes => exact hs.stampLengthFault p bytes
  | stampGrant => exact hs.stampGrant
  | portTransmitStart p => exact hs.portTransmitStart p
  | portReplySent p => exact hs.portReplySent p
  | _ => cases hc

/-- The requests whose owners of AJ and CLU change what records and notices change, by their kinds. -/
def loggingRequest : Instr → Option (Nat × (List Byte → State → Acted))
  | .identify => some (0x01, identify)
  | .statusClock => some (0x02, statusClock)
  | .statusRef => some (0x03, statusRef)
  | .statusTwin => some (0x04, statusTwin)
  | .statusPort => some (0x05, statusPort)
  | .statusGroup => some (0x06, statusGroup)
  | .statusJournal => some (0x07, statusJournal)
  | .clockSet => some (0x08, clockSet)
  | .refConfig => some (0x09, refConfig)
  | .servoConfig => some (0x0A, servoConfig)
  | .traceConfig => some (0x0B, traceConfig)
  | .twinConfig => some (0x0C, twinConfig)
  | .twinStart => some (0x0D, twinStart)
  | .twinStop => some (0x0E, twinStop)
  | .portOpen => some (0x0F, portOpen)
  | .portClose => some (0x10, portClose)
  | .groupSchedule => some (0x11, groupSchedule)
  | .groupExtend => some (0x12, groupExtend)
  | .groupSuspend => some (0x13, groupSuspend)
  | .groupResume => some (0x14, groupResume)
  | .groupAbandon => some (0x15, groupAbandon)
  | .groupClear => some (0x16, groupClear)
  | _ => none

theorem actOf_loggingRequest {c : Instr} {kind : Nat} {act : List Byte → State → Acted}
    (h : loggingRequest c = some (kind, act)) : actOf c = takeRequest kind act := by
  cases c with
  | identify | statusClock | statusRef | statusTwin | statusPort | statusGroup | statusJournal | clockSet | refConfig
  | servoConfig | traceConfig | twinConfig | twinStart | twinStop | portOpen | portClose | groupSchedule | groupExtend
  | groupSuspend | groupResume | groupAbandon | groupClear =>
    cases h
    rfl
  | _ => cases h

theorem loggingRequest_logged {c : Instr} {kind : Nat} {act : List Byte → State → Acted}
    (h : loggingRequest c = some (kind, act)) (payload : List Byte) (s : State) : s.Logged (act payload s).state := by
  have hs := State.Logged.refl s
  cases c <;> cases h
  case identify | statusClock | statusRef | statusTwin | statusJournal => exact hs
  case statusPort => exact hs.statusPort payload
  case statusGroup => exact hs.statusGroup payload
  case clockSet => exact hs.clockSet payload
  case refConfig => exact hs.refConfig payload
  case servoConfig => exact hs.servoConfig payload
  case traceConfig => exact hs.traceConfig payload
  case twinConfig => exact hs.twinConfig payload
  case twinStart => exact hs.twinStart payload
  case twinStop => exact hs.twinStop payload
  case portOpen => exact hs.portOpen payload
  case portClose => exact hs.portClose payload
  case groupSchedule => exact hs.groupSchedule payload
  case groupExtend => exact hs.groupExtend payload
  case groupSuspend => exact hs.groupSuspend payload
  case groupResume => exact hs.groupResume payload
  case groupAbandon => exact hs.groupAbandon payload
  case groupClear => exact hs.groupClear payload

end Sys2Proof.Machine
end

section
/-! R141, R144 and Table 8-3 over every command: the form of the pool and the lengths of records. Most commands only log
records; the rest are the requests of the journal, the marker texts and what a reset clears. -/

namespace Sys2Proof.Machine

/-- Marker texts of at most 32 bytes (R156). -/
def textsFit (markers : List Marker) : Prop := ∀ m ∈ markers, m.text.length ≤ 32

/-- AJ and the markers of CLU keep the form of the pool and the lengths of records. -/
structure Recording (j k : Journal) (m n : List Marker) : Prop where
  wf : j.Wf → k.Wf
  fits : j.SizesFit → textsFit m → k.SizesFit ∧ textsFit n

/-- A move of the part that keeps the form of the pool and the lengths of records. -/
abbrev State.RecordsKept (s t : State) : Prop := Recording s.aj t.aj s.clu.markers t.clu.markers

namespace State.RecordsKept

variable {s t u : State}

theorem refl (s : State) : s.RecordsKept s := ⟨id, fun h k => ⟨h, k⟩⟩

theorem trans (h : s.RecordsKept t) (k : t.RecordsKept u) : s.RecordsKept u :=
  ⟨k.wf ∘ h.wf, fun hj hm => (h.fits hj hm).elim k.fits⟩

theorem recordsFit (h : s.RecordsKept t) (hs : s.RecordsFit) : t.RecordsFit := by
  obtain ⟨hm, hj⟩ := hs
  obtain ⟨hj', hm'⟩ := h.fits hj hm
  exact ⟨hm', hj'⟩

theorem of_same {bs : List Block} (h : s.SameBut t bs) (haj : .aj ∉ bs) (hclu : .clu ∉ bs) : s.RecordsKept t := by
  have hj : t.aj = s.aj := h .aj haj
  have hc : t.clu = s.clu := h .clu hclu
  rw [State.RecordsKept, hj, hc]
  exact refl s

/-- A command that neither records nor marks keeps the records. -/
theorem of_eq (haj : t.aj = s.aj) (hclu : t.clu.markers = s.clu.markers) : s.RecordsKept t := by
  rw [State.RecordsKept, haj, hclu]
  exact refl s

end State.RecordsKept

theorem State.Logged.recordsKept {s t : State} (h : s.Logged t) : s.RecordsKept t :=
  ⟨h.wf, fun hj hm => ⟨h.sizesFit hj, h.noticed.requests.markers ▸ hm⟩⟩

/-! ### Requests and the frames of CLU -/

theorem takeRequest_recordsKept {kind : Nat} {act : List Byte → State → Acted}
    (h : ∀ p x, State.RecordsKept x (act p x).state) (s : State) : s.RecordsKept (takeRequest kind act s) := by
  unfold takeRequest
  split
  · exact .refl s
  · exact h _ s.beginService

theorem answerInService_recordsKept (s : State) (payload : List Byte) : s.RecordsKept (s.answerInService payload) := by
  unfold State.answerInService
  split
  · exact .refl s
  · split <;> exact .refl s

theorem Control.arrive_markers (x : Control) (q : ControlRequest) : (x.arrive q).markers = x.markers := by
  unfold Control.arrive
  split
  · rfl
  · split <;> rfl

theorem Control.frameArrived_markers (x : Control) (frame : List Byte) : (x.frameArrived frame).markers = x.markers := by
  unfold Control.frameArrived
  split
  · exact Control.arrive_markers _ _
  · rfl

theorem Control.choose_markers (x : Control) : x.choose.markers = x.markers := by
  unfold Control.choose
  split <;> rfl

theorem Control.finish_markers (x : Control) : x.finish.markers = x.markers := by
  unfold Control.finish
  split <;> rfl

theorem controlFrame_recordsKept (s : State) (bytes : List Byte) : s.RecordsKept (controlFrame bytes s) := by
  unfold controlFrame
  split
  · exact .of_eq rfl (s.clu.frameArrived_markers _)
  all_goals exact .refl s

theorem controlBadLength_recordsKept (s : State) (bytes : List Byte) : s.RecordsKept (controlBadLength bytes s) := by
  unfold controlBadLength
  split <;> exact .refl s

theorem controlByteDiscarded_recordsKept (s : State) (byte : Byte) :
    s.RecordsKept (controlByteDiscarded byte s) := by
  unfold controlByteDiscarded
  split <;> exact .refl s

theorem answerBusyReply_recordsKept (s : State) : s.RecordsKept (answerBusyReply s) := by
  unfold answerBusyReply
  split
  · exact .refl s
  · split <;> exact .refl s

theorem unknownRequest_recordsKept (s : State) : s.RecordsKept (unknownRequest s) := by
  unfold unknownRequest
  split
  · exact .refl s
  · split
    · exact .refl s
    · split <;> exact .refl s

theorem controlFrameSent_recordsKept (s : State) : s.RecordsKept (controlFrameSent s) := by
  unfold controlFrameSent
  split
  · exact .refl s
  all_goals exact .of_eq rfl ((Control.choose_markers _).trans (Control.finish_markers _))

theorem tickReaction_recordsKept (s : State) (b : Boundary) : s.RecordsKept (s.tickReaction b) := by
  have h : s.RecordsKept (s.notice .tick (tickNotice b s.du.trace s.du.bound)) := ((State.Logged.refl s).notice _ _).recordsKept
  unfold State.tickReaction
  cases s.clu.tick
  · exact .refl s
  · exact h
  · exact h

theorem secondBoundary_recordsKept (s : State) : s.RecordsKept (secondBoundary s) := by
  unfold secondBoundary
  split
  · exact .refl s
  · next b rest _ =>
    refine State.RecordsKept.trans (State.Logged.recordsKept ?_) (tickReaction_recordsKept _ b)
    exact .countBoundary (.traceChanged (.setDu (.setTb (.setTb (.refl s) _) _) _) _ _)

/-! ### Journal requests (R148 to R157) -/

theorem takeRequest_length {s : State} {kind : Nat} {q : ControlRequest} (h : s.takeableOf kind = some q) :
    lengthAllowed kind q.payload.length = true := by
  unfold State.takeableOf at h
  split at h
  · split at h
    · next hlen =>
      cases h
      exact hlen.2
    · cases h
  · cases h

theorem journalMark_recordsKept (s : State) : s.RecordsKept (journalMark s) := by
  unfold journalMark
  split
  · exact .refl s
  · next q hq =>
    have hlen : q.payload.length ≤ 32 := of_decide_eq_true (takeRequest_length hq)
    refine ⟨id, fun hj hm => ⟨hj, fun m hmem => ?_⟩⟩
    obtain hold | hnew := List.mem_append.mp hmem
    · exact hm m hold
    · rw [List.mem_singleton.mp hnew]
      exact (List.length_map _).trans_le hlen

/-- The records held of consecutive numbers, from one on: what stays is consecutive still. -/
theorem numbersFrom_dropWhile {n : Nat} {records : List Record} (h : numbersFrom n records = true) (p : Record → Bool) :
    numbersFrom (n + (records.takeWhile p).length) (records.dropWhile p) = true := by
  induction records generalizing n with
  | nil => rfl
  | cons r rs ih =>
    simp only [numbersFrom, Bool.and_eq_true, decide_eq_true_eq] at h
    obtain ⟨hr, hrs⟩ := h
    cases hp : p r with
    | false => simp [List.takeWhile, List.dropWhile, hp, numbersFrom, hr, hrs]
    | true =>
      simp only [List.takeWhile, List.dropWhile, hp, List.length_cons, ← Nat.add_assoc]
      rw [Nat.add_right_comm]
      exact ih hrs

/-- The oldest number of records that are consecutive from `n`, with its being 0 for no records. -/
theorem Journal.oldest_of_numbersFrom {j : Journal} {n : Nat} (h : numbersFrom n j.pool = true) (hne : j.pool ≠ []) :
    j.oldest = n := by
  cases hp : j.pool with
  | nil => exact absurd hp hne
  | cons r rs =>
    simp only [hp, numbersFrom, Bool.and_eq_true, decide_eq_true_eq] at h
    simp only [Journal.oldest, hp, h.1]

theorem totalSize_takeWhile (p : Record → Bool) (records : List Record) :
    totalSize (records.takeWhile p) + totalSize (records.dropWhile p) = totalSize records := by
  rw [← totalSize_append, List.takeWhile_append_dropWhile]

/-- R154: a release takes the records at the front; those that stay are as before. -/
theorem Journal.release_wf {j : Journal} (h : j.Wf) (n : Nat) : (j.release n).Wf := by
  obtain ⟨hused, hbound, hnumbers, hnext, hspan⟩ := h
  have hsize := totalSize_takeWhile (fun r => decide (r.number ≤ n)) j.pool
  have hlen := congrArg List.length (List.takeWhile_append_dropWhile (p := fun r => decide (r.number ≤ n)) (l := j.pool))
  have hstay := numbersFrom_dropWhile hnumbers fun r => decide (r.number ≤ n)
  have hgone : (j.release n).used = j.used - totalSize (j.releasedBy n) := rfl
  have hpool : (j.release n).pool = j.pool.dropWhile fun r => decide (r.number ≤ n) := rfl
  rw [List.length_append] at hlen
  unfold Journal.releasedBy at hgone
  refine ⟨?_, ?_, ?_, hnext, fun hne => ?_⟩
  · rw [hgone, hpool]
    omega
  · omega
  · by_cases hne : (j.release n).pool = []
    · simp only [hne, numbersFrom]
    · rwa [Journal.oldest_of_numbersFrom (j := j.release n) hstay hne]
  · have hne' : j.pool ≠ [] := fun he => hne (by rw [hpool, he, List.dropWhile_nil])
    obtain ⟨hone, hlast⟩ := hspan hne'
    have hold : (j.release n).oldest = _ := Journal.oldest_of_numbersFrom hstay hne
    have hnew : (j.release n).newest = j.newest := rfl
    rw [hold, hnew, hpool]
    omega

theorem Journal.release_sizesFit {j : Journal} (h : j.SizesFit) (n : Nat) : (j.release n).SizesFit :=
  fun r hr => h r ((List.dropWhile_sublist _).subset hr)

theorem Journal.gapStep_written {j : Journal} {n : Nat} (h : j.gapStep = .written n) :
    j.next = some n ∧ j.fits (.gap j.tally) = true := by
  unfold Journal.gapStep at h
  split at h
  · cases h
  · split at h
    · next m hm =>
      split at h
      · next hf =>
        cases h
        exact ⟨hm, hf⟩
      · cases h
    · cases h

theorem State.gap_recordsKept (s : State) : s.RecordsKept s.gap := by
  unfold State.gap
  split
  · exact .refl s
  · next n h =>
    obtain ⟨hn, hf⟩ := Journal.gapStep_written h
    have hpool : (s.aj.place n (.gap s.aj.tally)).SamePool (s.store n (.gap s.aj.tally)).aj := ⟨rfl, rfl, rfl, rfl⟩
    have hmarkers := (s.clu.levelNotices_noticed s.aj (s.store n (.gap s.aj.tally)).aj s.dating).requests.markers
    refine ⟨fun hj => hpool.wf (Journal.place_wf hj hn hf), fun hj hm => ⟨hpool.sizesFit fun r hr => ?_, ?_⟩⟩
    · obtain hold | hnew := List.mem_append.mp hr
      · exact hj r hold
      · rw [List.mem_singleton.mp hnew]
        exact (by decide : 36 ≤ 104)
    · exact fun m hmem => hm m (hmarkers ▸ hmem)
  · have hpool : s.aj.SamePool { s.aj with gapDeferred := bump s.aj.gapDeferred } := ⟨rfl, rfl, rfl, rfl⟩
    exact ⟨hpool.wf, fun hj hm => ⟨hpool.sizesFit hj,
      (Control.notice_noticed s.clu _ _).requests.markers ▸ hm⟩⟩

theorem journalRelease_recordsKept (payload : List Byte) (s : State) :
    s.RecordsKept (journalRelease payload s).state :=
  State.RecordsKept.trans (t := { s with aj := s.aj.release (min (field payload 0 4) s.aj.newest) })
    ⟨fun h => Journal.release_wf h _, fun h k => ⟨Journal.release_sizesFit h _, k⟩⟩ (State.gap_recordsKept _)

theorem journalRead_recordsKept (payload : List Byte) (s : State) : s.RecordsKept (journalRead payload s).state := by
  have hpool : s.aj.SamePool { s.aj with readsServed := bump s.aj.readsServed } := ⟨rfl, rfl, rfl, rfl⟩
  exact ⟨hpool.wf, fun hj hm => ⟨hpool.sizesFit hj, hm⟩⟩

theorem selectConfig_recordsKept (payload : List Byte) (s : State) : s.RecordsKept (selectConfig payload s).state := by
  unfold selectConfig
  split
  · exact .refl s
  · next new _ =>
    split
    · have hset : s.RecordsKept { s with aj := { s.aj with selectors := new } } :=
        ⟨fun h => h, fun hj hm => ⟨hj, hm⟩⟩
      exact hset.trans ((State.Logged.refl _).admin _).recordsKept
    · exact .refl s

/-! ### Internal records (R109, R111) -/

theorem handOver_recordsKept (s : State) (x : Internal) (seq : Option Nat) (t : Nat) (h : s.nextInternal = some x) :
    s.RecordsKept (s.handOver x seq t) := by
  have hafter (u : State) (o : StoreOutcome) : u.RecordsKept (u.afterInternal x seq t o) := by
    cases x with
    | clock | auction => exact .refl u
    | marker m => exact answerInService_recordsKept u _
  refine State.RecordsKept.trans (t := (s.removeInternal x).submit (x.body seq t)) ?_ (hafter _ _)
  have hmarkers := ((s.removeInternal x).submit_sameRequests (x.body seq t)).markers
  have haj : (s.removeInternal x).aj = s.aj := by cases x <;> rfl
  refine ⟨fun hj => State.submit_wf _ (haj ▸ hj), fun hj hm => ⟨State.submit_sizesFit ?_ (haj ▸ hj), ?_⟩⟩
  · cases x with
    | clock | auction => simp only [Internal.body, Body.size]; omega
    | marker m =>
      have hmem : m ∈ s.clu.markers := by
        unfold State.nextInternal at h
        split at h <;> simp_all
      have := hm m hmem
      simp only [Internal.body, Body.size]
      omega
  · intro m hmem
    rw [hmarkers] at hmem
    cases x with
    | clock | auction => exact hm m hmem
    | marker => exact hm m (List.mem_of_mem_tail hmem)

theorem internalGrant_recordsKept (s : State) : s.RecordsKept (internalGrant s) := by
  unfold internalGrant
  split
  · exact .refl s
  · split
    · exact .refl s
    · next x hx =>
      split
      · exact (State.Logged.refl s).exhaust.recordsKept
      · exact handOver_recordsKept (s.beginGrant.setSa _) x _ _ hx

theorem unsequencedHandoff_recordsKept (s : State) : s.RecordsKept (unsequencedHandoff s) := by
  unfold unsequencedHandoff
  split
  · split
    · exact .refl s
    · next x hx => exact handOver_recordsKept s x _ _ hx
  · exact .refl s

/-! ### Every command -/

theorem settingsSave_recordsKept (s : State) : s.RecordsKept (settingsSave s) := by
  unfold settingsSave
  split <;> exact .refl s

theorem settingsSaveComplete_recordsKept (readBack : List Byte) (s : State) :
    s.RecordsKept (settingsSaveComplete readBack s) := by
  unfold settingsSaveComplete
  split
  · exact .refl s
  · next sv _ =>
    split
    · have hadmin : s.Logged (State.admin { s with ss := { s.ss with profile := readBack, save := none } }
          (.settingsSaved (sv.outcome readBack))) :=
        State.Logged.admin (t := { s with ss := { s.ss with profile := readBack, save := none } }) (.refl s) _
      exact hadmin.recordsKept.trans (answerInService_recordsKept _ _)
    · exact .refl s

theorem restart_recordsKept (s : State) : s.RecordsKept (restart s) := by
  unfold restart
  split
  · exact .refl s
  · have hblocks : s.RecordsKept s.beginService.restartBlocks :=
      (State.Logged.refl s.beginService).restartBlocks.recordsKept
    dsimp only
    generalize s.beginService.restartBlocks = u at hblocks ⊢
    exact hblocks

theorem actOf_recordsKept (c : Instr) (s : State) : s.RecordsKept (actOf c s) := by
  cases hlog : onlyLogs c with
  | true => exact (actOf_logged hlog s).recordsKept
  | false =>
    cases hreq : loggingRequest c with
    | some x =>
      rw [actOf_loggingRequest (kind := x.1) (act := x.2) hreq]
      exact takeRequest_recordsKept
        (fun p y => (loggingRequest_logged (kind := x.1) (act := x.2) hreq p y).recordsKept) s
    | none =>
      cases c with
      | secondBoundary => exact secondBoundary_recordsKept s
      | internalGrant => exact internalGrant_recordsKept s
      | unsequencedHandoff => exact unsequencedHandoff_recordsKept s
      | controlFrame bytes => exact controlFrame_recordsKept s bytes
      | controlBadLength bytes => exact controlBadLength_recordsKept s bytes
      | controlByteDiscarded byte => exact controlByteDiscarded_recordsKept s byte
      | answerBusyReply => exact answerBusyReply_recordsKept s
      | unknownRequest => exact unknownRequest_recordsKept s
      | controlTransmitStart => exact .of_eq rfl (Control.choose_markers _)
      | controlFrameSent => exact controlFrameSent_recordsKept s
      | journalRead => exact takeRequest_recordsKept journalRead_recordsKept s
      | journalRelease => exact takeRequest_recordsKept journalRelease_recordsKept s
      | journalMark => exact journalMark_recordsKept s
      | selectConfig => exact takeRequest_recordsKept selectConfig_recordsKept s
      | noticeConfig =>
        refine takeRequest_recordsKept (fun p x => ?_) s
        unfold noticeConfig
        split <;> exact .refl x
      | settingsSave => exact settingsSave_recordsKept s
      | settingsSaveComplete readBack => exact settingsSaveComplete_recordsKept readBack s
      | restart => exact restart_recordsKept s
      | _ => first | (cases hreq; done) | cases hlog

theorem startBlocks_aj_wf (cause : ResetCause) (s : State) : (startBlocks cause s).aj.Wf := by
  refine ⟨rfl, Nat.zero_le _, rfl, fun n hn => ?_, fun h => absurd rfl h⟩
  obtain rfl : 1 = n := Option.some.inj hn
  decide

theorem startBlocks_recordsFit (cause : ResetCause) (s : State) : (startBlocks cause s).RecordsFit :=
  ⟨fun _ hm => (List.not_mem_nil hm).elim, fun _ hr => (List.not_mem_nil hr).elim⟩

theorem resetHeld_aj_wf (cause : ResetCause) (s : State) : (resetHeld cause s).aj.Wf := by
  refine ⟨rfl, Nat.zero_le _, rfl, fun n hn => ?_, fun h => absurd rfl h⟩
  obtain rfl : 1 = n := Option.some.inj hn
  decide

theorem resetHeld_recordsFit (cause : ResetCause) (s : State) : (resetHeld cause s).RecordsFit :=
  ⟨fun _ hm => (List.not_mem_nil hm).elim, fun _ hr => (List.not_mem_nil hr).elim⟩

/-- Settles O58: every command keeps the form of the pool and the lengths of records, and a reset clears the pool. -/
theorem theJournalPoolKeepsItsForm : Obligations.TheJournalPoolKeepsItsForm := by
  refine ⟨fun s t => step_keeps (P := fun s => s.aj.Wf) (fun _ _ h => h) (fun cause s _ => resetHeld_aj_wf cause s)
      (fun cause s _ => ?_) fun c s => (actOf_recordsKept c s).wf,
    fun s t => step_keeps (P := State.RecordsFit) (fun _ _ h => h) (fun cause s _ => resetHeld_recordsFit cause s)
      (fun cause s _ => ?_) fun c s => (actOf_recordsKept c s).recordsFit⟩
  · exact (startUpFrom_logged cause s).wf (startBlocks_aj_wf cause s)
  · exact (startUpFrom_logged cause s).recordsKept.recordsFit (startBlocks_recordsFit cause s)

end Sys2Proof.Machine
end

section
/-! The state after reset, the tick of the oscillator, and the conservation of the grants. -/

namespace Sys2Proof.Machine

/-- Settles O5: one state, computed. -/
theorem resetStateMeetsTheInvariants : Obligations.ResetStateMeetsTheInvariants := by
  refine ⟨by decide, by decide, by decide, by decide, ?_, ?_, by decide, by decide, by decide, ?_, by decide⟩
  · intro r
    cases r <;> decide
  · refine ⟨by decide, by decide, by decide, by decide⟩
  · refine ⟨by decide, by decide, by decide, by decide, by decide, fun r => ?_, by decide⟩
    cases r <;> decide

/-! ### The tick (R1, R4) -/

namespace TimeBase

variable {x : TimeBase}

/-- R1: a tick carries 7, 8 or 9 ns. -/
theorem tick_carry (h : x.Wf) : 7 ≤ (x.frac + x.inc) / fracUnit ∧ (x.frac + x.inc) / fracUnit ≤ 9 := by
  obtain ⟨_, _, hfrac, hlo, hhi, hinc⟩ := h
  obtain ⟨hdlo, hdhi⟩ := rateDelta_bounds hlo hhi
  unfold fracUnit at *
  omega

theorem raiseBoundary_eq (before after : TimeBase) :
    raiseBoundary before after =
      { after with
        boundaries :=
          if before.secondCount < after.secondCount then after.boundaries ++ [⟨after.secondCount, after.dating⟩]
          else after.boundaries } := by
  unfold raiseBoundary
  split <;> rfl

theorem advance_of_le (h : x.raw + (x.frac + x.inc) / fracUnit ≤ max64) :
    x.advance = { x with raw := x.raw + (x.frac + x.inc) / fracUnit, frac := (x.frac + x.inc) % fracUnit } := by
  simp only [advance, if_pos h]

theorem advance_of_lt (h : max64 < x.raw + (x.frac + x.inc) / fracUnit) :
    x.advance = { x with raw := max64, frac := fracUnit - 1 } := by
  simp only [advance, if_neg (Nat.not_le.mpr h)]

theorem advance_eq (x : TimeBase) : x.advance = { x with raw := x.advance.raw, frac := x.advance.frac } := by
  by_cases h : x.raw + (x.frac + x.inc) / fracUnit ≤ max64
  · rw [advance_of_le h]
  · rw [advance_of_lt (Nat.not_le.mp h)]

theorem tickOnce_eq (x : TimeBase) :
    x.tickOnce = { x with raw := x.tickOnce.raw, frac := x.tickOnce.frac, boundaries := x.tickOnce.boundaries } := by
  unfold tickOnce
  rw [raiseBoundary_eq, advance_eq]

@[simp] theorem tickOnce_raw (x : TimeBase) : x.tickOnce.raw = x.advance.raw := by
  rw [tickOnce, raiseBoundary_eq]

@[simp] theorem tickOnce_frac (x : TimeBase) : x.tickOnce.frac = x.advance.frac := by
  rw [tickOnce, raiseBoundary_eq]

theorem tickOnce_boundaries (x : TimeBase) :
    x.tickOnce.boundaries =
      if x.secondCount < x.tickOnce.secondCount then
        x.boundaries ++ [⟨x.tickOnce.secondCount, x.tickOnce.dating⟩]
      else x.boundaries := by
  rw [tickOnce, raiseBoundary_eq]
  unfold secondCount dating
  rw [advance_eq]

end TimeBase

/-- Settles O6: the two branches of the counter at its top, and those of the boundary. -/
theorem tickAdvancesRawTime : Obligations.TickAdvancesRawTime := by
  intro s hrun hwf
  obtain ⟨hlo, hhi⟩ := TimeBase.tick_carry hwf
  refine ⟨oscillatorTick s, live_of_running hrun _, oscillatorTick_same s, rfl, s.tb.tickOnce_eq, hlo, hhi,
    fun h => ?_, fun h => ?_, fun h => ?_, fun h => ?_⟩
  · have := TimeBase.advance_of_le h
    exact ⟨s.tb.tickOnce_raw.trans (by rw [this]; rfl), s.tb.tickOnce_frac.trans (by rw [this]; rfl)⟩
  · have := TimeBase.advance_of_lt h
    exact ⟨s.tb.tickOnce_raw.trans (by rw [this]; rfl), s.tb.tickOnce_frac.trans (by rw [this]; rfl)⟩
  · exact s.tb.tickOnce_boundaries.trans (if_pos h)
  · exact s.tb.tickOnce_boundaries.trans (if_neg h)

/-! ### What a command does to SA (R102, R106, R109, R111) -/

/-- What becomes of SA at a command: nothing but the exhausted flag, a stamp grant, or an internal grant. -/
inductive Allocator.Moves (x : Allocator) : Allocator → Prop
  | flag (e : Bool) : x.Moves { x with exhausted := e }
  | stamp (floored : Nat) (st : JournalStatus) (p : PortIx) (hfull : x.full = false) :
    x.Moves { ({ x with seq := x.seq + 1, floored := floored } : Allocator).stamped st with rotation := p }
  | internal (floored : Nat) (i : Internal) (hfull : x.full = false) :
    x.Moves (({ x with seq := x.seq + 1, floored := floored } : Allocator).countInternal i)

theorem Allocator.Moves.refl (x : Allocator) : x.Moves x := .flag x.exhausted

theorem Allocator.lt_of_full_eq_false {x : Allocator} (h : x.full = false) : x.seq < max64 := by
  simpa [full] using h

theorem Allocator.Moves.conserved {x y : Allocator} (h : x.Moves y) (hx : x.Conserved) : y.Conserved := by
  obtain ⟨hgranted, hseq, hmax⟩ := hx
  cases h with
  | flag e => exact ⟨hgranted, hseq, hmax⟩
  | stamp floored st p hfull =>
    have := lt_of_full_eq_false hfull
    cases st <;> simp only [stamped, Conserved, if_true, reduceCtorEq, if_false] <;> omega
  | internal floored i hfull =>
    have := lt_of_full_eq_false hfull
    cases i <;> simp only [countInternal, Conserved] <;> omega

theorem Allocator.Moves.seq {x y : Allocator} (h : x.Moves y) : x.seq ≤ y.seq ∧ y.seq ≤ x.seq + 1 := by
  cases h with
  | flag e => exact ⟨Nat.le_refl _, Nat.le_succ _⟩
  | stamp floored st p hfull => exact ⟨Nat.le_succ _, Nat.le_refl _⟩
  | internal floored i hfull => cases i <;> exact ⟨Nat.le_succ _, Nat.le_refl _⟩

@[simp] theorem State.configChange_sa (s : State) (k : Byte) (c d : Bool) (bytes : List Byte) :
    (s.configChange k c d bytes).sa = s.sa := s.submit_sa _

theorem exhaustPort_sa (s : State) (p : PortIx) : (exhaustPort s p).sa = s.sa :=
  exhaustPort_same s p .sa (by simp [portBlocks])

theorem State.exhaust_sa (s : State) : s.exhaust.sa = { s.sa with exhausted := true } := by
  unfold State.exhaust
  rw [configChange_sa]
  exact State.foldPorts_same _ exhaustPort_same _ .sa (by simp [allPorts])

theorem State.grantPort_sa (s : State) (p : PortIx) (q : StampRequest) (hfull : s.sa.full = false) :
    s.sa.Moves (s.grantPort p q).sa := by
  rw [grantPort_eq, State.reexamine_same _ p .sa (by simp [portBlocks]), stampPlaced_sa, beginGrant_sa]
  exact .stamp _ _ _ hfull

theorem State.grantInternal_sa (s : State) (x : Internal) (hfull : s.sa.full = false) :
    s.sa.Moves (s.grantInternal x).sa := by
  have hsa : (s.grantInternal x).sa = s.beginGrant.sa.countInternal x :=
    State.handOver_same _ x _ _ .sa (by cases x <;> simp [Internal.holder])
  rw [hsa, beginGrant_sa]
  exact .internal _ _ hfull

theorem stampGrant_sa (s : State) : s.sa.Moves (stampGrant s).sa := by
  unfold stampGrant
  split
  · exact .refl _
  split
  · exact .refl _
  split
  · exact .refl _
  split
  · rw [s.exhaust_sa]
    exact .flag true
  · next hfull => exact s.grantPort_sa _ _ (by simpa using hfull)

theorem internalGrant_sa (s : State) : s.sa.Moves (internalGrant s).sa := by
  unfold internalGrant
  split
  · exact .refl _
  split
  · exact .refl _
  split
  · rw [s.exhaust_sa]
    exact .flag true
  · next hfull => exact s.grantInternal_sa _ (by simpa using hfull)

theorem actOf_sa (c : Instr) (s : State) : s.sa.Moves (actOf c s).sa := by
  by_cases hstamp : c = .stampGrant
  · exact hstamp ▸ stampGrant_sa s
  by_cases hinternal : c = .internalGrant
  · exact hinternal ▸ internalGrant_sa s
  have hsa : (actOf c s).sa = s.sa := actOf_same c s .sa (by
    cases c <;>
      simp_all [actBlocks, boundaryBlocks, markBlocks, disciplineBlocks, twinBlocks, portBlocks, refConfigBlocks,
        groupBlocks, allPorts, allGroups])
  exact hsa ▸ .refl _

/-- Settles O42: every action moves SA by one of the three ways, each of which keeps the balances; a reset and its end
clear the counts. -/
theorem grantsAreConserved : Obligations.GrantsAreConserved := by
  refine ⟨fun s t hs hstep => ?_, fun c s t hreset hstart hexec => ?_⟩
  · refine step_keeps (P := fun x => x.sa.Conserved) (fun _ _ h => h) (fun _ _ _ => ⟨rfl, rfl, Nat.zero_le _⟩) (fun cause s _ => ?_)
      (fun c s h => (actOf_sa c s).conserved h) hs hstep
    rw [startUpFrom_same cause s .sa (by decide)]
    exact ⟨rfl, rfl, Nat.zero_le _⟩
  · obtain rfl | rfl := exec_eq_self_or_act hreset hstart hexec
    · exact ⟨Nat.le_refl _, Nat.le_succ _⟩
    · exact (actOf_sa c s).seq

end Sys2Proof.Machine
end

section
/-! What a port does when it re-examines its queue (R89, R95): the refusals it places, the drain it ends, and what both
leave of the port. -/

namespace Sys2Proof.Machine

@[simp] theorem State.setPort_setPort (s : State) (p : PortIx) (x y : Port) :
    (s.setPort p x).setPort p y = s.setPort p y := by
  simp only [setPort, Vector.set_set]

theorem StampRequest.refusing_of_ne_waiting {e : StampRequest} (h : e.status ≠ .waiting) :
    ∃ st, e.status = .refusing st := by
  cases hst : e.status with
  | waiting => exact absurd hst h
  | refusing st => exact ⟨st, rfl⟩

/-! ### The refusals placed (R89) -/

/-- The REFUSING entries at the front of a port's queue for which its replies leave room. -/
def Port.answerable (x : Port) : List StampRequest :=
  (x.requests.takeWhile fun e => decide (e.status ≠ .waiting)).take (16 - x.replies.length)

/-- The refusals that REFUSING entries ask for. -/
def refusalsOf (entries : List StampRequest) : List (BitVec 32 × DoorStatus) :=
  entries.filterMap fun e =>
    match e.status with
    | .waiting => none
    | .refusing st => some (e.tag, st)

/-- The port with its front REFUSING entries answered as far as there is room. -/
def Port.answers (x : Port) (epoch : Nat) : Port :=
  { x with
    requests := x.requests.drop x.answerable.length
    replies := x.replies ++ (refusalsOf x.answerable).map fun e => .refused e.1 epoch e.2
    counters := (refusalsOf x.answerable).foldl (fun k e => k.refuse e.2) x.counters }

theorem Port.answers_of_none {x : Port} (h : x.answerable = []) (epoch : Nat) : x.answers epoch = x := by
  simp only [answers, h, refusalsOf, List.filterMap_nil, List.map_nil, List.append_nil, List.length_nil, List.drop_zero,
    List.foldl_nil]

theorem Port.answerable_of_full {x : Port} (h : 16 ≤ x.replies.length) : x.answerable = [] := by
  simp only [answerable, Nat.sub_eq_zero_of_le h, List.take_zero]

theorem Port.answerable_of_waiting_front {x : Port} {q : StampRequest} {rest : List StampRequest}
    (hx : x.requests = q :: rest) (hq : q.status = .waiting) : x.answerable = [] := by
  simp [answerable, hx, hq]

theorem Port.answerable_of_empty {x : Port} (h : x.requests = []) : x.answerable = [] := by
  simp [answerable, h]

theorem Port.answerable_of_waiting {x : Port} (h : ∀ e ∈ x.requests, e.status = .waiting) : x.answerable = [] := by
  cases hx : x.requests with
  | nil => exact answerable_of_empty hx
  | cons q rest => exact answerable_of_waiting_front hx (h q (by simp [hx]))

theorem Port.answerRefusing_of_fixed {x : Port} {epoch : Nat} (h : x.answerFront epoch = x) (n : Nat) :
    Port.answerRefusing epoch n x = x := by
  induction n with
  | zero => rfl
  | succ n ih => rw [answerRefusing, h, ih]

theorem Port.answerable_of_refusing_front {x : Port} {q : StampRequest} {rest : List StampRequest} {st : DoorStatus}
    (hx : x.requests = q :: rest) (hq : q.status = .refusing st) (hroom : x.replies.length < 16) (epoch : Nat) :
    x.answerable = q :: (Port.placeRefusal { x with requests := rest } epoch q.tag st).answerable := by
  obtain ⟨k, hk⟩ : ∃ k, 16 - x.replies.length = k + 1 := ⟨15 - x.replies.length, by omega⟩
  have hk' : 16 - (x.replies.length + 1) = k := by omega
  simp [answerable, placeRefusal, hx, hk, hk', hq]

theorem Port.answers_of_refusing_front {x : Port} {q : StampRequest} {rest : List StampRequest} {st : DoorStatus}
    (hx : x.requests = q :: rest) (hq : q.status = .refusing st) (hroom : x.replies.length < 16) (epoch : Nat) :
    (Port.placeRefusal { x with requests := rest } epoch q.tag st).answers epoch = x.answers epoch := by
  rw [answers, answers, answerable_of_refusing_front hx hq hroom epoch]
  generalize (Port.placeRefusal { x with requests := rest } epoch q.tag st).answerable = entries
  simp only [refusalsOf, List.filterMap_cons, hq, hx, placeRefusal, List.map_cons, List.foldl_cons, List.length_cons,
    List.drop_succ_cons, List.append_assoc, List.singleton_append]

/-- R89: the repeated answering of front entries answers all that can be answered. -/
theorem Port.answerRefusing_eq_answers (epoch n : Nat) (x : Port) (h : x.requests.length ≤ n) :
    Port.answerRefusing epoch n x = x.answers epoch := by
  induction n generalizing x with
  | zero =>
    have hx : x.requests = [] := List.length_eq_zero_iff.mp (Nat.le_zero.mp h)
    exact (answers_of_none (answerable_of_empty hx) epoch).symm
  | succ n ih =>
    cases hx : x.requests with
    | nil =>
      rw [answers_of_none (answerable_of_empty hx)]
      exact answerRefusing_of_fixed (by simp only [answerFront, hx]) _
    | cons q rest =>
      cases hq : q.status with
      | waiting =>
        rw [answers_of_none (answerable_of_waiting_front hx hq)]
        exact answerRefusing_of_fixed (by simp only [answerFront, hx, hq]) _
      | refusing st =>
        by_cases hroom : x.replies.length < portReplyMax
        · have hfront : x.answerFront epoch = Port.placeRefusal { x with requests := rest } epoch q.tag st := by
            simp only [answerFront, hx, hq, if_pos hroom]
          rw [answerRefusing, hfront, ih, answers_of_refusing_front hx hq hroom]
          simpa [hx, placeRefusal] using h
        · rw [answers_of_none (answerable_of_full (Nat.not_lt.mp hroom))]
          exact answerRefusing_of_fixed (by simp only [answerFront, hx, hq, if_neg hroom]) _

namespace Port

variable (x : Port) (epoch : Nat)

theorem answerable_prefix : x.answerable <+: x.requests :=
  (List.take_prefix _ _).trans (List.takeWhile_prefix _)

theorem answerable_length_le : x.answerable.length ≤ 16 - x.replies.length := List.length_take_le _ _

theorem answerable_refusing {e : StampRequest} (h : e ∈ x.answerable) : e.status ≠ .waiting := by
  have := List.mem_takeWhile_imp (List.mem_of_mem_take h)
  simpa using this

theorem refusalsOf_length {entries : List StampRequest} (h : ∀ e ∈ entries, e.status ≠ .waiting) :
    (refusalsOf entries).length = entries.length := by
  induction entries with
  | nil => rfl
  | cons e entries ih =>
    obtain ⟨st, hst⟩ := StampRequest.refusing_of_ne_waiting (h e (by simp))
    simp only [refusalsOf, List.filterMap_cons, hst, List.length_cons]
    exact congrArg (· + 1) (ih fun e he => h e (by simp [he]))

@[simp] theorem answers_state : (x.answers epoch).state = x.state := rfl
@[simp] theorem answers_score : (x.answers epoch).score = x.score := rfl
@[simp] theorem answers_openForClock : (x.answers epoch).openForClock = x.openForClock := rfl

theorem answers_replies_length : (x.answers epoch).replies.length = x.replies.length + x.answerable.length := by
  simp only [answers, List.length_append, List.length_map, refusalsOf_length fun _ h => x.answerable_refusing h]

theorem answers_requests_length : (x.answers epoch).requests.length = x.requests.length - x.answerable.length := by
  simp only [answers, List.length_drop]

/-- Each entry answered leaves a reply. -/
theorem answers_balance : (x.answers epoch).requests.length + (x.answers epoch).replies.length =
    x.requests.length + x.replies.length := by
  have := x.answerable_prefix.length_le
  rw [answers_requests_length, answers_replies_length]
  omega

theorem answers_requests_suffix : (x.answers epoch).requests <:+ x.requests := List.drop_suffix _ _

/-- R95: a drain whose queue is empty ends. -/
def settled (y : Port) : Port :=
  if y.state = .draining ∧ y.requests = [] then { y with state := .closed, score := 0 } else y

theorem settled_of_not_drained {y : Port} (h : ¬ (y.state = .draining ∧ y.requests = [])) : y.settled = y := if_neg h

end Port

/-! ### The re-examination (R89, R95) -/

section
variable (s : State) (p : PortIx)

theorem State.reexamine_eq :
    s.reexamine p =
      if ((s.port p).answers s.epoch).state = .draining ∧ ((s.port p).answers s.epoch).requests = [] then
        (s.setPort p ((s.port p).answers s.epoch)).closePort p .drained
      else s.setPort p ((s.port p).answers s.epoch) := by
  rw [State.reexamine, Port.answerRefusing_eq_answers _ _ _ (Nat.le_refl _)]

theorem State.reexamine_port : (s.reexamine p).port p = ((s.port p).answers s.epoch).settled := by
  rw [reexamine_eq, Port.settled]
  split
  · rw [closePort_port, setPort_port]
  · exact setPort_port s p _

variable {s p}

theorem State.reexamine_of_not_drained
    (h : ¬ ((s.port p).state = .draining ∧ ((s.port p).answers s.epoch).requests = [])) :
    s.reexamine p = s.setPort p ((s.port p).answers s.epoch) := by
  rw [reexamine_eq, Port.answers_state, if_neg h]

theorem State.reexamine_of_drained
    (h : (s.port p).state = .draining ∧ ((s.port p).answers s.epoch).requests = []) :
    s.reexamine p = (s.setPort p ((s.port p).answers s.epoch)).closePort p .drained := by
  rw [reexamine_eq, Port.answers_state, if_pos h]

/-- A port with nothing to answer and no drain to end is left as it is. -/
theorem State.reexamine_of_idle (ha : (s.port p).answerable = [])
    (hd : (s.port p).state = .draining → (s.port p).requests ≠ []) : s.reexamine p = s := by
  have hx := Port.answers_of_none ha s.epoch
  rw [reexamine_of_not_drained (by rw [hx]; exact fun h => hd h.1 h.2), hx, setPort_port_self]

end

/-- A port's entries wait for service, or have no place to be answered: nothing can be answered. -/
theorem Port.answerable_eq_nil {x : Port} (h : (∀ e ∈ x.requests, e.status = .waiting) ∨ 16 ≤ x.replies.length) :
    x.answerable = [] :=
  h.elim Port.answerable_of_waiting Port.answerable_of_full

end Sys2Proof.Machine
end

section
/-! What a taken request leaves, whatever its owner does: the answer, the queue's rest and the frame. -/

namespace Sys2Proof.Machine

section
variable {s u : State} {kind : Nat} {q : ControlRequest}

/-- A request that CLU can take is acted on with the front IN_SERVICE, and answered. -/
theorem live_takeRequest (h : s.CanTake kind q) (act : List Byte → State → Acted) :
    live s (takeRequest kind act) =
      .next ((act q.payload s.beginService).state.answer q (act q.payload s.beginService).payload) := by
  rw [live_of_running h.1, takeRequest_of_canTake h]

/-- A request whose owner does `u` and answers `payload`. -/
theorem live_takeRequest_of_acted (h : s.CanTake kind q) {act : List Byte → State → Acted} {payload : List Byte}
    (hact : act q.payload s.beginService = ⟨u, payload⟩) :
    live s (takeRequest kind act) = .next (u.answer q payload) := by
  rw [live_takeRequest h, hact]

/-- A request that is only answered. -/
theorem live_takeRequest_of_says (h : s.CanTake kind q) {act : List Byte → State → Acted} (st : Status)
    (fields : List Fld) (hact : act q.payload s.beginService = s.beginService.says st fields) :
    live s (takeRequest kind act) = .next (s.answered q (replyPayload st fields)) := by
  rw [live_takeRequest h, hact]
  exact congrArg Host.Outcome.next (State.beginService_answer h _)

/-- An owner that leaves the request queue, the replies and the counters as they are leaves the request replied to. -/
theorem State.answer_replied_of_sameRequests (h : s.beginService.clu.SameRequests u.clu) (payload : List Byte) :
    s.Replied (u.answer q payload) q payload := by
  refine ⟨?_, ?_, ?_⟩
  · rw [State.answer_queue, h.queue]
    cases hq : s.clu.queue <;> simp [serveFront, hq]
  · rw [State.answer_replies, h.replies]
    rfl
  · exact congrArg (fun k : ControlCounters => { k with served := bump k.served }) h.counters

theorem State.answer_replied_of_logged (h : s.beginService.Logged u) (payload : List Byte) :
    s.Replied (u.answer q payload) q payload := State.answer_replied_of_sameRequests h.noticed.requests payload

/-- The frame of a request is that of its owner's act, with CLU. -/
theorem State.answer_same_of_acted {bs : List Block} (h : s.beginService.SameBut u bs) (hclu : .clu ∈ bs)
    (payload : List Byte) : s.SameBut (u.answer q payload) bs :=
  ((s.beginService_same.mono (by simpa using hclu)).trans h).trans ((u.answer_same q payload).mono (by simpa using hclu))

end

/-- The CLOCK, JOURNAL and other notices of a submission depend on AJ, CLU, the dating time and the record alone. -/
theorem State.submit_clu_congr {s t : State} (haj : s.aj = t.aj) (hclu : s.clu = t.clu) (hd : s.dating = t.dating)
    (b : Body) : (s.submit b).clu = (t.submit b).clu := by
  unfold State.submit
  rw [haj]
  split <;> simp only [store, lose, haj, hclu, hd]

theorem State.admin_clu_congr {s t : State} (haj : s.aj = t.aj) (hclu : s.clu = t.clu) (hd : s.dating = t.dating)
    (e : AdminEvent) : (s.admin e).clu = (t.admin e).clu := by
  rw [admin, admin, hd]
  exact submit_clu_congr haj hclu hd _

end Sys2Proof.Machine
end

section
/-! The exhausted epoch and the port transmitter: ports that close or send, and what their queues hold then. -/

namespace Sys2Proof.Machine

/-! ### Ports shut one after the other (R99, R111) -/

theorem StampRequest.refuse_status (st : DoorStatus) (e : StampRequest) : (e.refuse st).status ≠ .waiting := by
  unfold StampRequest.refuse
  split
  · simp
  · next st' h => simp [h]

namespace Port

variable (x : Port) (epoch : Nat)

/-- A port as RESTART and the exhaustion of the epoch leave it. -/
def shutDown : Port := x.shut.answers epoch

@[simp] theorem shutDown_state : (x.shutDown epoch).state = .closed := rfl
@[simp] theorem shutDown_score : (x.shutDown epoch).score = 0 := rfl

theorem shutDown_refusing {e : StampRequest} (h : e ∈ (x.shutDown epoch).requests) : e.status ≠ .waiting := by
  have hmem := (x.shut.answers_requests_suffix epoch).subset h
  obtain ⟨e', _, rfl⟩ := List.mem_map.mp hmem
  exact StampRequest.refuse_status _ _

theorem shutDown_balance : (x.shutDown epoch).requests.length + (x.shutDown epoch).replies.length =
    x.requests.length + x.replies.length := by
  rw [shutDown, answers_balance]
  simp only [shut, List.length_map]

end Port

/-- A port that is not DRAINING ends no drain. -/
theorem State.reexamine_of_closed {s : State} {p : PortIx} (h : (s.port p).state ≠ .draining) :
    s.reexamine p = s.setPort p ((s.port p).answers s.epoch) :=
  State.reexamine_of_not_drained fun hd => h hd.1

theorem restartPort_eq (s : State) (p : PortIx) : restartPort s p = s.setPort p ((s.port p).shutDown s.epoch) := by
  rw [restartPort, State.reexamine_of_closed (by simp [Port.shut]), State.setPort_port, State.setPort_setPort]
  rfl

theorem exhaustPort_port (s : State) (p : PortIx) : (exhaustPort s p).port p = (s.port p).shutDown s.epoch := by
  unfold exhaustPort
  dsimp only
  split <;> rw [State.reexamine_of_closed (by simp [Port.shut]), State.setPort_port] <;> simp [Port.shutDown]

theorem exhaustPort_aj (s : State) (p : PortIx) : (exhaustPort s p).aj = s.aj := by
  unfold exhaustPort
  dsimp only
  split <;> rw [State.reexamine_of_closed (by simp [Port.shut])] <;> rfl

section
variable {f : State → PortIx → State} {g : Nat → Port → Port}

/-- What is done to each port once reaches every port. -/
theorem State.foldPorts_port (hsame : ∀ x p, State.SameBut x (f x p) (portBlocks p))
    (hself : ∀ x p, (f x p).port p = g x.epoch (x.port p)) {ps : List PortIx} (hps : ps.Nodup) (s : State) (p : PortIx) :
    (ps.foldl f s).port p = if p ∈ ps then g s.epoch (s.port p) else s.port p := by
  induction ps generalizing s with
  | nil => rfl
  | cons k ps ih =>
    obtain ⟨hk, hnodup⟩ := List.nodup_cons.mp hps
    have hepoch : (f s k).epoch = s.epoch := hsame s k .epoch (by simp [portBlocks])
    rw [List.foldl_cons, ih hnodup, hepoch]
    by_cases hpk : p = k
    · subst hpk
      simp only [if_neg hk, hself, List.mem_cons, true_or, if_true]
    · have hport : (f s k).port p = s.port p := hsame s k (.port p) (by simp [portBlocks, hpk])
      simp only [hport, List.mem_cons, hpk, false_or]

theorem State.foldPorts_aj (haj : ∀ x p, (f x p).aj = State.aj x) (ps : List PortIx) (s : State) :
    (ps.foldl f s).aj = s.aj := by
  induction ps generalizing s with
  | nil => rfl
  | cons k ps ih => rw [List.foldl_cons, ih, haj]

end

theorem State.exhaust_port (s : State) (p : PortIx) : s.exhaust.port p = (s.port p).shutDown s.epoch :=
  calc s.exhaust.port p
    _ = ((List.finRange 8).foldl exhaustPort (s.setSa { s.sa with exhausted := true })).port p :=
      State.configChange_same _ _ _ _ _ (.port p) (by simp)
    _ = (s.port p).shutDown s.epoch := by
      rw [foldPorts_port (g := fun epoch x => x.shutDown epoch) exhaustPort_same exhaustPort_port
        (List.nodup_finRange 8), if_pos (List.mem_finRange p)]
      rfl

theorem State.exhaust_aj (s : State) : s.exhaust.aj = (s.configChange 0x00#8 false false []).aj := by
  have haj : ((List.finRange 8).foldl exhaustPort (s.setSa { s.sa with exhausted := true })).aj = s.aj :=
    State.foldPorts_aj exhaustPort_aj _ _
  have htb : ((List.finRange 8).foldl exhaustPort (s.setSa { s.sa with exhausted := true })).tb = s.tb :=
    State.foldPorts_same _ exhaustPort_same _ .tb (by simp [allPorts])
  unfold State.exhaust
  generalize (List.finRange 8).foldl exhaustPort (s.setSa { s.sa with exhausted := true }) = u at haj htb ⊢
  exact State.admin_aj_congr haj (congrArg TimeBase.dating htb) _

theorem Allocator.full_of_last {x : Allocator} (h : x.seq = 18446744073709551615) : x.full = true := by
  simp only [full, h, max64, Nat.le_refl, decide_true]

theorem internalGrant_of_full {s : State} (he : s.sa.exhausted = false) (hx : s.nextInternal.isSome = true)
    (hf : s.sa.full = true) : internalGrant s = s.exhaust := by
  obtain ⟨x, hx⟩ := Option.isSome_iff_exists.mp hx
  simp only [internalGrant, he, hx, hf, Bool.false_eq_true, if_false, if_true]

theorem stampGrant_of_full {s : State} (he : s.sa.exhausted = false) (hi : s.internalHeld = false)
    (hp : s.portToServe.isSome = true) (hf : s.sa.full = true) : stampGrant s = s.exhaust := by
  obtain ⟨p, hp⟩ := Option.isSome_iff_exists.mp hp
  obtain ⟨q, hq⟩ := Option.isSome_iff_exists.mp (List.find?_some (p := fun p => (s.port p).serviceRequest.isSome) hp)
  simp only [stampGrant, he, hi, hp, hq, hf, Bool.false_eq_true, or_self, if_false, if_true]

/-- Settles O41: either grant exhausts the epoch, which shuts every port. -/
theorem theLastSequenceNumberExhaustsTheEpoch : Obligations.TheLastSequenceNumberExhaustsTheEpoch := by
  intro s c hrun he hseq hc
  have hfull := Allocator.full_of_last hseq
  refine ⟨s.exhaust, ?_, s.exhaust_same, s.exhaust_sa, fun p => ?_, s.exhaust_aj⟩
  · obtain ⟨rfl, hx⟩ | ⟨rfl, hi, hp⟩ := hc
    · exact (live_of_running hrun _).trans (congrArg _ (internalGrant_of_full he hx hfull))
    · exact (live_of_running hrun _).trans (congrArg _ (stampGrant_of_full he hi hp hfull))
  · rw [s.exhaust_port]
    exact ⟨rfl, rfl, fun e h => Port.shutDown_refusing _ _ h, Port.shutDown_balance _ _⟩

/-! ### The transmitter (R90) and the end of a drain (R95) -/

section
variable (s : State) (p : PortIx) (cause : PortCause)

theorem State.closePort_clu :
    (s.closePort p cause).clu = (s.admin (.portClosed p (s.port p).state (s.port p).grantsSinceOpen)).clu.notice .port
      (portNotice p (s.port p).state .closed cause 0 (s.port p).requests.length s.dating) := by
  unfold State.closePort State.portChanged
  dsimp only
  rw [notice_clu, admin, submit_port, setPort_port]
  congr 1
  · exact submit_clu_congr (by rfl) (by rfl) (by rfl) _
  · simp only [State.dating, submit_tb, setPort_tb]

end

/-- What a port's transmitter leads to once the port is `y`. -/
theorem State.setPort_reexamine_of_not_drained {s : State} {p : PortIx} {y : Port}
    (h : y.state ≠ .draining ∨ (y.answers s.epoch).requests ≠ []) :
    (s.setPort p y).reexamine p = s.setPort p (y.answers s.epoch) := by
  rw [reexamine_of_not_drained, setPort_port, setPort_setPort, setPort_epoch]
  rw [setPort_port, setPort_epoch]
  exact fun hd => h.elim (absurd hd.1) (absurd hd.2)

theorem State.setPort_reexamine_of_drained {s : State} {p : PortIx} {y : Port} (hd : y.state = .draining)
    (he : (y.answers s.epoch).requests = []) :
    (s.setPort p y).reexamine p = (s.setPort p (y.answers s.epoch)).closePort p .drained := by
  rw [reexamine_of_drained, setPort_port, setPort_setPort, setPort_epoch]
  rw [setPort_port, setPort_epoch]
  exact ⟨hd, he⟩

theorem Port.startReply_of_idle {x : Port} {r : StampReply} {rest : List StampReply} (ht : x.tx = none)
    (hr : x.replies = r :: rest) : x.startReply = { x with tx := some r, replies := rest } := by
  simp only [startReply, ht, hr]

theorem Port.finishReply_startReply (x : Port) :
    x.finishReply.startReply =
      { x with
        tx := x.replies.head?
        replies := x.replies.tail
        counters := { x.counters with sent := bump x.counters.sent } } := by
  cases hr : x.replies <;> simp [finishReply, startReply, hr]

/-- Settles O37: both commands set the port and re-examine it. -/
theorem thePortTransmitterSendsTheFrontReply : Obligations.ThePortTransmitterSendsTheFrontReply := by
  intro s p hrun x sends
  have hsends : ∀ c y, exec c s = .next ((s.setPort p y).reexamine p) → sends c y := by
    intro c y hexec
    refine ⟨fun h => ?_, fun hd he => ?_⟩
    · rw [hexec, State.setPort_reexamine_of_not_drained h]
      rfl
    · have hclose := State.setPort_reexamine_of_drained (s := s) (p := p) hd he
      have hport := (s.setPort p (y.answers s.epoch)).closePort_port p .drained
      have hclu := (s.setPort p (y.answers s.epoch)).closePort_clu p .drained
      rw [State.setPort_port] at hport hclu
      refine ⟨_, hexec.trans (congrArg _ hclose), ?_, hport, ?_, hclu.trans ?_⟩
      · exact ((s.setPort_same p _).mono (by simp)).trans ((State.closePort_same _ p _).mono (by simp [portBlocks]))
      · rw [State.closePort_aj, State.setPort_port, Port.answers_state, hd]
        exact State.admin_aj_congr (by rfl) (by rfl) _
      · rw [show (y.answers s.epoch).requests = [] from he, Port.answers_state, hd]
        exact congrArg (Control.notice · _ _) (State.admin_clu_congr (by rfl) (by rfl) (by rfl) _)
  refine ⟨fun r rest ht hr => hsends _ _ ?_, fun r ht => hsends _ _ ?_⟩
  · refine (live_of_running hrun _).trans (congrArg _ ?_)
    rw [portTransmitStart, if_pos ⟨ht, by rw [show (s.port p).replies = _ from hr]; simp⟩,
      Port.startReply_of_idle ht hr]
  · refine (live_of_running hrun _).trans (congrArg _ ?_)
    rw [portReplySent, if_pos (by rw [show (s.port p).tx = _ from ht]; rfl), Port.finishReply_startReply]

end Sys2Proof.Machine
end

section
/-! PORT_OPEN, PORT_CLOSE and STATUS_PORT (R92, R93, R97), where no entry can be answered. -/

namespace Sys2Proof.Machine

theorem portOf_of_lt {payload : List Byte} (h : 7 < field payload 0 1) : portOf payload = none :=
  dif_neg (by omega)

theorem portOf_of_eq {payload : List Byte} {p : PortIx} (h : field payload 0 1 = p.val) : portOf payload = some p := by
  rw [portOf, dif_pos (by rw [h]; exact p.isLt)]
  exact congrArg some (Fin.ext h)

theorem Port.answerable_of_empty_or_full {x : Port} (h : x.requests = [] ∨ 16 ≤ x.replies.length) :
    x.answerable = [] := h.elim answerable_of_empty answerable_of_full

section
variable {s : State} {p : PortIx}

/-- R92: a port that opens with nothing to answer. -/
theorem State.openPort_of_idle (h : (s.port p).answerable = []) :
    s.openPort p =
      ((s.setPort p { s.port p with state := .opened, score := 0, grantsSinceOpen := 0 }).admin
        (.portOpen p (s.port p).state)).portChanged p (s.port p).state .openRequest := by
  unfold State.openPort
  dsimp only
  have hport : State.port (((s.setPort p { s.port p with state := .opened, score := 0, grantsSinceOpen := 0 }).admin
      (.portOpen p (s.port p).state)).portChanged p (s.port p).state .openRequest) p =
      { s.port p with state := .opened, score := 0, grantsSinceOpen := 0 } := by
    rw [portChanged_port, admin, submit_port, setPort_port]
  generalize State.portChanged _ p (s.port p).state .openRequest = u at hport ⊢
  exact reexamine_of_idle (by rw [hport]; exact h) (by rw [hport]; simp)

theorem State.openPort_effect (h : (s.port p).answerable = []) :
    (s.openPort p).port p = { s.port p with state := .opened, score := 0, grantsSinceOpen := 0 } ∧
      (s.openPort p).aj = (s.admin (.portOpen p (s.port p).state)).aj := by
  rw [openPort_of_idle h]
  refine ⟨?_, State.admin_aj_congr (by rfl) (by rfl) _⟩
  rw [portChanged_port, admin, submit_port, setPort_port]

/-- R93: a FAULTED port that closes with nothing to answer. -/
theorem State.closePort_reexamine_of_idle (cause : PortCause) (h : (s.port p).answerable = []) :
    (s.closePort p cause).reexamine p = s.closePort p cause :=
  reexamine_of_idle (by rw [closePort_port]; exact h) (by rw [closePort_port]; simp)

/-- R93: a port that starts to drain with nothing to answer. -/
theorem State.drainPort_of_idle (h : (s.port p).answerable = []) (hne : (s.port p).requests ≠ []) :
    s.drainPort p =
      (s.setPort p { s.port p with state := .draining }).portChanged p (s.port p).state .closeRequest :=
  reexamine_of_idle (by rw [portChanged_port, setPort_port]; exact h)
    (by rw [portChanged_port, setPort_port]; exact fun _ => hne)

theorem State.closeRequest_of_closing
    (h : (s.port p).state = .opened ∧ (s.port p).requests = [] ∨
      (s.port p).state = .faulted ∧ (s.port p).answerable = []) :
    s.closeRequest p = s.closePort p .closeRequest := by
  obtain ⟨hs, hr⟩ | ⟨hs, ha⟩ := h
  · simp only [closeRequest, hs, if_pos hr]
  · simp only [closeRequest, hs, closePort_reexamine_of_idle _ ha]

theorem State.closeRequest_of_draining (hs : (s.port p).state = .opened) (hne : (s.port p).requests ≠ []) :
    s.closeRequest p = s.drainPort p := by
  simp only [closeRequest, hs, if_neg hne]

end

section
variable {s : State} {p : PortIx} {payload : List Byte}

theorem portOpen_of_opening (hp : portOf payload = some p) (he : s.sa.exhausted = false) (hm : s.du.mode ≠ .unset)
    (hs : (s.port p).state = .closed ∨ (s.port p).state = .faulted) :
    portOpen payload s = (s.openPort p).says .ok := by
  obtain h | h := hs <;>
    simp only [portOpen, hp, he, hm, State.openRequest, h, Bool.false_eq_true, if_false]

theorem portClose_of_port (hp : portOf payload = some p) : portClose payload s = (s.closeRequest p).says .ok := by
  simp only [portClose, hp]

theorem statusPort_of_port (hp : portOf payload = some p) :
    statusPort payload s = (s.setPort p { s.port p with capture := none }).says .ok (portFields (s.port p)) := by
  simp only [statusPort, hp]

end

/-- Settles O38: each request is one branch of its definition, in a part that has begun to serve it. -/
theorem portRequests : Obligations.PortRequests := by
  intro s q
  refine ⟨fun c hc hcan hlt => ?_, fun p hp => ?_⟩
  · have hnone := portOf_of_lt hlt
    simp only [List.mem_cons, List.not_mem_nil, or_false] at hc
    obtain rfl | rfl | rfl := hc
    · exact live_takeRequest_of_says hcan .outOfRange [] (by simp only [portOpen, hnone])
    · exact live_takeRequest_of_says hcan .outOfRange [] (by simp only [portClose, hnone])
    · exact live_takeRequest_of_says hcan .outOfRange [] (by simp only [statusPort, hnone])
  have hsome := portOf_of_eq hp
  have hx : s.beginService.port p = s.port p := rfl
  refine ⟨fun hcan => ⟨fun he => ?_, fun he hm => ?_, fun he hm hs => ?_, fun he hm hs => ?_,
      fun he hm hs hidle => ?_⟩, fun hcan => ⟨fun hs => ?_, fun hs hne hidle => ?_, fun hs => ?_⟩, fun hcan => ?_⟩
  · exact live_takeRequest_of_says hcan .exhausted [] (by simp only [portOpen, hsome, State.beginService_sa, he, if_true])
  · exact live_takeRequest_of_says hcan .notSet [] (by
      simp only [portOpen, hsome, State.beginService_sa, State.beginService_du, he, hm, Bool.false_eq_true, if_false,
        if_true])
  · exact live_takeRequest_of_says hcan .ok [] (by
      simp only [portOpen, hsome, State.beginService_sa, State.beginService_du, he, hm, State.openRequest, hx, hs,
        Bool.false_eq_true, if_false])
  · exact live_takeRequest_of_says hcan .wrongState [] (by
      simp only [portOpen, hsome, State.beginService_sa, State.beginService_du, he, hm, State.openRequest, hx, hs,
        Bool.false_eq_true, if_false])
  · obtain ⟨hport, haj⟩ := State.openPort_effect (s := s.beginService) (p := p) (Port.answerable_of_empty_or_full hidle)
    refine ⟨_, live_takeRequest_of_acted hcan (portOpen_of_opening hsome he hm hs),
      State.answer_same_of_acted (State.openPort_same _ p) (by simp [portBlocks]) _,
      State.answer_replied_of_logged ((State.Logged.refl _).openPort p) _, hport, ?_⟩
    rw [State.answer_aj, haj]
    exact State.admin_aj_congr (by rfl) (by rfl) _
  · have hclosing := State.closeRequest_of_closing (s := s.beginService) (p := p)
      (hs.imp id fun h => ⟨h.1, Port.answerable_of_empty_or_full h.2⟩)
    refine ⟨_, live_takeRequest_of_acted hcan ((portClose_of_port hsome).trans (congrArg (State.says · .ok) hclosing)),
      State.answer_same_of_acted (State.closePort_same _ p _) (by simp [portBlocks]) _,
      State.answer_replied_of_logged ((State.Logged.refl _).closePort p _) _, State.closePort_port _ p .closeRequest, ?_⟩
    rw [State.answer_aj, State.closePort_aj]
    exact State.admin_aj_congr (by rfl) (by rfl) _
  · have hdrain := (State.closeRequest_of_draining (s := s.beginService) hs hne).trans
      (State.drainPort_of_idle (Port.answerable_eq_nil hidle) hne)
    refine ⟨_, live_takeRequest_of_acted hcan ((portClose_of_port hsome).trans (congrArg (State.says · .ok) hdrain)),
      State.answer_same_of_acted (((State.setPort_same _ p _).mono (by simp)).trans
        ((State.portChanged_same _ _ _ _).mono (by simp))) (by simp) _,
      State.answer_replied_of_logged (((State.Logged.refl _).setPort p _).portChanged p _ _) _, State.setPort_port _ p _⟩
  · exact live_takeRequest_of_says hcan .ok [] (by
      obtain h | h := hs <;> simp only [portClose, hsome, State.closeRequest, hx, h])
  · refine (live_takeRequest_of_acted hcan (statusPort_of_port hsome)).trans ?_
    exact congrArg Host.Outcome.next (State.beginService_answer (s := s.setPort p _) hcan _)

end Sys2Proof.Machine
end

section
/-! Stamp frames (R82 to R88): the receiver, the judgement, and what a good and a bad frame do to their port. -/

namespace Sys2Proof.Machine

/-! ### The receiver and the judgement (R82, R83) -/

theorem byteSum_eq (bytes : List Byte) : byteSum bytes = (bytes.map BitVec.toNat).sum % 256 := by
  induction bytes with
  | nil => rfl
  | cons b bytes ih => rw [byteSum, ih, List.map_cons, List.sum_cons, Nat.add_mod_mod]

section
variable {rx bytes : List Byte}

theorem takeStampBytes_of_partial (hhead : (rx ++ bytes).head? = some 0xA7#8)
    (h : (rx ++ bytes).length < 3 ∨
      4 ≤ field (rx ++ bytes) 2 1 ∧ field (rx ++ bytes) 2 1 ≤ 64 ∧ (rx ++ bytes).length < field (rx ++ bytes) 2 1) :
    takeStampBytes rx bytes = .assembling (rx ++ bytes) := by
  simp only [takeStampBytes, hhead, ne_eq, not_true_eq_false, if_false]
  split
  · rfl
  · next hlen =>
    obtain h | ⟨hlo, hhi, hlt⟩ := h
    · exact absurd h hlen
    · rw [if_neg (by omega), if_pos hlt]

theorem takeStampBytes_of_complete (hhead : (rx ++ bytes).head? = some 0xA7#8) (hlo : 4 ≤ field (rx ++ bytes) 2 1)
    (hhi : field (rx ++ bytes) 2 1 ≤ 64) (hlen : (rx ++ bytes).length = field (rx ++ bytes) 2 1) :
    takeStampBytes rx bytes = .arrived (rx ++ bytes) := by
  simp only [takeStampBytes, hhead, ne_eq, not_true_eq_false, if_false]
  rw [if_neg (by omega), if_neg (by omega), if_neg (by omega), if_pos hlen]

theorem takeStampBytes_of_badLength (hhead : (rx ++ bytes).head? = some 0xA7#8)
    (hn : field (rx ++ bytes) 2 1 < 4 ∨ 64 < field (rx ++ bytes) 2 1) (hlen : (rx ++ bytes).length = 3) :
    takeStampBytes rx bytes = .badLength := by
  simp only [takeStampBytes, hhead, ne_eq, not_true_eq_false, if_false]
  rw [if_neg (by omega), if_pos hn, if_pos hlen]

end

theorem EventClass.ofCode_toCode (c : EventClass) : EventClass.ofCode c.toCode = some c := by
  cases c <;> rfl

theorem EventClass.ofCode_eq_none {n : Nat} (h : 7 < n) : EventClass.ofCode n = none := by
  unfold EventClass.ofCode
  split <;> first | omega | rfl

theorem EventClass.exists_ofCode {n : Nat} (h : n ≤ 7) : ∃ c, EventClass.ofCode n = some c := by
  interval_cases n <;> exact ⟨_, rfl⟩

/-- R83: a frame whose fields are those of a request is good. -/
theorem judgeStampFrame_of_good {frame : List Byte} {tag : BitVec 32} {cls : EventClass} {group : GroupIx}
    {key : BitVec 64} (hsum : (frame.map BitVec.toNat).sum % 256 = 0) (hkind : field frame 1 1 = 1)
    (hlen : field frame 2 1 = 18) (hcls : field frame 7 1 = cls.toCode) (hgroup : field frame 8 1 = group.val)
    (htag : field frame 3 4 = tag.toNat) (hkey : field frame 9 8 = key.toNat) :
    judgeStampFrame frame = .good ⟨tag, cls, group, key⟩ := by
  simp [judgeStampFrame, byteSum_eq, hsum, hkind, hlen, hcls, EventClass.ofCode_toCode, hgroup, htag, hkey]

/-- The first check that a frame fails (R83). -/
def failedCheck (frame : List Byte) : Option (FaultKind × Nat) :=
  if (frame.map BitVec.toNat).sum % 256 ≠ 0 then some (.check, frame.length - 1)
  else if field frame 1 1 ≠ 1 then some (.kind, 1)
  else if field frame 2 1 ≠ 18 then some (.length, 2)
  else if 7 < field frame 7 1 then some (.field, 7)
  else if 15 < field frame 8 1 then some (.field, 8)
  else none

theorem judgeStampFrame_of_failed {frame : List Byte} {fault : FaultKind} {offset : Nat}
    (h : failedCheck frame = some (fault, offset)) : judgeStampFrame frame = .bad fault offset := by
  unfold failedCheck at h
  unfold judgeStampFrame
  rw [byteSum_eq]
  split at h
  · next hsum => cases h; exact if_pos hsum
  next hsum =>
  rw [if_neg hsum]
  split at h
  · next hkind => cases h; exact if_pos hkind
  next hkind =>
  rw [if_neg hkind]
  split at h
  · next hlen => cases h; exact if_pos hlen
  next hlen =>
  rw [if_neg hlen]
  split at h
  · next hcls => cases h; rw [EventClass.ofCode_eq_none hcls]
  next hcls =>
  obtain ⟨cls, hcls⟩ := EventClass.exists_ofCode (Nat.not_lt.mp hcls)
  split at h
  · next hgroup => cases h; simp only [hcls, dif_neg (show ¬ field frame 8 1 < 16 by omega)]
  · cases h

theorem Port.openForClock_iff (x : Port) : x.openForClock = true ↔ x.state = .opened ∨ x.state = .draining := by
  cases hs : x.state <;> simp [openForClock, hs]

theorem anyRefusing_eq_false_iff {requests : List StampRequest} :
    anyRefusing requests = false ↔ ∀ e ∈ requests, e.status = .waiting := by
  simp [anyRefusing]

/-! ### A good frame (R87, R88) -/

section
variable {s : State} {p : PortIx} {f : StampFields}

/-- The port that has counted a good frame. -/
def Port.countedGood (x : Port) : Port :=
  { x with rx := [], score := x.scoreGood, counters := { x.counters with good := bump x.counters.good } }

theorem State.goodFrame_of_idle (ha : ((s.port p).countedGood.arrive s.epoch f s.dating).answerable = [])
    (hd : ((s.port p).countedGood.arrive s.epoch f s.dating).state = .draining →
      ((s.port p).countedGood.arrive s.epoch f s.dating).requests ≠ []) :
    s.goodFrame p f = s.setPort p ((s.port p).countedGood.arrive s.epoch f s.dating) := by
  unfold State.goodFrame
  exact reexamine_of_idle (by rw [setPort_port]; exact ha) (by rw [setPort_port]; exact hd)

theorem Port.arrive_of_room {x : Port} (hs : x.state = .opened) (hroom : x.requests.length < 8) (epoch arrival : Nat) :
    x.arrive epoch f arrival = x.enqueue f arrival := if_pos ⟨hs, hroom⟩

theorem Port.arrive_of_door {x : Port} (h : x.state ≠ .opened ∨ 8 ≤ x.requests.length) (epoch arrival : Nat) :
    x.arrive epoch f arrival = x.refuseAtDoor epoch f.tag :=
  if_neg fun hroom => h.elim (absurd hroom.1) fun hlen => absurd hroom.2 (Nat.not_lt.mpr hlen)

theorem Port.refuseAtDoor_of_place {x : Port} (hw : ∀ e ∈ x.requests, e.status = .waiting)
    (hroom : x.replies.length < 16) (epoch : Nat) (tag : BitVec 32) :
    x.refuseAtDoor epoch tag = x.placeRefusal epoch tag (doorStatus x.state) :=
  if_pos ⟨hroom, anyRefusing_eq_false_iff.mpr hw⟩

theorem Port.refuseAtDoor_of_full {x : Port} (hfull : 16 ≤ x.replies.length) (epoch : Nat) (tag : BitVec 32) :
    x.refuseAtDoor epoch tag = { x with counters := { x.counters with dropped := bump x.counters.dropped } } :=
  if_neg fun h => absurd h.1 (Nat.not_lt.mpr hfull)

end

theorem Port.scoreGood_eq (x : Port) :
    x.scoreGood = if x.state = .opened ∨ x.state = .draining then x.score - 1 else x.score := by
  simp only [scoreGood, openForClock_iff]

theorem doorStatus_eq (st : PortState) :
    doorStatus st =
      if st = .opened then .queueFull else if st = .faulted then .portFaulted else .portClosed := by
  cases st <;> rfl

theorem PortCounters.refuse_eq (c : PortCounters) (st : DoorStatus) :
    c.refuse st =
      { c with
        queueFull := if st = .queueFull then bump c.queueFull else c.queueFull
        portClosed := if st = .portClosed then bump c.portClosed else c.portClosed
        portFaulted := if st = .portFaulted then bump c.portFaulted else c.portFaulted } := by
  cases st <;> rfl

theorem exec_stampRequestFrame {s : State} {p : PortIx} {bytes frame : List Byte} (hrun : s.power = .running)
    (h : takeStampBytes (s.port p).rx bytes = .arrived frame) :
    exec (.stampRequestFrame p bytes) s = .next (s.frameArrived p frame) := by
  refine (live_of_running hrun _).trans (congrArg _ ?_)
  simp only [stampRequestFrame, h]

/-- Settles O35: the frame is judged good and the port takes it in, after which nothing is left to answer. -/
theorem aGoodStampFrameIsQueuedOrRefusedAtTheDoor : Obligations.AGoodStampFrameIsQueuedOrRefusedAtTheDoor := by
  intro s p bytes hrun x frame n
  refine ⟨fun hhead hpart => ?_, fun tag cls group key hhead hlen hsum hkind hn hcls hgroup htag hkey hdrain => ?_⟩
  · have htake : takeStampBytes (s.port p).rx bytes = .assembling frame := takeStampBytes_of_partial hhead hpart
    constructor <;> refine (live_of_running hrun _).trans (congrArg _ ?_)
    · simp only [stampRequestFrame, htake]
      rfl
    · simp only [stampLengthFault, htake]
      rfl
  intro score status
  have htake : takeStampBytes (s.port p).rx bytes = .arrived frame :=
    takeStampBytes_of_complete hhead (hn ▸ by decide : 4 ≤ n) (hn ▸ by decide : n ≤ 64) (hlen.trans hn.symm)
  have hexec : exec (.stampRequestFrame p bytes) s = .next (s.goodFrame p ⟨tag, cls, group, key⟩) := by
    rw [exec_stampRequestFrame hrun htake, State.frameArrived,
      judgeStampFrame_of_good hsum hkind hn hcls hgroup htag hkey]
  have hscore : (s.port p).countedGood.score = score := Port.scoreGood_eq _
  have hstatus : doorStatus (s.port p).countedGood.state = status := doorStatus_eq _
  refine ⟨fun hs hroom hidle => ?_, fun hdoor => ⟨fun hw hroom => ?_, fun hfull => ?_⟩⟩
  · have harrive := Port.arrive_of_room (x := (s.port p).countedGood) (f := ⟨tag, cls, group, key⟩) hs hroom s.epoch
      s.dating
    rw [hexec, State.goodFrame_of_idle, harrive, ← hscore]
    · rfl
    · rw [harrive]
      refine Port.answerable_eq_nil (hidle.imp_left fun hw e he => ?_)
      obtain he | he := List.mem_append.mp he
      · exact hw e he
      · rw [List.mem_singleton.mp he]
    · rw [harrive]
      exact fun _ => by simp [Port.enqueue]
  · have harrive := Port.arrive_of_door (x := (s.port p).countedGood) (f := ⟨tag, cls, group, key⟩) hdoor s.epoch
      s.dating
    rw [Port.refuseAtDoor_of_place (x := (s.port p).countedGood) hw hroom, hstatus] at harrive
    rw [hexec, State.goodFrame_of_idle, harrive, ← hscore, Port.placeRefusal, PortCounters.refuse_eq]
    · rfl
    · rw [harrive]
      exact Port.answerable_of_waiting hw
    · rw [harrive]
      exact hdrain
  · have harrive := Port.arrive_of_door (x := (s.port p).countedGood) (f := ⟨tag, cls, group, key⟩) hdoor s.epoch
      s.dating
    rw [Port.refuseAtDoor_of_full (x := (s.port p).countedGood) hfull] at harrive
    rw [hexec, State.goodFrame_of_idle, harrive, ← hscore]
    · rfl
    · rw [harrive]
      exact Port.answerable_of_full hfull
    · rw [harrive]
      exact hdrain

/-! ### A bad frame (R83 to R86) -/

section
variable (s : State) (p : PortIx) (fault : FaultKind) (offset : Nat) (st : PortState)

theorem State.capture_port :
    (s.capture p fault offset st).port p =
      { s.port p with capture := some (captureFault (s.port p).capture fault offset s.dating st) } := by
  unfold State.capture
  dsimp only
  split
  · exact setPort_port s p _
  · exact setPort_port s p _

theorem State.capture_aj : (s.capture p fault offset st).aj = s.aj := by
  unfold State.capture
  dsimp only
  split <;> rfl

theorem State.capture_clu :
    (s.capture p fault offset st).clu =
      match (s.port p).capture with
      | none => s.clu.notice .port (captureNotice p st ⟨fault, offset, s.dating, st, 0⟩)
      | some _ => s.clu := by
  unfold State.capture
  dsimp only
  cases hc : (s.port p).capture with
  | none => rfl
  | some c => rfl

theorem State.faultPort_port :
    (s.faultPort p fault).port p =
      { s.port p with
        state := .faulted
        requests := (s.port p).requests.map (StampRequest.refuse .portFaulted) } := by
  unfold State.faultPort
  dsimp only
  rw [portChanged_port, admin, submit_port, setPort_port]

theorem State.faultPort_aj :
    (s.faultPort p fault).aj =
      (s.admin (.portFaulted p (s.port p).state (s.port p).score fault (waitingCount (s.port p).requests))).aj := by
  unfold State.faultPort
  exact admin_aj_congr (by rfl) (by rfl) _

@[simp] theorem State.faultPort_dating : (s.faultPort p fault).dating = s.dating :=
  congrArg TimeBase.dating (s.faultPort_same p fault .tb (by simp [portBlocks]))

/-- The port that has counted a bad frame. -/
def Port.countedBad (x : Port) (fault : FaultKind) : Port :=
  { x with rx := [], score := x.scoreBad, counters := x.counters.bad fault }

theorem State.badFrame_eq :
    s.badFrame p fault offset =
      ((if (s.port p).openForClock = true ∧ faultScore ≤ (s.port p).scoreBad then
          (s.setPort p ((s.port p).countedBad fault)).faultPort p fault
        else s.setPort p ((s.port p).countedBad fault)).capture p fault offset (s.port p).state).reexamine p := rfl

end

theorem Port.scoreBad_eq (x : Port) :
    x.scoreBad = if x.state = .opened ∨ x.state = .draining then x.score + 4 else x.score := by
  simp only [scoreBad, openForClock_iff]

theorem PortCounters.bad_eq (c : PortCounters) (fault : FaultKind) :
    c.bad fault =
      { c with
        badCheck := if fault = .check then bump c.badCheck else c.badCheck
        badKind := if fault = .kind then bump c.badKind else c.badKind
        badLength := if fault = .length then bump c.badLength else c.badLength
        badField := if fault = .field then bump c.badField else c.badField } := by
  cases fault <;> rfl

theorem StampRequest.refuse_eq (st : DoorStatus) (e : StampRequest) :
    e.refuse st = if e.status = .waiting then { e with status := .refusing st } else e := by
  cases hs : e.status <;> simp [refuse, hs]

theorem State.setPort_capture_same (s : State) (p : PortIx) (x : Port) (fault : FaultKind) (offset : Nat)
    (st : PortState) : s.SameBut ((s.setPort p x).capture p fault offset st) [.port p, .clu] := by
  unfold State.capture
  dsimp only
  rw [setPort_setPort]
  exact State.SameBut.ite (((s.setPort_same p _).mono (by simp)).trans ((State.notice_same _ _ _).mono (by simp)))
    ((s.setPort_same p _).mono (by simp))

theorem State.badFrame_of_no_fault {s : State} {p : PortIx} {fault : FaultKind} {offset : Nat}
    (hno : ¬ ((s.port p).openForClock = true ∧ faultScore ≤ (s.port p).scoreBad)) (ha : (s.port p).answerable = [])
    (hd : (s.port p).state = .draining → (s.port p).requests ≠ []) :
    s.SameBut (s.badFrame p fault offset) [.port p, .clu] ∧
      (s.badFrame p fault offset).port p =
        { (s.port p).countedBad fault with
          capture := some (captureFault (s.port p).capture fault offset s.dating (s.port p).state) } ∧
      (s.badFrame p fault offset).clu =
        match (s.port p).capture with
        | none => s.clu.notice .port
            (captureNotice p (s.port p).state ⟨fault, offset, s.dating, (s.port p).state, 0⟩)
        | some _ => s.clu := by
  have hport := (s.setPort p ((s.port p).countedBad fault)).capture_port p fault offset (s.port p).state
  have hclu := (s.setPort p ((s.port p).countedBad fault)).capture_clu p fault offset (s.port p).state
  have hsame := s.setPort_capture_same p ((s.port p).countedBad fault) fault offset (s.port p).state
  rw [setPort_port] at hport hclu
  rw [badFrame_eq, if_neg hno]
  generalize (s.setPort p ((s.port p).countedBad fault)).capture p fault offset (s.port p).state = u
    at hport hclu hsame ⊢
  rw [reexamine_of_idle (by rw [hport]; exact ha) (by rw [hport]; exact hd)]
  exact ⟨hsame, hport, hclu⟩

/-- The port that a bad frame has faulted, before it answers what it can (R85). -/
def Port.faultedBy (x : Port) (fault : FaultKind) (c : Capture) : Port :=
  { x.countedBad fault with
    state := .faulted
    requests := x.requests.map (StampRequest.refuse .portFaulted)
    capture := some c }

theorem State.badFrame_of_fault {s : State} {p : PortIx} {fault : FaultKind} {offset : Nat}
    (ho : (s.port p).openForClock = true) (hscore : faultScore ≤ (s.port p).scoreBad) :
    (s.badFrame p fault offset).port p =
        ((s.port p).faultedBy fault (captureFault (s.port p).capture fault offset s.dating (s.port p).state)).answers
          s.epoch ∧
      (s.badFrame p fault offset).aj =
        (s.admin (.portFaulted p (s.port p).state (s.port p).scoreBad fault (waitingCount (s.port p).requests))).aj := by
  have hport := ((s.setPort p ((s.port p).countedBad fault)).faultPort p fault).capture_port p fault offset
    (s.port p).state
  have haj := ((s.setPort p ((s.port p).countedBad fault)).faultPort p fault).capture_aj p fault offset (s.port p).state
  have hepoch : (((s.setPort p ((s.port p).countedBad fault)).faultPort p fault).capture p fault offset
      (s.port p).state).epoch = s.epoch :=
    (State.capture_same _ p fault offset _ .epoch (by simp [portBlocks])).trans
      (State.faultPort_same _ p fault .epoch (by simp [portBlocks]))
  rw [faultPort_port, setPort_port, faultPort_dating] at hport
  rw [faultPort_aj, setPort_port] at haj
  rw [badFrame_eq, if_pos ⟨ho, hscore⟩]
  generalize ((s.setPort p ((s.port p).countedBad fault)).faultPort p fault).capture p fault offset
    (s.port p).state = u at hport haj hepoch ⊢
  rw [reexamine_of_closed (by rw [hport]; simp), setPort_port, hport, hepoch]
  exact ⟨rfl, haj.trans (admin_aj_congr (by rfl) (by rfl) _)⟩

theorem Port.faultedBy_refusing {x : Port} {fault : FaultKind} {c : Capture} {e : StampRequest} {epoch : Nat}
    (h : e ∈ ((x.faultedBy fault c).answers epoch).requests) : e.status ≠ .waiting := by
  have hmem := ((x.faultedBy fault c).answers_requests_suffix epoch).subset h
  obtain ⟨e', _, rfl⟩ := List.mem_map.mp hmem
  exact StampRequest.refuse_status _ _

/-- R82, R83: the two commands lead to the same bad frame. -/
theorem exec_of_badFrame {s : State} {p : PortIx} {bytes : List Byte} {c : Instr} {fault : FaultKind} {offset : Nat}
    (hrun : s.power = .running) (hhead : ((s.port p).rx ++ bytes).head? = some 0xA7#8)
    (h : c = .stampLengthFault p bytes ∧ ((s.port p).rx ++ bytes).length = 3 ∧
        (field ((s.port p).rx ++ bytes) 2 1 < 4 ∨ 64 < field ((s.port p).rx ++ bytes) 2 1) ∧
        fault = .length ∧ offset = 2 ∨
      c = .stampRequestFrame p bytes ∧ 4 ≤ field ((s.port p).rx ++ bytes) 2 1 ∧
        field ((s.port p).rx ++ bytes) 2 1 ≤ 64 ∧
        ((s.port p).rx ++ bytes).length = field ((s.port p).rx ++ bytes) 2 1 ∧
        failedCheck ((s.port p).rx ++ bytes) = some (fault, offset)) :
    exec c s = .next (s.badFrame p fault offset) := by
  obtain ⟨rfl, hlen, hn, rfl, rfl⟩ | ⟨rfl, hlo, hhi, hlen, hfailed⟩ := h
  · refine (live_of_running hrun _).trans (congrArg _ ?_)
    simp only [stampLengthFault, takeStampBytes_of_badLength hhead hn hlen]
  · rw [exec_stampRequestFrame hrun (takeStampBytes_of_complete hhead hlo hhi hlen), State.frameArrived,
      judgeStampFrame_of_failed hfailed]

/-- Settles O36: below the fault score only the capture follows the count; at it the port faults first. -/
theorem aBadStampFrameIsCountedScoredAndCaptured : Obligations.ABadStampFrameIsCountedScoredAndCaptured := by
  intro s p bytes c fault offset hrun x frame n failed hhead hc isOpen counters captured
  have hexec : exec c s = .next (s.badFrame p fault offset) := exec_of_badFrame hrun hhead hc
  have hcaptured : captureFault (s.port p).capture fault offset s.dating (s.port p).state = captured := by
    unfold captureFault
    rfl
  have hcounters : (s.port p).counters.bad fault = counters := PortCounters.bad_eq _ _
  have hopen : (s.port p).openForClock = true ↔ isOpen := Port.openForClock_iff _
  have hsame := s.badFrame_same p fault offset
  refine ⟨fun hdrain hidle hlow => ?_, fun ho hhigh => ?_⟩
  · have hnofault : ¬ ((s.port p).openForClock = true ∧ faultScore ≤ (s.port p).scoreBad) := by
      rintro ⟨ho, hscore⟩
      have hlt := hlow (hopen.mp ho)
      rw [Port.scoreBad, if_pos ho] at hscore
      exact absurd hscore (Nat.not_le.mpr hlt)
    obtain ⟨hkeep, hport, hclu⟩ := State.badFrame_of_no_fault (offset := offset) hnofault
      (Port.answerable_eq_nil hidle) hdrain
    have hscore : (s.port p).scoreBad = if isOpen then x.score + 4 else x.score := Port.scoreBad_eq _
    rw [hcaptured, Port.countedBad, hscore, hcounters] at hport
    exact ⟨_, hexec, hkeep, hport, hclu⟩
  · have hscore : (s.port p).scoreBad = x.score + 4 := if_pos (hopen.mpr ho)
    obtain ⟨hport, haj⟩ := State.badFrame_of_fault (fault := fault) (offset := offset) (hopen.mpr ho)
      (hscore ▸ hhigh)
    rw [hcaptured] at hport
    rw [hscore] at haj
    refine ⟨_, hexec, hsame, ?_, ?_, ?_, ?_, fun e he => ?_, ?_, fun hfull => ?_, haj⟩
    · rw [hport, Port.answers_state]
      rfl
    · rw [hport, Port.answers_score]
      exact hscore
    · rw [hport]
      rfl
    · rw [hport]
      rfl
    · rw [hport] at he
      exact Port.faultedBy_refusing he
    · rw [hport, Port.answers_balance]
      simp only [Port.faultedBy, Port.countedBad, List.length_map]
      rfl
    · have hnone : ((s.port p).faultedBy fault captured).answerable = [] := Port.answerable_of_full hfull
      rw [hport, Port.answers_of_none hnone, ← hcounters]
      exact ⟨rfl, rfl, List.map_congr_left fun e _ => StampRequest.refuse_eq _ e⟩

end Sys2Proof.Machine
end

section
/-! Every command keeps the ranges of the ports (Table 5-1, R84, R85, R89, R95). A port that has done its part may have a
drain to end; the re-examination ends it. -/

namespace Sys2Proof.Machine

/-! ### Queues as lists of WAITING and REFUSING entries -/

theorem waitingCount_eq_zero_iff {l : List StampRequest} : waitingCount l = 0 ↔ ∀ e ∈ l, e.status ≠ .waiting := by
  simp [waitingCount, List.filter_eq_nil_iff]

theorem refusingCount_eq_zero_iff {l : List StampRequest} : refusingCount l = 0 ↔ ∀ e ∈ l, e.status = .waiting := by
  simp [refusingCount, List.filter_eq_nil_iff]

/-- No REFUSING entry stands behind a WAITING one. -/
theorem refusingFirst_iff_pairwise {l : List StampRequest} :
    refusingFirst l = true ↔ l.Pairwise fun a b => a.status = .waiting → b.status = .waiting := by
  induction l with
  | nil => simp [refusingFirst]
  | cons q rest ih =>
    cases hq : q.status with
    | waiting =>
      simp only [refusingFirst, hq, decide_eq_true_eq, refusingCount_eq_zero_iff, List.pairwise_cons, true_implies]
      refine ⟨fun h => ⟨h, ?_⟩, And.left⟩
      exact List.pairwise_of_forall_mem_list fun a _ b hb _ => h b hb
    | refusing st =>
      simp only [refusingFirst, hq, ih, List.pairwise_cons, reduceCtorEq, false_implies, implies_true, true_and]

namespace Port

/-- A port that keeps its ranges but for a drain that may have to end. -/
structure Fits (x : Port) : Prop where
  score : x.scoreRange = true
  requests : x.requests.length ≤ portQueueMax
  replies : x.replies.length ≤ portReplyMax
  order : refusingFirst x.requests = true
  shut : x.openForClock = false → ∀ e ∈ x.requests, e.status ≠ .waiting

theorem Wf.fits {x : Port} (h : x.Wf) : x.Fits := by
  obtain ⟨hscore, hreq, hrep, horder, hshut, _⟩ := h
  exact ⟨hscore, hreq, hrep, horder, fun ho => waitingCount_eq_zero_iff.mp (hshut ho)⟩

theorem Fits.wf {x : Port} (h : x.Fits) (hd : x.state = .draining → x.requests ≠ []) : x.Wf :=
  ⟨h.score, h.requests, h.replies, h.order, fun ho => waitingCount_eq_zero_iff.mpr (h.shut ho), hd⟩

/-- The ranges depend on the state, the score and the queues alone. -/
theorem Fits.congr {x y : Port} (h : x.Fits) (hstate : y.state = x.state) (hscore : y.score = x.score)
    (hreq : y.requests = x.requests) (hrep : y.replies = x.replies) : y.Fits where
  score := by simpa only [scoreRange, hstate, hscore] using h.score
  requests := hreq ▸ h.requests
  replies := hrep ▸ h.replies
  order := hreq ▸ h.order
  shut := by simpa only [openForClock, hstate, hreq] using h.shut

theorem Wf.congr {x y : Port} (h : x.Wf) (hstate : y.state = x.state) (hscore : y.score = x.score)
    (hreq : y.requests = x.requests) (hrep : y.replies = x.replies) : y.Wf :=
  (Fits.congr (Wf.fits h) hstate hscore hreq hrep).wf (by rw [hstate, hreq]; exact h.2.2.2.2.2)

/-- Entries that leave the queue, and replies that leave or join theirs, keep the ranges. -/
theorem Fits.moved {x y : Port} (h : x.Fits) (hstate : y.state = x.state) (hscore : y.score = x.score)
    (hreq : y.requests <:+ x.requests) (hrep : y.replies.length ≤ portReplyMax) : y.Fits where
  score := by simpa only [scoreRange, hstate, hscore] using h.score
  requests := hreq.length_le.trans h.requests
  replies := hrep
  order := refusingFirst_iff_pairwise.mpr ((refusingFirst_iff_pairwise.mp h.order).sublist hreq.sublist)
  shut ho e he := h.shut (by simpa only [openForClock, hstate] using ho) e (hreq.subset he)

theorem Fits.answers {x : Port} (h : x.Fits) (epoch : Nat) : (x.answers epoch).Fits := by
  refine h.moved rfl rfl (x.answers_requests_suffix epoch) ?_
  have hroom := x.answerable_length_le
  have hrep := h.replies
  rw [answers_replies_length]
  unfold portReplyMax at *
  omega

theorem Fits.settled {x : Port} (h : x.Fits) : x.settled.Wf := by
  unfold Port.settled
  split
  · next hd => exact ⟨rfl, h.requests, h.replies, h.order, fun _ => by simp [waitingCount, hd.2], fun hc => by simp at hc⟩
  · next hd => exact h.wf fun hs he => hd ⟨hs, he⟩

/-! ### What a port does with a frame, a reply or a state change -/

theorem Fits.granted {x : Port} (h : x.Fits) (r : StampReply) (hroom : x.replies.length < portReplyMax) :
    Port.Fits { x.granted with replies := x.replies ++ [r] } :=
  h.moved rfl rfl (List.tail_suffix _) (by rw [List.length_append]; exact hroom)

theorem Fits.startReply {x : Port} (h : x.Fits) : x.startReply.Fits := by
  unfold Port.startReply
  split
  · next hr => exact h.moved rfl rfl (List.suffix_refl _) ((Nat.le_succ _).trans (by simpa [hr] using h.replies))
  · exact h

theorem Fits.finishReply {x : Port} (h : x.Fits) : x.finishReply.Fits := h.congr rfl rfl rfl rfl

/-- The order of a queue whose entries have all been refused. -/
theorem refusingFirst_map_refuse (st : DoorStatus) (l : List StampRequest) :
    refusingFirst (l.map (StampRequest.refuse st)) = true := by
  rw [refusingFirst_iff_pairwise, List.pairwise_map]
  exact List.pairwise_of_forall fun a _ hw => absurd hw (StampRequest.refuse_status st a)

theorem not_waiting_of_mem_map_refuse {st : DoorStatus} {l : List StampRequest} {e : StampRequest}
    (h : e ∈ l.map (StampRequest.refuse st)) : e.status ≠ .waiting := by
  obtain ⟨e', _, rfl⟩ := List.mem_map.mp h
  exact StampRequest.refuse_status st e'

theorem Fits.afterShut {x : Port} (h : x.Fits) : x.shut.Fits where
  score := rfl
  requests := by simpa [Port.shut] using h.requests
  replies := h.replies
  order := refusingFirst_map_refuse _ _
  shut _ _ he := not_waiting_of_mem_map_refuse he

theorem Fits.closed {x : Port} (h : x.Fits) (hw : ∀ e ∈ x.requests, e.status ≠ .waiting) :
    Port.Fits { x with state := .closed, score := 0 } :=
  ⟨rfl, h.requests, h.replies, h.order, fun _ => hw⟩

theorem Fits.opened {x : Port} (h : x.Fits) : Port.Fits { x with state := .opened, score := 0, grantsSinceOpen := 0 } :=
  ⟨rfl, h.requests, h.replies, h.order, nofun⟩

theorem Fits.draining {x : Port} (h : x.Fits) (hs : x.state = .opened) : Port.Fits { x with state := .draining } :=
  ⟨by simpa [scoreRange, hs] using h.score, h.requests, h.replies, h.order, nofun⟩

theorem Fits.faultedBy {x : Port} (h : x.Fits) (ho : x.openForClock = true) (hscore : faultScore ≤ x.scoreBad)
    (fault : FaultKind) (c : Capture) : (x.faultedBy fault c).Fits where
  score := by
    have hlow : x.score ≤ 63 := by
      have := h.score
      obtain hs | hs := x.openForClock_iff.mp ho <;> simpa [scoreRange, hs] using this
    rw [scoreBad, if_pos ho] at hscore
    simp only [scoreRange, Port.faultedBy, countedBad, scoreBad, if_pos ho, Bool.and_eq_true, decide_eq_true_eq]
    exact ⟨hscore, by omega⟩
  requests := by simpa [Port.faultedBy, countedBad] using h.requests
  replies := h.replies
  order := refusingFirst_map_refuse _ _
  shut _ _ he := not_waiting_of_mem_map_refuse he

theorem Fits.countedBad {x : Port} (h : x.Fits) (hno : ¬ (x.openForClock = true ∧ faultScore ≤ x.scoreBad))
    (fault : FaultKind) : (x.countedBad fault).Fits := by
  refine ⟨?_, h.requests, h.replies, h.order, h.shut⟩
  have hscore := h.score
  unfold faultScore at hno
  cases hs : x.state <;> simp_all [scoreRange, Port.countedBad, scoreBad, openForClock] <;> omega

theorem Fits.countedGood {x : Port} (h : x.Fits) : x.countedGood.Fits := by
  refine ⟨?_, h.requests, h.replies, h.order, h.shut⟩
  have hscore := h.score
  cases hs : x.state <;> simp_all [scoreRange, Port.countedGood, scoreGood, openForClock] <;> omega

theorem Fits.enqueue {x : Port} (h : x.Fits) (hs : x.state = .opened) (hroom : x.requests.length < portQueueMax)
    (f : StampFields) (arrival : Nat) : (x.enqueue f arrival).Fits where
  score := h.score
  requests := by simpa [Port.enqueue] using hroom
  replies := h.replies
  order := by
    have := refusingFirst_iff_pairwise.mp h.order
    rw [refusingFirst_iff_pairwise]
    exact List.pairwise_append.mpr ⟨this, List.pairwise_singleton _ _, fun a _ b hb _ => by
      rw [List.mem_singleton.mp hb]⟩
  shut ho := by simp [openForClock, Port.enqueue, hs] at ho

theorem Fits.refuseAtDoor {x : Port} (h : x.Fits) (epoch : Nat) (tag : BitVec 32) : (x.refuseAtDoor epoch tag).Fits := by
  unfold Port.refuseAtDoor
  split
  · next hroom => exact h.moved rfl rfl (List.suffix_refl _) (by simpa [placeRefusal] using hroom.1)
  · exact h.congr rfl rfl rfl rfl

theorem Fits.arrive {x : Port} (h : x.Fits) (epoch : Nat) (f : StampFields) (arrival : Nat) :
    (x.arrive epoch f arrival).Fits := by
  unfold Port.arrive
  split
  · next hroom => exact h.enqueue hroom.1 hroom.2 f arrival
  · exact h.refuseAtDoor epoch f.tag

end Port

/-! ### The ports of a state -/

/-- Every port keeps its ranges. -/
def State.PortsWf (s : State) : Prop := ∀ p, (s.port p).Wf

namespace State.PortsWf

variable {s t : State}

theorem of_same {bs : List Block} (h : s.PortsWf) (k : s.SameBut t bs) (hbs : ∀ p, .port p ∉ bs) : t.PortsWf :=
  fun p => by
    have hp : t.port p = s.port p := k (.port p) (hbs p)
    exact hp ▸ h p

/-- A command that changes one port keeps the ranges when that port does. -/
theorem of_others (h : s.PortsWf) {p : PortIx} {bs : List Block} (k : s.SameBut t bs)
    (hbs : ∀ q, q ≠ p → .port q ∉ bs) (hp : (t.port p).Wf) : t.PortsWf :=
  fun q => by
    by_cases hq : q = p
    · exact hq ▸ hp
    · have hport : t.port q = s.port q := k (.port q) (hbs q hq)
      exact hport ▸ h q

theorem of_port (h : s.PortsWf) {p : PortIx} (k : s.SameBut t (portBlocks p)) (hp : (t.port p).Wf) : t.PortsWf :=
  h.of_others k (fun q hq => by simp [portBlocks, hq]) hp

end State.PortsWf

theorem State.reexamine_wf {s : State} {p : PortIx} (h : (s.port p).Fits) : ((s.reexamine p).port p).Wf := by
  rw [reexamine_port]
  exact (h.answers _).settled

section
variable {s : State} (h : s.PortsWf) (p : PortIx)

include h

theorem State.fits_of_portsWf : (s.port p).Fits := (h p).fits

theorem State.setPort_reexamine_portsWf {x : Port} (hx : x.Fits) : ((s.setPort p x).reexamine p).PortsWf :=
  h.of_port (setPort_reexamine_same s p x) (reexamine_wf (by rwa [setPort_port]))

theorem State.badFrame_portsWf (fault : FaultKind) (offset : Nat) : (s.badFrame p fault offset).PortsWf := by
  refine h.of_port (s.badFrame_same p fault offset) ?_
  have hx := fits_of_portsWf h p
  by_cases hf : (s.port p).openForClock = true ∧ faultScore ≤ (s.port p).scoreBad
  · rw [(badFrame_of_fault hf.1 hf.2).1]
    exact Port.Fits.wf ((hx.faultedBy hf.1 hf.2 _ _).answers _) nofun
  · rw [badFrame_eq, if_neg hf]
    refine reexamine_wf ?_
    rw [capture_port, setPort_port]
    exact (hx.countedBad hf fault).congr rfl rfl rfl rfl

theorem State.goodFrame_portsWf (f : StampFields) : (s.goodFrame p f).PortsWf :=
  setPort_reexamine_portsWf h p ((fits_of_portsWf h p).countedGood.arrive _ _ _)

theorem State.assemble_portsWf (rx : List Byte) : (s.assemble p rx).PortsWf := by
  refine h.of_port ((s.assemble_same p rx)) ?_
  rw [assemble, setPort_port]
  exact Port.Wf.congr (h p) rfl rfl rfl rfl

theorem stampRequestFrame_portsWf (bytes : List Byte) : (stampRequestFrame p bytes s).PortsWf := by
  unfold stampRequestFrame
  split
  · unfold State.frameArrived
    split
    · exact State.goodFrame_portsWf h p _
    · exact State.badFrame_portsWf h p _ _
  · exact State.assemble_portsWf h p _
  · exact h
  · exact h

theorem stampLengthFault_portsWf (bytes : List Byte) : (stampLengthFault p bytes s).PortsWf := by
  unfold stampLengthFault
  split
  · exact State.badFrame_portsWf h p _ _
  · exact State.assemble_portsWf h p _
  · exact h
  · exact h

theorem portByteDiscarded_portsWf (byte : Byte) : (portByteDiscarded p byte s).PortsWf := by
  refine h.of_others (p := p) (portByteDiscarded_same s p byte) (fun q hq => by simp [hq]) ?_
  unfold portByteDiscarded
  dsimp only
  split
  · rw [State.setPort_port]
    exact Port.Wf.congr (h p) rfl rfl rfl rfl
  · exact h p

theorem portTransmitStart_portsWf : (portTransmitStart p s).PortsWf := by
  unfold portTransmitStart
  split
  · exact State.setPort_reexamine_portsWf h p (State.fits_of_portsWf h p).startReply
  · exact h

theorem portReplySent_portsWf : (portReplySent p s).PortsWf := by
  unfold portReplySent
  split
  · exact State.setPort_reexamine_portsWf h p (State.fits_of_portsWf h p).finishReply.startReply
  · exact h

theorem State.closePort_portsWf (cause : PortCause) (hw : ∀ e ∈ (s.port p).requests, e.status ≠ .waiting) :
    (s.closePort p cause).PortsWf := by
  refine h.of_port (s.closePort_same p cause) ?_
  rw [closePort_port]
  exact ((fits_of_portsWf h p).closed hw).wf nofun

theorem State.openPort_portsWf : (s.openPort p).PortsWf := by
  refine h.of_port (s.openPort_same p) (reexamine_wf ?_)
  rw [portChanged_port, admin, submit_port, setPort_port]
  exact (fits_of_portsWf h p).opened

theorem State.closeRequest_portsWf : (s.closeRequest p).PortsWf := by
  refine h.of_port (s.closeRequest_same p) ?_
  have hx := fits_of_portsWf h p
  unfold State.closeRequest
  split
  · next hs =>
    split
    · next he =>
      rw [closePort_port]
      exact (hx.closed (by simp [he])).wf nofun
    · refine reexamine_wf ?_
      rw [portChanged_port, setPort_port]
      exact hx.draining hs
  · next hs =>
    refine reexamine_wf ?_
    rw [closePort_port]
    exact hx.closed (hx.shut (by simp [Port.openForClock, hs]))
  · exact h p
  · exact h p

theorem State.shutDown_wf (epoch : Nat) : ((s.port p).shutDown epoch).Wf :=
  ((fits_of_portsWf h p).afterShut.answers epoch).wf nofun

omit p

theorem State.exhaust_portsWf : s.exhaust.PortsWf := fun p => by
  rw [exhaust_port]
  exact shutDown_wf h p _

theorem State.grantPort_portsWf (p : PortIx) (q : StampRequest) (hroom : (s.port p).replies.length < portReplyMax) :
    (s.grantPort p q).PortsWf := by
  rw [grantPort_eq]
  generalize s.stampRecord p q s.tb.dating (decide (s.tb.raw < s.tb.hwm)) = r
  have hport := s.beginGrant.stampPlaced_port p r (s.sa.seq + 1) s.tb.dating
  have hsame := s.beginGrant_same.mono (cs := [.tb, .sa, .port p, .group r.group, .aj, .clu]) (by simp)
    |>.trans ((s.beginGrant.stampPlaced_same p r (s.sa.seq + 1) s.tb.dating).mono (by simp))
  generalize s.beginGrant.stampPlaced p r (s.sa.seq + 1) s.tb.dating = u at hport hsame
  refine h.of_others (hsame.trans ((u.reexamine_same p).mono (by simp [portBlocks]))) (fun k hk => by simp [hk])
    (reexamine_wf ?_)
  rw [hport]
  exact (fits_of_portsWf h p).granted _ hroom

theorem stampGrant_portsWf : (stampGrant s).PortsWf := by
  unfold stampGrant
  split
  · exact h
  split
  · exact h
  split
  · exact h
  next q hq =>
  split
  · exact State.exhaust_portsWf h
  · refine State.grantPort_portsWf h _ q ?_
    unfold Port.serviceRequest at hq
    split at hq
    · cases hq
    split at hq
    · next hserve => exact hserve.2.2
    · cases hq

theorem internalGrant_portsWf : (internalGrant s).PortsWf := by
  unfold internalGrant
  split
  · exact h
  split
  · exact h
  next x hx =>
  split
  · exact State.exhaust_portsWf h
  · exact h.of_same (s.grantInternal_same x) (by simp)

end

theorem State.restartPorts_port (s : State) (p : PortIx) : s.restartPorts.port p = (s.port p).shutDown s.epoch := by
  rw [restartPorts, foldPorts_port (g := fun epoch x => x.shutDown epoch) restartPort_same
    (fun x q => by rw [restartPort_eq, setPort_port]) (List.nodup_finRange 8), if_pos (List.mem_finRange p)]

theorem State.restartBlocks_port (s : State) (p : PortIx) : s.restartBlocks.port p = (s.port p).shutDown s.epoch := by
  have hport := s.restartPorts_port p
  unfold State.restartBlocks
  generalize s.restartPorts = u at hport ⊢
  have hgroups : u.restartGroups.port p = u.port p := u.restartGroups_same (.port p) (by simp [allGroups])
  generalize u.restartGroups = v at hgroups ⊢
  rw [admin, submit_port, hgroups, hport]

theorem restart_portsWf {s : State} (h : s.PortsWf) : (restart s).PortsWf := by
  unfold restart
  split
  · exact h
  · intro p
    have hport : s.beginService.restartBlocks.port p = (s.port p).shutDown s.epoch := State.restartBlocks_port _ p
    dsimp only
    generalize s.beginService.restartBlocks = u at hport ⊢
    have hanswered : ∀ q b, ((u.answer q b).restartControl).port p = u.port p := fun _ _ => rfl
    rw [hanswered, hport]
    exact State.shutDown_wf h p s.epoch

theorem takeRequest_portsWf {s : State} (h : s.PortsWf) {kind : Nat} {act : List Byte → State → Acted}
    (hact : ∀ payload x, State.PortsWf x → (act payload x).state.PortsWf) : (takeRequest kind act s).PortsWf := by
  unfold takeRequest
  split
  · exact h
  · exact fun p => hact _ s.beginService h p

theorem portOpen_portsWf (payload : List Byte) (s : State) (h : s.PortsWf) : (portOpen payload s).state.PortsWf := by
  unfold portOpen
  split
  · exact h
  split
  · exact h
  split
  · exact h
  unfold State.openRequest
  split
  · exact h
  · exact h
  · exact State.openPort_portsWf h _
  · exact State.openPort_portsWf h _

theorem portClose_portsWf (payload : List Byte) (s : State) (h : s.PortsWf) : (portClose payload s).state.PortsWf := by
  unfold portClose
  split
  · exact h
  · exact State.closeRequest_portsWf h _

theorem statusPort_portsWf (payload : List Byte) (s : State) (h : s.PortsWf) : (statusPort payload s).state.PortsWf := by
  unfold statusPort
  split
  · exact h
  · next p _ =>
    refine h.of_others (p := p) (s.setPort_same p _) (fun q hq => by simp [hq]) ?_
    have hport := s.setPort_port p { s.port p with capture := none }
    exact hport.symm ▸ Port.Wf.congr (h p) rfl rfl rfl rfl

/-- Every action keeps the ranges of the ports: the port commands by what they do, the others by their frames. -/
theorem actOf_portsWf (c : Instr) {s : State} (h : s.PortsWf) : (actOf c s).PortsWf := by
  cases c with
  | stampRequestFrame p bytes => exact stampRequestFrame_portsWf h p bytes
  | stampLengthFault p bytes => exact stampLengthFault_portsWf h p bytes
  | portByteDiscarded p byte => exact portByteDiscarded_portsWf h p byte
  | portTransmitStart p => exact portTransmitStart_portsWf h p
  | portReplySent p => exact portReplySent_portsWf h p
  | stampGrant => exact stampGrant_portsWf h
  | internalGrant => exact internalGrant_portsWf h
  | restart => exact restart_portsWf h
  | portOpen => exact takeRequest_portsWf h portOpen_portsWf
  | portClose => exact takeRequest_portsWf h portClose_portsWf
  | statusPort => exact takeRequest_portsWf h statusPort_portsWf
  | _ =>
    refine h.of_same (actOf_same _ s) fun p => ?_
    simp [actBlocks, boundaryBlocks, markBlocks, disciplineBlocks, twinBlocks, refConfigBlocks, groupBlocks, allGroups]

end Sys2Proof.Machine
end

section
/-! Every command keeps the ranges of the monitors (Table 2-4, R28 to R32): a closed mark steps an enabled monitor within
the ranges of its state, and DU leaves the monitors alone. -/

namespace Sys2Proof.Machine

namespace Monitor

variable {m : Monitor}

/-! ### The ranges of a state -/

theorem scoreRange_of_disabled (h : m.state = .disabled) :
    m.scoreRange = true ↔ m.score = 0 ∧ m.goodRun = 0 ∧ m.recoveryRun = 0 := by
  simp [scoreRange, h, and_assoc]

theorem scoreRange_of_candidate (h : m.state = .candidate) :
    m.scoreRange = true ↔ m.score ≤ 95 ∧ m.goodRun < 16 ∧ m.recoveryRun = 0 := by
  simp [scoreRange, h, and_assoc]

theorem scoreRange_of_qualified (h : m.state = .qualified) :
    m.scoreRange = true ↔ m.score < 32 ∧ m.recoveryRun = 0 := by
  simp [scoreRange, h]

theorem scoreRange_of_watch (h : m.state = .watch) :
    m.scoreRange = true ↔ 32 ≤ m.score ∧ m.score ≤ 95 ∧ m.recoveryRun = 0 := by
  simp [scoreRange, h, and_assoc]

theorem scoreRange_of_excluded (h : m.state = .excluded) :
    m.scoreRange = true ↔ m.score = 96 ∧ m.goodRun = 0 ∧ m.recoveryRun < 60 := by
  simp [scoreRange, h, and_assoc]

theorem stateOfScore_ne_disabled (n : Nat) : stateOfScore n ≠ .disabled := by
  unfold stateOfScore
  split <;> simp

theorem scoreRange_of_stateOfScore (h : m.state = stateOfScore m.score) (hscore : m.score ≤ 95)
    (hrun : m.recoveryRun = 0) : m.scoreRange = true := by
  by_cases hlt : m.score < 32
  · exact (scoreRange_of_qualified (h.trans (stateOfScore_of_lt hlt))).mpr ⟨hlt, hrun⟩
  · have hle := Nat.not_lt.mp hlt
    exact (scoreRange_of_watch (h.trans (stateOfScore_of_le hle))).mpr ⟨hle, hscore, hrun⟩

/-- The score outside EXCLUDED and DISABLED is at most 95. -/
theorem score_of_scored (h : m.scoreRange = true) (hs : m.Scored) : m.score ≤ 95 ∧ m.recoveryRun = 0 := by
  obtain hs | hs | hs := hs
  · exact ⟨((scoreRange_of_candidate hs).mp h).1, ((scoreRange_of_candidate hs).mp h).2.2⟩
  · exact ⟨((scoreRange_of_qualified hs).mp h).1.le.trans (by decide), ((scoreRange_of_qualified hs).mp h).2⟩
  · exact ((scoreRange_of_watch hs).mp h).2

/-! ### The steps of a closed mark (R28 to R31) -/

/-- What a closed mark leaves of a monitor. -/
structure StepsTo (m n : Monitor) : Prop where
  range : n.scoreRange = true
  enabled : n.state ≠ .disabled
  pendingMark : n.pendingMark = m.pendingMark
  messageWait : n.messageWait = m.messageWait
  missingTimer : n.missingTimer = m.missingTimer

theorem goodStep_stepsTo (h : m.scoreRange = true) (hs : m.Scored) : m.StepsTo m.goodStep := by
  obtain ⟨hscore, hrun⟩ := score_of_scored h hs
  have hlow : m.goodStep.score ≤ 95 := (Nat.sub_le _ _).trans hscore
  obtain hs | hs | hs := hs
  · have hstate := goodStep_state_of_candidate hs
    by_cases h16 : 16 ≤ m.goodRun + 1
    · rw [if_pos h16] at hstate
      exact ⟨scoreRange_of_stateOfScore hstate hlow hrun, hstate ▸ stateOfScore_ne_disabled _, rfl, rfl, rfl⟩
    · rw [if_neg h16] at hstate
      refine ⟨(scoreRange_of_candidate hstate).mpr ⟨hlow, ?_, hrun⟩, by simp [hstate], rfl, rfl, rfl⟩
      exact (Nat.min_le_left _ _).trans_lt (Nat.not_le.mp h16)
  · have hstate := goodStep_state_of_qualified hs
    exact ⟨(scoreRange_of_qualified hstate).mpr
      ⟨(Nat.sub_le _ _).trans_lt ((scoreRange_of_qualified hs).mp h).1, hrun⟩, by simp [hstate], rfl, rfl, rfl⟩
  · have hstate := goodStep_state_of_watch hs
    exact ⟨scoreRange_of_stateOfScore hstate hlow hrun, hstate ▸ stateOfScore_ne_disabled _, rfl, rfl, rfl⟩

theorem badStep_stepsTo (h : m.scoreRange = true) (hs : m.Scored) (hlt : m.score + 8 < 96) : m.StepsTo m.badStep := by
  obtain ⟨_, hrun⟩ := score_of_scored h hs
  have hlow : m.badStep.score ≤ 95 := Nat.le_of_lt_succ hlt
  obtain hs | hs | hs := hs
  · have hstate := badStep_state_of_candidate hs
    exact ⟨(scoreRange_of_candidate hstate).mpr ⟨hlow, Nat.zero_lt_succ _, hrun⟩, by simp [hstate], rfl, rfl, rfl⟩
  · have hstate := badStep_state_of_qualified hs
    exact ⟨scoreRange_of_stateOfScore hstate hlow hrun, hstate ▸ stateOfScore_ne_disabled _, rfl, rfl, rfl⟩
  · have hstate := badStep_state_of_watch hs
    exact ⟨(scoreRange_of_watch hstate).mpr
      ⟨((scoreRange_of_watch hs).mp h).1.trans (Nat.le_add_right _ _), hlow, hrun⟩, by simp [hstate], rfl, rfl, rfl⟩

theorem exclude_stepsTo : m.StepsTo m.exclude := ⟨rfl, nofun, rfl, rfl, rfl⟩

theorem recoveryStep_stepsTo (h : m.scoreRange = true) (hs : m.state = .excluded) (good : Bool) :
    m.StepsTo (m.recoveryStep good) := by
  obtain ⟨hscore, hgood, _⟩ := (scoreRange_of_excluded hs).mp h
  cases good with
  | false =>
    rw [recoveryStep_false]
    exact ⟨(scoreRange_of_excluded (m := { m with recoveryRun := 0 }) hs).mpr ⟨hscore, hgood, Nat.zero_lt_succ _⟩, by simp [hs], rfl, rfl, rfl⟩
  | true =>
    by_cases h60 : m.recoveryRun + 1 < 60
    · rw [recoveryStep_true_of_lt h60]
      exact ⟨(scoreRange_of_excluded (m := { m with recoveryRun := m.recoveryRun + 1 }) hs).mpr ⟨hscore, hgood, h60⟩, by simp [hs], rfl, rfl, rfl⟩
    · rw [recoveryStep_true_of_le (Nat.not_lt.mp h60)]
      exact ⟨rfl, nofun, rfl, rfl, rfl⟩

theorem scored_or_excluded (h : m.state ≠ .disabled) : m.Scored ∨ m.state = .excluded := by
  cases hs : m.state with
  | disabled => exact absurd hs h
  | candidate => exact .inl (.inl hs)
  | qualified => exact .inl (.inr (.inl hs))
  | watch => exact .inl (.inr (.inr hs))
  | excluded => exact .inr rfl

theorem step_stepsTo (h : m.scoreRange = true) (hen : m.state ≠ .disabled) (reason : Option Reason) :
    m.StepsTo (m.step reason) := by
  obtain hs | hs := scored_or_excluded hen
  · cases reason with
    | none =>
      rw [step_none_of_scored hs]
      exact goodStep_stepsTo h hs
    | some x =>
      by_cases hlt : m.score + 8 < 96
      · rw [step_some_of_lt hs x hlt]
        exact badStep_stepsTo h hs hlt
      · rw [step_some_of_le hs x (Nat.not_lt.mp hlt)]
        exact exclude_stepsTo
  · rw [step_of_excluded hs]
    exact recoveryStep_stepsTo h hs _

/-- A usable or running-up reference has an adopted offset (R40). -/
def HasOffset (m : Monitor) : Prop :=
  m.state = .qualified ∨ m.state = .watch ∨ 0 < m.goodRun ∨ 0 < m.recoveryRun → m.adopted.isSome = true

/-- After a bad mark no run is up, so only a reference that was usable before can be. -/
theorem step_some_hasOffset (h : m.HasOffset) (hen : m.state ≠ .disabled) (x : Reason) :
    (m.step (some x)).HasOffset := by
  obtain hs | hs := scored_or_excluded hen
  · by_cases hlt : m.score + 8 < 96
    · rw [step_some_of_lt hs x hlt]
      obtain hs | hs | hs := hs
      · intro hu
        rw [badStep_state_of_candidate hs] at hu
        simp only [reduceCtorEq, badStep_goodRun, Nat.lt_irrefl, false_or] at hu
        exact h (.inr (.inr (.inr hu)))
      · exact fun _ => h (.inl hs)
      · exact fun _ => h (.inr (.inl hs))
    · rw [step_some_of_le hs x (Nat.not_lt.mp hlt)]
      exact fun hu => by simp [exclude] at hu
  · rw [step_of_excluded hs, Option.isNone_some, recoveryStep_false]
    intro hu
    simp only [hs, reduceCtorEq, Nat.lt_irrefl, or_false, false_or] at hu
    exact h (.inr (.inr (.inl hu)))

theorem step_none_adopted (hen : m.state ≠ .disabled) : (m.step none).adopted = m.adopted := by
  obtain hs | hs := scored_or_excluded hen
  · rw [step_none_of_scored hs]
    rfl
  · rw [step_of_excluded hs, Option.isNone_none]
    unfold recoveryStep
    simp only [if_true]
    split <;> rfl

theorem step_hasOffset (h : m.HasOffset) (hen : m.state ≠ .disabled) {reason : Option Reason}
    (hgood : reason = none → m.adopted.isSome = true) : (m.step reason).HasOffset := by
  cases reason with
  | none => exact fun _ => (step_none_adopted hen).symm ▸ hgood rfl
  | some x => exact step_some_hasOffset h hen x

/-- R28 to R34: a closed mark keeps an enabled monitor enabled and within its ranges. -/
theorem close_wf (h : m.Wf) (hen : m.state ≠ .disabled) {reason : Option Reason}
    (hgood : reason = none → m.adopted.isSome = true) :
    (m.close reason).Wf ∧ (m.close reason).state ≠ .disabled ∧ (m.close reason).messageWait = m.messageWait := by
  obtain ⟨hrange, hwait, _, hoffset⟩ := h
  obtain ⟨hrange', hen', hpending, hmessage, _⟩ := step_stepsTo hrange hen reason
  refine ⟨⟨hrange', ?_, fun hd => absurd hd hen', step_hasOffset hoffset hen hgood⟩, hen', hmessage⟩
  show (m.step reason).pendingMark.isSome = (m.step reason).messageWait.isSome
  rw [hpending, hmessage, hwait]

/-- The ranges of a monitor under a change that leaves what they speak of. -/
theorem Wf.congr {n : Monitor} (h : m.Wf) (hstate : n.state = m.state) (hscore : n.score = m.score)
    (hgood : n.goodRun = m.goodRun) (hrec : n.recoveryRun = m.recoveryRun)
    (hwait : n.pendingMark.isSome = n.messageWait.isSome)
    (hdis : m.state = .disabled → n.pendingMark = none ∧ n.missingTimer = none)
    (hadopted : m.adopted.isSome = true → n.adopted.isSome = true) : n.Wf := by
  obtain ⟨hrange, _, _, hoffset⟩ := h
  refine ⟨?_, hwait, fun hd => hdis (hstate ▸ hd), fun hu => hadopted (hoffset ?_)⟩
  · simpa only [scoreRange, hstate, hscore, hgood, hrec] using hrange
  · simpa only [hstate, hgood, hrec] using hu

theorem enabled_iff : m.enabled = true ↔ m.state ≠ .disabled := by simp [enabled]

end Monitor

/-! ### Marks -/

section
variable {s : State} {r : Ref}

/-- Every monitor keeps its ranges. -/
def State.MonitorsWf (s : State) : Prop := ∀ r, (s.mon r).Wf

@[simp] theorem State.closeMark_mon (s : State) (r : Ref) (c : ClosedMark) :
    (s.closeMark r c).mon r = (s.mon r).close c.reason := by
  unfold State.closeMark
  dsimp only
  split
  · exact (State.takeReport_same _ _ (.mon r) (by simp [disciplineBlocks])).trans (s.setMon_mon r _)
  · exact ((State.takeReport_same _ _ (.mon r) (by simp [disciplineBlocks])).trans
      (State.notice_same _ _ _ (.mon r) (by simp))).trans (s.setMon_mon r _)

theorem State.MonitorsWf.of_mon {t : State} (h : s.MonitorsWf) {bs : List Block} (k : s.SameBut t bs)
    (hbs : ∀ q, q ≠ r → .mon q ∉ bs) (hr : (t.mon r).Wf) : t.MonitorsWf := fun q => by
  by_cases hq : q = r
  · exact hq ▸ hr
  · have hmon : t.mon q = s.mon q := k (.mon q) (hbs q hq)
    exact hmon ▸ h q

theorem State.MonitorsWf.of_same {t : State} (h : s.MonitorsWf) {bs : List Block} (k : s.SameBut t bs)
    (hbs : ∀ q, .mon q ∉ bs) : t.MonitorsWf := fun q => by
  have hmon : t.mon q = s.mon q := k (.mon q) (hbs q)
  exact hmon ▸ h q

theorem mon_not_mem_markBlocks {q : Ref} (h : q ≠ r) : Block.mon q ∉ markBlocks r := by
  simp [markBlocks, disciplineBlocks, h]

/-- A mark that a monitor without a pending mark closes. -/
theorem Monitor.dropMark_wf {m : Monitor} (h : m.Wf) : m.dropMark.Wf :=
  h.congr rfl rfl rfl rfl rfl (fun hd => ⟨rfl, (h.2.2.1 hd).2⟩) id

theorem State.closeNoLabel_mon_wf (h : (s.mon r).Wf) (hen : (s.mon r).state ≠ .disabled) (p : PendingMark) :
    ((s.closeNoLabel r p).mon r).Wf ∧ ((s.closeNoLabel r p).mon r).state ≠ .disabled := by
  rw [closeNoLabel, closeMark_mon, setMon_mon]
  obtain ⟨hwf, hstate, _⟩ := Monitor.close_wf (m := (s.mon r).dropMark) (Monitor.dropMark_wf h) hen
    (reason := some .noLabel) nofun
  exact ⟨hwf, hstate⟩

theorem State.openMark_mon_wf (h : (s.mon r).Wf) (hen : (s.mon r).state ≠ .disabled) (p : PendingMark) :
    ((s.openMark r p).mon r).Wf := by
  rw [openMark, setMon_mon]
  exact h.congr rfl rfl rfl rfl rfl (fun hd => absurd hd hen) id

theorem markEdge_mon_wf (h : (s.mon r).Wf) : ((markEdge r s).mon r).Wf := by
  unfold markEdge
  dsimp only
  split
  · next hen =>
    rw [Monitor.enabled_iff] at hen
    have hcapture : ((s.setMon r ((s.mon r).capture s.tick)).mon r).Wf := by
      rw [State.setMon_mon]
      exact h.congr rfl rfl rfl rfl h.2.1 (fun hd => absurd hd hen) id
    have hstate : ((s.setMon r ((s.mon r).capture s.tick)).mon r).state ≠ .disabled := by
      rw [State.setMon_mon]
      exact hen
    split
    · obtain ⟨hwf, hen'⟩ := State.closeNoLabel_mon_wf hcapture hstate _
      exact State.openMark_mon_wf hwf hen' _
    · exact State.openMark_mon_wf hcapture hstate _
  · exact h

theorem adoptedAfter_isSome {m : Monitor} {msg : TimeMessage} {v : Verdict} : (adoptedAfter m msg v).isSome = true := by
  unfold adoptedAfter offsetCheck
  cases ha : m.adopted with
  | none => rfl
  | some o =>
    by_cases hsame : msg.utcOffset = o
    · simp [hsame]
    · cases hj : justifiedBy m.leap o msg.utcOffset <;> simp [hsame, hj]
      split <;> simp

theorem Monitor.judge_wf {m : Monitor} (h : m.Wf) (hen : m.state ≠ .disabled) (msg : TimeMessage) (v : Verdict) :
    (m.judge msg v).Wf ∧ (m.judge msg v).state ≠ .disabled ∧
      (markReason m msg v = none → (m.judge msg v).adopted.isSome = true) := by
  unfold Monitor.judge
  dsimp only
  split
  · exact ⟨h.congr rfl rfl rfl rfl rfl (fun hd => absurd hd hen) fun _ => adoptedAfter_isSome, hen,
      fun _ => adoptedAfter_isSome⟩
  · next hcheck =>
    refine ⟨h.congr rfl rfl rfl rfl rfl (fun hd => absurd hd hen) id, hen, fun hgood => ?_⟩
    simp [markReason, hcheck] at hgood

theorem timeMessage_mon_wf (h : (s.mon r).Wf) (bytes : List Byte) : ((timeMessage r bytes s).mon r).Wf := by
  unfold timeMessage
  split
  · next hen =>
    rw [Monitor.enabled_iff] at hen
    split
    · exact h
    · rw [State.setMon_mon]
      exact h.congr rfl rfl rfl rfl h.2.1 h.2.2.1 id
    · next msg _ =>
      unfold State.messageArrived
      dsimp only
      split
      · next p hp =>
        rw [State.closeMark_mon, State.setMon_mon]
        refine (Monitor.close_wf (Monitor.judge_wf ?_ ?_ msg p.verdict).1 (Monitor.judge_wf ?_ ?_ msg p.verdict).2.1
          (Monitor.judge_wf ?_ ?_ msg p.verdict).2.2).1
        all_goals first | exact hen | exact h.congr rfl rfl rfl rfl h.2.1 h.2.2.1 id
      · rw [State.setMon_mon]
        exact h.congr rfl rfl rfl rfl h.2.1 h.2.2.1 id
  · exact h

theorem messageWaitExpiry_mon_wf (h : (s.mon r).Wf) : ((messageWaitExpiry r s).mon r).Wf := by
  unfold messageWaitExpiry
  split
  · split
    · next hdue => exact (State.closeNoLabel_mon_wf h (Monitor.enabled_iff.mp hdue.1) _).1
    · exact h
  · exact h

theorem missingMarkExpiry_mon_wf (h : (s.mon r).Wf) : ((missingMarkExpiry r s).mon r).Wf := by
  unfold missingMarkExpiry
  split
  · next hdue =>
    have hen := Monitor.enabled_iff.mp hdue.1
    rw [State.closeMark_mon, State.setMon_mon]
    refine (Monitor.close_wf (m := (s.mon r).missEdge s.tick) (reason := some .missing) ?_ hen nofun).1
    exact h.congr rfl rfl rfl rfl h.2.1 (fun hd => absurd hd hen) id
  · exact h

theorem refByteDiscarded_mon_wf (h : (s.mon r).Wf) (byte : Byte) : ((refByteDiscarded r byte s).mon r).Wf := by
  unfold refByteDiscarded
  dsimp only
  split
  · rw [State.setMon_mon]
    exact h.congr rfl rfl rfl rfl h.2.1 h.2.2.1 id
  · exact h

end

/-! ### REF_CONFIG (R32) -/

theorem Monitor.setEnable_wf {m : Monitor} (h : m.Wf) (enable : Bool) (tick : Nat) : (m.setEnable enable tick).Wf := by
  unfold Monitor.setEnable
  dsimp only
  split
  · exact h
  · cases enable
    · exact ⟨rfl, rfl, fun _ => ⟨rfl, rfl⟩, nofun⟩
    · exact ⟨rfl, rfl, nofun, nofun⟩

theorem State.setEnable_mon (s : State) (r q : Ref) (enable : Bool) :
    (s.setEnable r enable).mon q = (s.setMon r ((s.mon r).setEnable enable s.tick)).mon q := by
  unfold State.setEnable
  dsimp only
  split
  · rfl
  · exact (State.evaluateReport_same _ _ _ _ _ (.mon q) (by simp [disciplineBlocks])).trans
      (State.notice_same _ _ _ (.mon q) (by simp))

/-- What REF_CONFIG leaves of a monitor. -/
theorem State.configureRef_mon (s : State) (r q : Ref) (enable : Bool) (ceiling : Nat) (delay : Int) (p : Ref) :
    (s.configureRef r enable ceiling delay p).mon q =
      if q = r then { (s.mon r).setEnable enable s.tick with ceiling := ceiling } else s.mon q := by
  unfold State.configureRef
  dsimp only
  rw [State.setPreferred_same _ p (.mon q) (by simp [disciplineBlocks])]
  show ((s.setEnable r enable).setMon r { (s.setEnable r enable).mon r with ceiling := ceiling }).mon q = _
  by_cases hq : q = r
  · subst hq
    rw [if_pos rfl, setMon_mon, setEnable_mon, setMon_mon]
  · rw [if_neg hq, setMon_mon_other _ _ _ _ hq, setEnable_mon, setMon_mon_other _ _ _ _ hq]

theorem refConfig_monitorsWf (payload : List Byte) (s : State) (h : s.MonitorsWf) :
    (refConfig payload s).state.MonitorsWf := by
  unfold refConfig
  split
  · next r enable preferred _ _ _ =>
    intro q
    dsimp only
    rw [show ((State.says (State.configChange _ _ _ _ _) _ _).state.mon q) = _ from
      State.configChange_same _ _ _ _ _ (.mon q) (by simp), State.configureRef_mon]
    split
    · have hwf := Monitor.setEnable_wf (h r) enable s.tick
      exact hwf.congr rfl rfl rfl rfl hwf.2.1 hwf.2.2.1 id
    · exact h q
  · exact h

theorem takeRequest_monitorsWf {s : State} (h : s.MonitorsWf) {kind : Nat} {act : List Byte → State → Acted}
    (hact : ∀ payload x, State.MonitorsWf x → (act payload x).state.MonitorsWf) : (takeRequest kind act s).MonitorsWf := by
  unfold takeRequest
  split
  · exact h
  · next q _ =>
    have hx := hact q.payload s.beginService (fun r => by cases r <;> [exact h .a; exact h .b])
    intro r
    cases r <;> [exact hx .a; exact hx .b]

/-- Every action keeps the ranges of the monitors: the marks and REF_CONFIG by what they do, the others by their
frames. -/
theorem actOf_monitorsWf (c : Instr) {s : State} (h : s.MonitorsWf) : (actOf c s).MonitorsWf := by
  cases c with
  | markEdge r => exact h.of_mon (markEdge_same s r) (fun _ => mon_not_mem_markBlocks) (markEdge_mon_wf (h r))
  | timeMessage r bytes =>
    exact h.of_mon (timeMessage_same s r bytes) (fun _ => mon_not_mem_markBlocks) (timeMessage_mon_wf (h r) bytes)
  | messageWaitExpiry r =>
    exact h.of_mon (messageWaitExpiry_same s r) (fun _ => mon_not_mem_markBlocks) (messageWaitExpiry_mon_wf (h r))
  | missingMarkExpiry r =>
    exact h.of_mon (missingMarkExpiry_same s r) (fun _ => mon_not_mem_markBlocks) (missingMarkExpiry_mon_wf (h r))
  | refByteDiscarded r byte =>
    exact h.of_mon (refByteDiscarded_same s r byte) (fun q hq => by simp [hq]) (refByteDiscarded_mon_wf (h r) byte)
  | refConfig => exact takeRequest_monitorsWf h refConfig_monitorsWf
  | _ =>
    refine h.of_same (actOf_same _ s) fun q => ?_
    simp [actBlocks, boundaryBlocks, disciplineBlocks, twinBlocks, portBlocks, groupBlocks, allPorts, allGroups]

theorem startMonitor_wf (x : RefSettings) : (startMonitor x).Wf := by
  unfold startMonitor
  split
  · exact ⟨rfl, rfl, nofun, nofun⟩
  · exact ⟨rfl, rfl, fun _ => ⟨rfl, rfl⟩, nofun⟩

theorem startUpFrom_mon (cause : ResetCause) (s : State) (r : Ref) :
    (startUpFrom cause s).mon r = (startBlocks cause s).mon r := startUpFrom_same cause s (.mon r) (by simp)

/-- Settles O59: the actions keep the ranges, and a reset and its end give the first ones. -/
theorem monitorsAndPortsKeepTheirRanges : Obligations.MonitorsAndPortsKeepTheirRanges := by
  intro s t hmon hport hstep
  refine step_keeps (P := fun x => x.MonitorsWf ∧ x.PortsWf) (fun _ _ h => h) (fun cause s _ => ⟨fun r => ?_, fun p => ?_⟩)
    (fun cause s _ => ⟨fun r => ?_, fun p => ?_⟩) (fun c s h => ⟨actOf_monitorsWf c h.1, actOf_portsWf c h.2⟩)
    ⟨hmon, hport⟩ hstep
  · cases r <;> exact ⟨rfl, rfl, nofun, nofun⟩
  · have hp : (resetHeld cause s).port p = {} := by simp [State.port, resetHeld]
    rw [hp]
    decide
  · rw [startUpFrom_mon]
    cases r <;> exact startMonitor_wf _
  · have hp : (startUpFrom cause s).port p = {} :=
      (startUpFrom_same cause s (.port p) (by simp)).trans (by simp [State.port, startBlocks, blocksSet])
    rw [hp]
    decide

end Sys2Proof.Machine
end

section
/-! What the CLOCK records and the twin change of DU: the list of records, and for the twin the contested mark and
the assisted anchor too. Its mode, selection, servo and anchor they leave as they are. -/

namespace Sys2Proof.Machine

/-! ### DU moved by records alone -/

/-- DU moved by CLOCK records alone. -/
def Discipline.LogsTo (x y : Discipline) : Prop := y = { x with records := y.records }

theorem Discipline.LogsTo.refl (x : Discipline) : x.LogsTo x := rfl

theorem Discipline.LogsTo.trans {x y z : Discipline} (h : x.LogsTo y) (k : y.LogsTo z) : x.LogsTo z := by
  unfold Discipline.LogsTo at h k ⊢
  rw [k, h]

/-- R58: a CLOCK record joins a list of fewer than 32. -/
theorem State.clockRecordAt_du (s : State) (e : ClockEvent) (d : Nat) :
    (s.clockRecordAt e d).du =
      { s.du with
        records := if s.du.records.length < 32 then s.du.records ++ [s.du.form e] else s.du.records } := by
  by_cases h : s.du.records.length < 32
  · simp only [clockRecordAt, clockListMax, h, if_true]
    rfl
  · simp only [clockRecordAt, clockListMax, h, if_false]
    rfl

theorem State.clockRecord_du (s : State) (e : ClockEvent) :
    (s.clockRecord e).du =
      { s.du with
        records := if s.du.records.length < 32 then s.du.records ++ [s.du.form e] else s.du.records } :=
  s.clockRecordAt_du e _

theorem State.clockRecord_logsTo (s : State) (e : ClockEvent) : s.du.LogsTo (s.clockRecord e).du := by
  rw [Discipline.LogsTo, clockRecord_du]

theorem State.writeOffset_logsTo (s : State) (o : Int) (c : OffsetCause) : s.du.LogsTo (s.writeOffset o c).du := by
  unfold State.writeOffset
  split
  · exact .refl _
  · exact State.clockRecord_logsTo _ _

theorem State.followOffset_logsTo (s : State) (m : MarkReport) : s.du.LogsTo (s.followOffset m).du := by
  unfold State.followOffset
  split
  · exact s.writeOffset_logsTo _ _
  · exact .refl _

/-! ### DU moved by the twin -/

/-- DU moved by records, the contested mark and the assisted anchor alone (R52, R55, R76). -/
def Discipline.TwinTo (x y : Discipline) : Prop :=
  y = { x with contested := y.contested, assisted := y.assisted, records := y.records }

theorem Discipline.TwinTo.refl (x : Discipline) : x.TwinTo x := rfl

theorem Discipline.TwinTo.trans {x y z : Discipline} (h : x.TwinTo y) (k : y.TwinTo z) : x.TwinTo z := by
  unfold Discipline.TwinTo at h k ⊢
  rw [k, h]

theorem Discipline.LogsTo.twinTo {x y : Discipline} (h : x.LogsTo y) : x.TwinTo y := by
  unfold Discipline.LogsTo at h
  unfold Discipline.TwinTo
  rw [h]

namespace Discipline.TwinTo

variable {x y : Discipline} (h : x.TwinTo y)

include h

theorem mode : y.mode = x.mode := by rw [h]
theorem selection : y.selection = x.selection := by rw [h]
theorem preferred : y.preferred = x.preferred := by rw [h]
theorem integral : y.integral = x.integral := by rw [h]
theorem rate : y.rate = x.rate := by rw [h]
theorem anchor : y.anchor = x.anchor := by rw [h]
theorem bound : y.bound = x.bound := by rw [h]
theorem trace : y.trace = x.trace := by rw [h]
theorem leap : y.leap = x.leap := by rw [h]
theorem staleA : y.staleA = x.staleA := by rw [h]
theorem staleB : y.staleB = x.staleB := by rw [h]
theorem lastSlew : y.lastSlew = x.lastSlew := by rw [h]
theorem boundaryCount : y.boundaryCount = x.boundaryCount := by rw [h]
theorem stats : y.stats = x.stats := by rw [h]

end Discipline.TwinTo

/-- `t` is reached from `s` by actions of the twin, as far as DU is concerned. -/
abbrev State.Twinned (s t : State) : Prop := s.du.TwinTo t.du

namespace State.Twinned

variable {s t : State}

theorem refl (s : State) : s.Twinned s := rfl

theorem ite {u : State} {c : Prop} [Decidable c] (h : s.Twinned t) (k : s.Twinned u) :
    s.Twinned (if c then t else u) := by
  split <;> assumption

theorem setTlu (h : s.Twinned t) (x : TwinLink) : s.Twinned (t.setTlu x) := h
theorem setTb (h : s.Twinned t) (x : TimeBase) : s.Twinned { t with tb := x } := h
theorem formTwin (h : s.Twinned t) (f : TwinFrame) : s.Twinned (t.formTwin f) := h
theorem formProbe (h : s.Twinned t) : s.Twinned t.formProbe := h
theorem twinNotice (h : s.Twinned t) (o : TwinState) (c : TwinCause) (e : Option Evaluation) :
    s.Twinned (t.twinNotice o c e) := h

theorem twinChanged (h : s.Twinned t) (o : TwinState) (c : TwinCause) (e : Option Evaluation) :
    s.Twinned (t.twinChanged o c e) := ite h h

theorem clockRecord (h : s.Twinned t) (e : ClockEvent) : s.Twinned (t.clockRecord e) :=
  h.trans (t.clockRecord_logsTo e).twinTo

theorem setContested (h : s.Twinned t) (b : Bool) : s.Twinned { t with du := { t.du with contested := b } } :=
  h.trans rfl

theorem contest (h : s.Twinned t) (x : Int) (l : Nat) : s.Twinned (t.contest x l) :=
  ite h (.clockRecord (.setContested h true) _)

theorem uncontest (h : s.Twinned t) (c : ContestCause) (x : Option Int) : s.Twinned (t.uncontest c x) :=
  ite (.clockRecord (.setContested h false) _) h

theorem withdrawAnchor (h : s.Twinned t) : s.Twinned t.withdrawAnchor :=
  ite (h.trans (y := t.du) (z := { t.du with assisted := none }) rfl) h

theorem offerAnchor (h : s.Twinned t) (x : Int) : s.Twinned (t.offerAnchor x) := by
  unfold State.offerAnchor
  split
  · exact h.trans (y := t.du) (z := { t.du with assisted := _ }) rfl
  · exact h.withdrawAnchor

theorem enterMeasuring (h : s.Twinned t) (i : TwinIdentity) (c : TwinCause) : s.Twinned (t.enterMeasuring i c) :=
  .twinChanged (.formProbe (.setTlu h.withdrawAnchor _)) _ _ _

theorem enterDetached (h : s.Twinned t) (f : TwinFault) : s.Twinned (t.enterDetached f) :=
  .twinChanged (.setTlu h.withdrawAnchor _) _ _ _

theorem reportAgreement (h : s.Twinned t) (x : Int) : s.Twinned (t.reportAgreement x) := by
  unfold State.reportAgreement
  split
  · exact h.uncontest _ _
  · exact h.contest _ _
  · exact h

theorem afterEvaluation (h : s.Twinned t) (o : TwinState) (m : Measured) : s.Twinned (t.afterEvaluation o m) :=
  .offerAnchor (.formTwin (.ite h (h.reportAgreement _)) _) _

theorem evaluateMeasurement (h : s.Twinned t) : s.Twinned t.evaluateMeasurement := by
  unfold State.evaluateMeasurement
  dsimp only
  split
  · exact .ite (.twinChanged (.setTlu (.afterEvaluation (.setTlu h _) _ _) _) _ _ _) (h.enterDetached _)
  · exact h.enterDetached _

theorem failCheck (h : s.Twinned t) : s.Twinned t.failCheck :=
  .ite (.formTwin (.twinNotice (.setTlu h _) _ _ _) _) (.enterDetached (.twinNotice (.setTlu h _) _ _ _) _)

theorem evaluateCheck (h : s.Twinned t) : s.Twinned t.evaluateCheck := by
  unfold State.evaluateCheck
  dsimp only
  split
  · exact .ite (.twinChanged (.afterEvaluation (.setTlu h _) _ _) _ _ _) h.failCheck
  · exact h.failCheck

theorem afterClose (h : s.Twinned t) : s.Twinned t.afterClose := by
  unfold State.afterClose
  split
  · split
    · exact h.evaluateMeasurement
    · exact h.evaluateCheck
    · exact h.evaluateCheck
    · exact h
    · exact h
    · exact h
  · exact h

theorem closeProbe (h : s.Twinned t) (o : ProbeOutcome) : s.Twinned (t.closeProbe o) := .afterClose (.setTlu h _)

theorem twinStepped (h : s.Twinned t) : s.Twinned t.twinStepped :=
  .ite (.closeProbe (.setTlu h _) _) (.setTlu h _)

theorem stepTime (h : s.Twinned t) (a : Int) : s.Twinned (t.stepTime a) := .twinStepped (.setTb h _)

theorem rejectTwin (h : s.Twinned t) (f : TwinFault) : s.Twinned (t.rejectTwin f) := .enterDetached (.formTwin h _) _

theorem onMessage (h : s.Twinned t) (now : Nat) (msg : TwinMessage) : s.Twinned (t.onMessage now msg) := by
  cases msg with
  | offer id =>
    unfold State.onMessage State.onOffer
    dsimp only
    split
    · exact h
    all_goals
      split
      · exact h.rejectTwin _
      · exact .enterMeasuring (.formTwin h _) _ _
  | accept id =>
    unfold State.onMessage State.onAccept
    dsimp only
    split
    · exact h
    all_goals
      split
      · exact h.rejectTwin _
      · first | exact h.enterMeasuring _ _ | exact h
  | refuse v n =>
    unfold State.onMessage State.onEnding
    dsimp only
    split <;> first | exact h | exact h.enterDetached _
  | bye =>
    unfold State.onMessage State.onEnding
    dsimp only
    split <;> first | exact h | exact h.enterDetached _
  | probe n => exact .ite h h
  | echo n t2 t3 =>
    unfold State.onMessage State.onEcho
    dsimp only
    split
    · split
      · exact h.closeProbe _
      · exact h
    · exact h
  | status st =>
    exact .ite (.ite (.ite (.setTlu h _) (.withdrawAnchor (.setTlu h _))) (.setTlu h _)) h

theorem openOffer (h : s.Twinned t) : s.Twinned t.openOffer := h

theorem stopTwin (h : s.Twinned t) : s.Twinned t.stopTwin :=
  .twinChanged (.setTlu (.uncontest (.withdrawAnchor (.setTlu (.formTwin h _) _)) _ _) _) _ _ _

end State.Twinned

end Sys2Proof.Machine
end

section
/-! The marks: edges without a mark pending, messages without one, the judgement of a completed mark, and what a closed
mark leaves of its monitor. -/

namespace Sys2Proof.Machine

/-! ### The nine checks (Table 2-3, R23 to R27) -/

theorem labelPasses_iff {last : Option Nat} {label : Nat} :
    labelPasses last label = true ↔ ∀ l, last = some l → label = l + 1 := by
  cases last <;> simp [labelPasses]

theorem justifiedBy_iff {leap : Option LeapMemory} {o carried : Int} :
    justifiedBy leap o carried = true ↔ ∃ l, leap = some l ∧ carried = if l.sign then o - 1 else o + 1 := by
  cases leap with
  | none => simp [justifiedBy]
  | some l => cases hs : l.sign <;> simp [justifiedBy, hs]

theorem offsetCheck_ne_unjustified_iff {m : Monitor} {carried : Int} :
    offsetCheck m carried ≠ .unjustified ↔
      ∀ o, m.adopted = some o → carried = o ∨ justifiedBy m.leap o carried = true := by
  unfold offsetCheck
  cases m.adopted with
  | none => simp
  | some o =>
    by_cases hsame : carried = o
    · simp [hsame]
    · cases hj : justifiedBy m.leap o carried <;> simp [hsame, hj]

theorem laterReason_eq_none_iff {m : Monitor} {msg : TimeMessage} {v : Verdict} {f : MarkFlags} :
    laterReason m msg v f = none ↔
      f.quality = false ∧ labelPasses m.lastLabel msg.label = true ∧ msg.uncertainty ≤ m.ceiling ∧
        v ≠ .frequency ∧ v ≠ .jump ∧ offsetCheck m msg.utcOffset ≠ .unjustified := by
  unfold laterReason
  split_ifs <;> simp_all

/-- Settles O18: the reason is absent when each check in turn finds nothing. -/
theorem aMarkIsGoodWhenItPassesAllNineChecks : Obligations.AMarkIsGoodWhenItPassesAllNineChecks := by
  intro m msg v
  simp only [← justifiedBy_iff, ← offsetCheck_ne_unjustified_iff, ← labelPasses_iff]
  unfold markReason
  cases hcheck : msg.checkOk with
  | false => simp
  | true => cases hcode : decodeMarkCode msg.code <;> simp [laterReason_eq_none_iff]

/-! ### Edges and messages without a mark pending (R17 to R20) -/

theorem countGap_eq_natAbs (l t : Nat) : countGap l t = ((t : Int) - l).natAbs := by
  unfold countGap
  split <;> omega

theorem inWindow_iff {t : Nat} : inWindow t = true ↔ 124975000 ≤ t ∧ t ≤ 125025000 := by simp [inWindow]

section
variable {s : State} {r : Ref}

/-- The mark an edge opens. -/
def State.edgeMark (s : State) (r : Ref) : PendingMark :=
  ⟨s.tb.raw, (s.mon r).tickCount s.tick, tickVerdict (s.mon r).lastTicks ((s.mon r).tickCount s.tick)⟩

theorem markEdge_of_none (hen : (s.mon r).state ≠ .disabled) (hp : (s.mon r).pendingMark = none) :
    markEdge r s = (s.setMon r ((s.mon r).capture s.tick)).openMark r (s.edgeMark r) := by
  unfold markEdge
  simp only [Monitor.enabled_iff.mpr hen, if_true, hp]
  rfl

theorem markEdge_of_some {p : PendingMark} (hen : (s.mon r).state ≠ .disabled) (hp : (s.mon r).pendingMark = some p) :
    markEdge r s =
      ((s.setMon r ((s.mon r).capture s.tick)).closeNoLabel r p).openMark r (s.edgeMark r) := by
  unfold markEdge
  simp only [Monitor.enabled_iff.mpr hen, if_true, hp]
  rfl

theorem timeMessage_of_enabled (hen : (s.mon r).state ≠ .disabled) (bytes : List Byte) :
    timeMessage r bytes s =
      match takeTimeMessage (s.mon r).rx bytes with
      | .notAFrame => s
      | .assembling rx => s.setMon r { s.mon r with rx := rx }
      | .arrived msg => s.messageArrived r msg := by
  unfold timeMessage
  simp only [Monitor.enabled_iff.mpr hen, if_true] <;> rfl

end

theorem State.setMon_setMon (s : State) (r : Ref) (x y : Monitor) : (s.setMon r x).setMon r y = s.setMon r y := by
  cases r <;> rfl

/-- Settles O15: each command writes the monitor once. -/
theorem edgesAndMessagesWithoutAMark : Obligations.EdgesAndMessagesWithoutAMark := by
  intro s r hrun hen hp
  refine ⟨?_, fun bytes rx htake => ?_, fun bytes msg htake => ?_⟩
  · have hedge := markEdge_of_none hen hp
    rw [State.openMark, State.setMon_mon, State.setMon_setMon] at hedge
    refine ⟨_, (live_of_running hrun _).trans (congrArg _ hedge), s.setMon_same r _, ?_⟩
    rw [State.setMon_mon]
    refine ⟨rfl, fun hb => ?_, fun x hb => ⟨fun hout => ?_, fun hlo hhi => ⟨?_, fun hl => ?_, fun l hl => ?_⟩⟩⟩
    · simp [Monitor.capture, State.edgeMark, Monitor.tickCount, hb, tickVerdict, tickLast]
    · have hwin : inWindow (s.tick - x) = false := by rw [← Bool.not_eq_true, inWindow_iff]; exact hout
      simp [Monitor.capture, State.edgeMark, Monitor.tickCount, hb, tickVerdict, tickLast, hwin]
    all_goals have hwin : inWindow (s.tick - x) = true := inWindow_iff.mpr ⟨hlo, hhi⟩
    · simp [Monitor.capture, Monitor.tickCount, hb, tickLast, hwin]
    · simp [State.edgeMark, Monitor.tickCount, hb, tickVerdict, hwin, hl]
    · simp [State.edgeMark, Monitor.tickCount, hb, tickVerdict, hwin, hl, countGap_eq_natAbs]
  · refine (live_of_running hrun _).trans (congrArg _ ?_)
    rw [timeMessage_of_enabled hen, htake]
  · refine (live_of_running hrun _).trans (congrArg _ ?_)
    rw [timeMessage_of_enabled hen, htake]
    simp only [State.messageArrived, hp]

/-! ### What a closed mark leaves of its monitor (R28 to R31) -/

namespace Monitor

variable {m n : Monitor}

/-- The score, the runs and the state after a closed mark depend on those before it. -/
theorem step_congr (hstate : n.state = m.state) (hscore : n.score = m.score) (hgood : n.goodRun = m.goodRun)
    (hrec : n.recoveryRun = m.recoveryRun) (reason : Option Reason) :
    (n.step reason).state = (m.step reason).state ∧ (n.step reason).score = (m.step reason).score ∧
      (n.step reason).goodRun = (m.step reason).goodRun ∧
      (n.step reason).recoveryRun = (m.step reason).recoveryRun := by
  unfold step
  rw [hstate]
  cases hs : m.state with
  | disabled => exact ⟨hstate.trans hs |>.trans hs.symm, hscore, hgood, hrec⟩
  | excluded =>
    simp only [recoveryStep, hrec]
    split_ifs <;> simp_all
  | candidate | qualified | watch =>
    cases reason with
    | none => simp_all [goodStep]
    | some x =>
      simp only [hscore]
      split <;> simp_all [exclude, badStep]

theorem step_of_disabled (h : m.state = .disabled) (reason : Option Reason) : m.step reason = m := by
  simp only [step, h]

/-- A closed mark excludes the reference, or changes the score, the runs and the state alone. -/
theorem step_cases (m : Monitor) (reason : Option Reason) :
    m.state ≠ .excluded ∧ m.step reason = m.exclude ∨
      ∃ st score good rec, (st = .excluded → m.state = .excluded) ∧
        m.step reason = { m with state := st, score := score, goodRun := good, recoveryRun := rec } := by
  by_cases hen : m.state = .disabled
  · exact .inr ⟨m.state, m.score, m.goodRun, m.recoveryRun, id, step_of_disabled hen reason⟩
  obtain hs | hs := scored_or_excluded hen
  · have hne : m.state ≠ .excluded := by obtain hs | hs | hs := hs <;> simp [hs]
    cases reason with
    | none =>
      rw [step_none_of_scored hs]
      refine .inr ⟨m.goodStep.state, _, _, m.recoveryRun, fun h => ?_, rfl⟩
      obtain hs | hs | hs := hs
      · rw [goodStep_state_of_candidate hs, stateOfScore] at h
        split_ifs at h
      · rw [goodStep_state_of_qualified hs] at h
        cases h
      · rw [goodStep_state_of_watch hs, stateOfScore] at h
        split_ifs at h
    | some x =>
      by_cases hlt : m.score + 8 < 96
      · rw [step_some_of_lt hs x hlt]
        refine .inr ⟨m.badStep.state, _, _, m.recoveryRun, fun h => ?_, rfl⟩
        obtain hs | hs | hs := hs
        · rw [badStep_state_of_candidate hs] at h
          cases h
        · rw [badStep_state_of_qualified hs, stateOfScore] at h
          split_ifs at h
        · rw [badStep_state_of_watch hs] at h
          cases h
      · rw [step_some_of_le hs x (Nat.not_lt.mp hlt)]
        exact .inl ⟨hne, rfl⟩
  · rw [step_of_excluded hs]
    refine .inr ?_
    cases reason.isNone with
    | false => exact ⟨m.state, _, _, 0, fun _ => hs, recoveryStep_false⟩
    | true =>
      by_cases h60 : m.recoveryRun + 1 < 60
      · exact ⟨m.state, _, _, _, fun _ => hs, recoveryStep_true_of_lt h60⟩
      · exact ⟨.qualified, 0, 0, 0, nofun, recoveryStep_true_of_le (Nat.not_lt.mp h60)⟩

/-- What a monitor keeps at a closed mark, whatever its reason. -/
structure Keeps (m n : Monitor) : Prop where
  pendingMark : n.pendingMark = m.pendingMark
  messageWait : n.messageWait = m.messageWait
  missingTimer : n.missingTimer = m.missingTimer
  baseline : n.baseline = m.baseline
  lastTicks : n.lastTicks = m.lastTicks
  ceiling : n.ceiling = m.ceiling
  rx : n.rx = m.rx

theorem close_keeps (m : Monitor) (reason : Option Reason) : m.Keeps (m.close reason) := by
  obtain ⟨_, h⟩ | ⟨_, _, _, _, _, h⟩ := m.step_cases reason
  · constructor <;> simp only [close, h, exclude]
  · constructor <;> simp only [close, h]

/-- R31: entry to EXCLUDED clears the last label, the adopted offset and the leap memory; nothing else does. -/
theorem close_memory (m : Monitor) (reason : Option Reason) :
    ((m.step reason).state ≠ .excluded ∨ m.state = .excluded →
        (m.close reason).lastLabel = m.lastLabel ∧ (m.close reason).adopted = m.adopted ∧
          (m.close reason).leap = m.leap) ∧
      ((m.step reason).state = .excluded → m.state ≠ .excluded →
        (m.close reason).lastLabel = none ∧ (m.close reason).adopted = none ∧ (m.close reason).leap = none) := by
  obtain ⟨hne, h⟩ | ⟨st, score, good, rec, hst, h⟩ := m.step_cases reason
  · exact ⟨fun hk => absurd hk (by rw [h]; simp [exclude, hne]), fun _ _ => by rw [close, h]; exact ⟨rfl, rfl, rfl⟩⟩
  · exact ⟨fun _ => by rw [close, h]; exact ⟨rfl, rfl, rfl⟩, fun hk hne => absurd (hst (by rw [h] at hk; exact hk)) hne⟩

end Monitor

/-! ### The evidence interval (R56) -/

theorem least_eq (x : Option Nat) (v : Nat) : least x v = some (min v (x.getD v)) := by
  cases x with
  | none => simp [least]
  | some w => simp only [least, Option.getD_some, Nat.min_comm v w, Nat.min_def]

theorem greatest_eq (x : Option Nat) (v : Nat) : greatest x v = some (max v (x.getD v)) := by
  cases x with
  | none => simp [greatest]
  | some w => by_cases h : v ≤ w <;> simp [greatest, h]; omega

theorem State.followLeap_stats (s : State) (m : MarkReport) : (s.followLeap m).du.stats = s.du.stats := by
  unfold State.followLeap
  split
  · rfl
  · split
    · rw [State.clockRecord_du]
      rfl
    · rfl

/-- R56: a report of a bad mark leaves the state as it is but for the offset, the leap memory and the count. -/
theorem State.takeOwnReport_of_bad {s : State} {m : MarkReport} {x : Reason} (hm : m.reason = some x) :
    s.takeOwnReport m = ((s.followOffset m).followLeap m).countReport m := by
  unfold State.takeOwnReport
  have hused : ∀ u : State, u.usedMark m = none := fun u => by simp [usedMark, hm]
  simp only [hused]

theorem State.countReport_stats_of_bad {s : State} {m : MarkReport} {x : Reason} (hm : m.reason = some x) :
    (s.countReport m).du.stats = s.du.stats.count m := by
  have hused : s.usedMark m = none := by simp [usedMark, hm]
  simp only [countReport, setDu_du, hused]

theorem Discipline.clearStale_stats (x : Discipline) (r : Ref) : (x.clearStale r).stats = x.stats := by
  cases r <;> rfl

/-- R56: a bad mark without fields, at which the reference keeps its state, in the statistics. -/
theorem State.takeReport_stats_of_bad {s : State} {m : MarkReport} {x : Reason} (hm : m.reason = some x)
    (hcause : m.cause = none) :
    (s.takeReport m).du.stats = if s.du.selection = some m.ref then s.du.stats.count m else s.du.stats := by
  unfold State.takeReport
  simp only [hcause, setDu_du, Discipline.clearStale_stats]
  split
  · rw [takeOwnReport_of_bad hm, countReport_stats_of_bad hm, followLeap_stats,
      (s.followOffset_logsTo m).twinTo.stats]
  · rfl

/-- R56: a mark closed bad without a message, at which the reference keeps its state, in the statistics. -/
theorem State.closeMark_stats {s : State} {r : Ref} {x : Reason} {capture ticks : Option Nat}
    (hkeep : ((s.mon r).step (some x)).state = (s.mon r).state) :
    (s.closeMark r { reason := some x, capture := capture, ticks := ticks }).du.stats =
      if s.du.selection ≠ some r then s.du.stats
      else { s.du.stats with
        bad := bump s.du.stats.bad
        minTicks := match ticks with
          | none => s.du.stats.minTicks
          | some k => some (min k (s.du.stats.minTicks.getD k))
        maxTicks := match ticks with
          | none => s.du.stats.maxTicks
          | some k => some (max k (s.du.stats.maxTicks.getD k)) } := by
  have hstate : ((s.mon r).close (some x)).state = (s.mon r).state := hkeep
  unfold State.closeMark
  simp only [hstate, if_true]
  rw [takeReport_stats_of_bad (x := x) rfl (by simp [markReport, hstate])]
  simp only [markReport, setMon_du, ne_eq, ite_not]
  split
  · cases ticks <;> simp [Statistics.count, least_eq, greatest_eq]
  · rfl

/-! ### Marks lost (R19, R21, R22) -/

/-- A monitor on the point of closing a mark without a message: what judges the mark is as it was, the last label
raised. -/
structure Monitor.Losing (m n : Monitor) : Prop where
  state : n.state = m.state
  score : n.score = m.score
  goodRun : n.goodRun = m.goodRun
  recoveryRun : n.recoveryRun = m.recoveryRun
  lastLabel : n.lastLabel = raiseLabel m.lastLabel
  adopted : n.adopted = m.adopted
  leap : n.leap = m.leap
  good : n.counters.good = m.counters.good
  bad : n.counters.bad = m.counters.bad

/-- What closing a lost mark shows of the monitor before it. -/
structure Monitor.Lost (m : Monitor) (x : Reason) (t : Monitor) : Prop where
  bad : t.counters.bad = m.counters.bad.raise x
  good : t.counters.good = m.counters.good
  state : t.state = (m.step (some x)).state
  score : t.score = (m.step (some x)).score
  memory : (m.step (some x)).state ≠ .excluded ∨ m.state = .excluded →
    t.lastLabel = raiseLabel m.lastLabel ∧ t.adopted = m.adopted ∧ t.leap = m.leap

theorem Monitor.Losing.close {m n : Monitor} (h : m.Losing n) (x : Reason) : m.Lost x (n.close (some x)) := by
  obtain ⟨hstate, hscore, _, _⟩ := step_congr h.state h.score h.goodRun h.recoveryRun (some x)
  refine ⟨congrArg (BadCounts.raise · x) h.bad, h.good, hstate, hscore, fun hk => ?_⟩
  obtain ⟨hlabel, hadopted, hleap⟩ := (n.close_memory (some x)).1 (by rw [hstate, h.state]; exact hk)
  exact ⟨hlabel.trans h.lastLabel, hadopted.trans h.adopted, hleap.trans h.leap⟩

section
variable {s : State} {r : Ref} {p : PendingMark}

theorem State.closeNoLabel_mon :
    (s.closeNoLabel r p).mon r = (s.mon r).dropMark.close (some .noLabel) := by
  rw [closeNoLabel, closeMark_mon, setMon_mon]

theorem State.closeNoLabel_stats (hkeep : ((s.mon r).step (some .noLabel)).state = (s.mon r).state) :
    (s.closeNoLabel r p).du.stats =
      if s.du.selection ≠ some r then s.du.stats
      else { s.du.stats with
        bad := bump s.du.stats.bad
        minTicks := match p.ticks with
          | none => s.du.stats.minTicks
          | some k => some (min k (s.du.stats.minTicks.getD k))
        maxTicks := match p.ticks with
          | none => s.du.stats.maxTicks
          | some k => some (max k (s.du.stats.maxTicks.getD k)) } := by
  have hstep := Monitor.step_congr (m := s.mon r) (n := (s.mon r).dropMark) rfl rfl rfl rfl (some .noLabel)
  exact closeMark_stats (by rw [setMon_mon]; exact hstep.1.trans hkeep)

theorem messageWaitExpiry_of_due {d : Nat} (hen : (s.mon r).state ≠ .disabled) (hp : (s.mon r).pendingMark = some p)
    (hw : (s.mon r).messageWait = some d) (hd : d ≤ s.tick) : messageWaitExpiry r s = s.closeNoLabel r p := by
  unfold messageWaitExpiry
  simp only [hp, Monitor.enabled_iff.mpr hen, hw, due, hd, decide_true, and_self, if_true]

theorem missingMarkExpiry_of_due {d : Nat} (hen : (s.mon r).state ≠ .disabled) (hp : (s.mon r).pendingMark = none)
    (hw : (s.mon r).missingTimer = some d) (hd : d ≤ s.tick) :
    missingMarkExpiry r s =
      (s.setMon r ((s.mon r).missEdge s.tick)).closeMark r { reason := some .missing, capture := none, ticks := none } := by
  unfold missingMarkExpiry
  simp only [hp, Monitor.enabled_iff.mpr hen, hw, due, hd, decide_true, and_self, if_true]

end

/-- Settles O16: each event closes one mark as a bad one; an edge then opens the next. -/
theorem noLabelAndMissingMarks : Obligations.NoLabelAndMissingMarks := by
  intro s r p hrun hen m x counts
  refine ⟨fun hp => ⟨?_, fun d hw hd => ?_⟩, fun hp d hw hd => ?_⟩
  · have hsame := markEdge_same s r
    have hedge := markEdge_of_some hen hp
    have hmon := (s.setMon r ((s.mon r).capture s.tick)).closeNoLabel_mon (r := r) (p := p)
    have hstats := (s.setMon r ((s.mon r).capture s.tick)).closeNoLabel_stats (r := r) (p := p)
    rw [State.setMon_mon] at hmon hstats
    have hstep := Monitor.step_congr (m := s.mon r) (n := (s.mon r).capture s.tick) rfl rfl rfl rfl (some .noLabel)
    have hlosing : (s.mon r).Losing ((s.mon r).capture s.tick).dropMark := ⟨rfl, rfl, rfl, rfl, rfl, rfl, rfl, rfl, rfl⟩
    have hkeeps := ((s.mon r).capture s.tick).dropMark.close_keeps (some .noLabel)
    have htick : ((s.setMon r ((s.mon r).capture s.tick)).closeNoLabel r p).tick = s.tick :=
      State.closeNoLabel_same _ r p .tick (by simp [markBlocks, disciplineBlocks])
    generalize (s.setMon r ((s.mon r).capture s.tick)).closeNoLabel r p = u at hedge hmon hstats htick
    have hlost := hmon ▸ hlosing.close .noLabel
    rw [State.openMark, htick] at hedge
    rw [hedge] at hsame
    refine ⟨_, (live_of_running hrun _).trans (congrArg _ hedge), hsame, ?_⟩
    rw [State.setMon_mon]
    refine ⟨rfl, ?_, rfl, rfl, hlost.bad ▸ rfl, ?_, hlost.good, hlost.state, hlost.score, hlost.memory, fun hk => ?_⟩
    · show (u.mon r).baseline = _
      rw [hmon, hkeeps.baseline]
      rfl
    · show (u.mon r).counters.edges = _
      rw [hmon]
      rfl
    · exact hstats (hstep.1.trans hk)
  · have hlosing : (s.mon r).Losing (s.mon r).dropMark := ⟨rfl, rfl, rfl, rfl, rfl, rfl, rfl, rfl, rfl⟩
    have hlost := hlosing.close .noLabel
    have hkeeps := (s.mon r).dropMark.close_keeps (some .noLabel)
    refine ⟨_, (live_of_running hrun _).trans (congrArg _ (messageWaitExpiry_of_due hen hp hw hd)),
      s.closeNoLabel_same r p, ?_⟩
    rw [State.closeNoLabel_mon]
    exact ⟨hkeeps.pendingMark, hkeeps.messageWait, hkeeps.baseline, hkeeps.lastTicks, hkeeps.missingTimer,
      hlost.bad ▸ rfl, hlost.good, hlost.state, hlost.score, hlost.memory, State.closeNoLabel_stats⟩
  · have hlosing : (s.mon r).Losing ((s.mon r).missEdge s.tick) := ⟨rfl, rfl, rfl, rfl, rfl, rfl, rfl, rfl, rfl⟩
    have hlost := hlosing.close .missing
    have hkeeps := ((s.mon r).missEdge s.tick).close_keeps (some .missing)
    have hstep := Monitor.step_congr (m := s.mon r) (n := (s.mon r).missEdge s.tick) rfl rfl rfl rfl (some .missing)
    have hsame := missingMarkExpiry_same s r
    rw [missingMarkExpiry_of_due hen hp hw hd] at hsame
    refine ⟨_, (live_of_running hrun _).trans (congrArg _ (missingMarkExpiry_of_due hen hp hw hd)), hsame, ?_⟩
    rw [State.closeMark_mon, State.setMon_mon]
    refine ⟨hkeeps.pendingMark.trans hp, hkeeps.baseline, hkeeps.lastTicks, hkeeps.missingTimer, hkeeps.rx,
      hlost.bad ▸ rfl, hlost.good, hlost.state, hlost.score, hlost.memory, fun hk => ?_⟩
    exact State.closeMark_stats (s := s.setMon r ((s.mon r).missEdge s.tick))
      (by rw [State.setMon_mon]; exact hstep.1.trans hk)

/-! ### A completed mark (R20, R24 to R27) -/

/-- The monitor that has received a message. -/
def Monitor.received (m : Monitor) : Monitor :=
  { m with rx := [], counters := { m.counters with messages := bump m.counters.messages } }

theorem State.messageArrived_of_pending {s : State} {r : Ref} {p : PendingMark} (hp : (s.mon r).pendingMark = some p)
    (msg : TimeMessage) :
    s.messageArrived r msg =
      (s.setMon r ((s.mon r).received.judge msg p.verdict)).closeMark r (completedMark (s.mon r).received msg p) := by
  unfold State.messageArrived
  simp only [hp]
  rfl

/-- R25: from a last label of 2⁴⁸ − 1 no label follows. -/
theorem markReason_of_maxLabel {m : Monitor} {msg : TimeMessage} (hl : m.lastLabel = some maxLabel)
    (hmsg : msg.label ≤ maxLabel) (v : Verdict) : markReason m msg v ≠ none := by
  rw [Ne, aMarkIsGoodWhenItPassesAllNineChecks m msg v]
  rintro ⟨_, _, hlabel, _⟩
  exact absurd (hlabel _ hl) (Nat.ne_of_lt (Nat.lt_succ_of_le hmsg))

theorem countDown_eq (leap : Option LeapMemory) :
    countDown leap =
      if (leap.map LeapMemory.countdown).getD 0 ≤ 1 then none
      else leap.map fun l => { l with countdown := l.countdown - 1 } := by
  cases leap with
  | none => rfl
  | some l => simp [countDown]

/-- R27: a good mark adopts a change exactly when the offset differs from the adopted one. -/
theorem adoptsChange_iff {m : Monitor} {msg : TimeMessage} {v : Verdict} :
    adoptsChange m msg v = true ↔
      markReason m msg v = none ∧ m.adopted ≠ none ∧ m.adopted ≠ some msg.utcOffset := by
  simp only [adoptsChange, Bool.and_eq_true, decide_eq_true_eq]
  constructor
  · rintro ⟨hj, hgood⟩
    refine ⟨hgood, ?_⟩
    unfold offsetCheck at hj
    cases ha : m.adopted with
    | none => simp [ha] at hj
    | some o =>
      by_cases hsame : msg.utcOffset = o
      · simp [ha, hsame] at hj
      · simp [Ne.symm hsame]
  · rintro ⟨hgood, hsome, hne⟩
    refine ⟨?_, hgood⟩
    obtain ⟨o, ha⟩ := Option.ne_none_iff_exists'.mp hsome
    obtain ⟨_, _, _, _, _, _, hoffset⟩ := (aMarkIsGoodWhenItPassesAllNineChecks m msg v).mp hgood
    have hdiff : msg.utcOffset ≠ o := fun h => hne (by rw [ha, h])
    have hj := justifiedBy_iff.mpr ((hoffset o ha).resolve_left hdiff)
    simp only [offsetCheck, ha, if_neg hdiff, hj, if_true]

theorem adoptedAfter_of_none {m : Monitor} {msg : TimeMessage} (ha : m.adopted = none) (v : Verdict) :
    adoptedAfter m msg v = some msg.utcOffset := by
  simp only [adoptedAfter, offsetCheck, ha]

theorem adoptedAfter_of_some {m : Monitor} {msg : TimeMessage} {o : Int} (ha : m.adopted = some o) (v : Verdict) :
    adoptedAfter m msg v =
      if markReason m msg v = none ∧ msg.utcOffset ≠ o then some msg.utcOffset else some o := by
  have hiff : adoptsChange m msg v = true ↔ markReason m msg v = none ∧ msg.utcOffset ≠ o := by
    rw [adoptsChange_iff, ha]
    simp [eq_comm]
  by_cases hc : markReason m msg v = none ∧ msg.utcOffset ≠ o
  · have hadopts := hiff.mpr hc
    have hj : offsetCheck m msg.utcOffset = .justified := by
      simp only [adoptsChange, Bool.and_eq_true, decide_eq_true_eq] at hadopts
      exact hadopts.1
    simp only [adoptedAfter, hj, hadopts, if_true, if_pos hc]
  · have hno : adoptsChange m msg v = false := by rw [← Bool.not_eq_true, hiff]; exact hc
    rw [if_neg hc, adoptedAfter]
    cases hf : offsetCheck m msg.utcOffset with
    | baseline =>
      unfold offsetCheck at hf
      simp only [ha] at hf
      split_ifs at hf
    | same | unjustified => exact ha
    | justified => simp only [hno, Bool.false_eq_true, if_false, ha]

/-- R24, R25: the last label that a completed mark leaves, before its step. -/
theorem Monitor.judge_lastLabel (m : Monitor) (msg : TimeMessage) (v : Verdict) :
    (m.judge msg v).lastLabel =
      if m.lastLabel = some maxLabel then m.lastLabel
      else if msg.checkOk then some msg.label
      else m.lastLabel.map fun l => if l < maxLabel then l + 1 else l := by
  unfold judge
  dsimp only
  cases msg.checkOk with
  | true =>
    simp only [if_true, rebaseLabel]
  | false =>
    by_cases hl : m.lastLabel = some maxLabel
    · simp [hl, raiseLabel]
    · simp [hl, raiseLabel]

theorem Monitor.judge_leap (m : Monitor) (msg : TimeMessage) (v : Verdict) :
    (m.judge msg v).leap =
      if msg.checkOk = false then countDown m.leap
      else if markReason m msg v = none ∧ m.adopted ≠ none ∧ m.adopted ≠ some msg.utcOffset then none
      else
        match decodeMarkCode msg.code with
        | .valid f _ => if f.leap then some ⟨f.sign, 60⟩ else countDown m.leap
        | .format | .uncorrectable => countDown m.leap := by
  unfold judge
  dsimp only
  cases msg.checkOk with
  | false => rfl
  | true =>
    simp only [if_true, Bool.true_eq_false, if_false, leapAfter, adoptsChange_iff]
    split
    · rfl
    · cases decodeMarkCode msg.code <;> rfl

theorem Monitor.judge_adopted_of_bad (m : Monitor) {msg : TimeMessage} (hcheck : msg.checkOk = false) (v : Verdict) :
    (m.judge msg v).adopted = m.adopted := by
  simp [judge, hcheck]

theorem Monitor.judge_adopted_of_ok (m : Monitor) {msg : TimeMessage} (hcheck : msg.checkOk = true) (v : Verdict) :
    (m.judge msg v).adopted = adoptedAfter m msg v := by
  simp [judge, hcheck]

/-- What judging a completed mark leaves beside the label, the offset and the leap memory. -/
theorem Monitor.judge_rest (m : Monitor) (msg : TimeMessage) (v : Verdict) :
    (m.judge msg v).state = m.state ∧ (m.judge msg v).score = m.score ∧ (m.judge msg v).goodRun = m.goodRun ∧
      (m.judge msg v).recoveryRun = m.recoveryRun ∧ (m.judge msg v).pendingMark = none ∧
      (m.judge msg v).messageWait = none ∧ (m.judge msg v).rx = m.rx ∧ (m.judge msg v).baseline = m.baseline ∧
      (m.judge msg v).lastTicks = m.lastTicks ∧ (m.judge msg v).ceiling = m.ceiling ∧
      (m.judge msg v).missingTimer = m.missingTimer ∧ (m.judge msg v).counters.messages = m.counters.messages ∧
      (m.judge msg v).counters.completed = bump m.counters.completed ∧
      (m.judge msg v).counters.good = m.counters.good ∧ (m.judge msg v).counters.bad = m.counters.bad := by
  unfold judge
  dsimp only
  split <;> exact ⟨rfl, rfl, rfl, rfl, rfl, rfl, rfl, rfl, rfl, rfl, rfl, rfl, rfl, rfl, rfl⟩

/-- Settles O17: the monitor is judged, then steps as the mark is good or bad. -/
theorem messageCompletesTheMark : Obligations.MessageCompletesTheMark := by
  intro s r bytes msg p hrun hen hp htake m reason
  have harrived := State.messageArrived_of_pending hp msg
  have hexec : exec (.timeMessage r bytes) s = .next (s.messageArrived r msg) := by
    refine (live_of_running hrun _).trans (congrArg _ ?_)
    rw [timeMessage_of_enabled hen, htake]
  have hmon : (s.messageArrived r msg).mon r = (m.received.judge msg p.verdict).close reason := by
    rw [harrived, State.closeMark_mon, State.setMon_mon]
    rfl
  obtain ⟨hstate, hscore, hgood, hrec, hpending, hwait, hrx, hbase, hticks, hceil, hmissing, hmessages, hcompleted,
    hgoods, hbads⟩ := m.received.judge_rest msg p.verdict
  obtain ⟨kstate, kscore, kgood, krec⟩ := Monitor.step_congr (m := m) (n := m.received.judge msg p.verdict) hstate hscore
    hgood hrec reason
  have hkeeps := (m.received.judge msg p.verdict).close_keeps reason
  obtain ⟨hkept, hcleared⟩ := (m.received.judge msg p.verdict).close_memory reason
  rw [kstate, hstate] at hkept hcleared
  refine ⟨_, hexec, s.messageArrived_same r msg, ?_⟩
  rw [hmon]
  refine ⟨hkeeps.pendingMark.trans hpending, hkeeps.messageWait.trans hwait, hkeeps.rx.trans hrx,
    hkeeps.baseline.trans hbase, hkeeps.lastTicks.trans hticks, hkeeps.ceiling.trans hceil,
    hkeeps.missingTimer.trans hmissing, hmessages, hcompleted, fun hr => ?_, fun x hr => ?_, kstate, kscore, kgood, krec,
    fun hk => ?_, hcleared⟩
  · rw [hr]
    exact ⟨congrArg bump hgoods, hbads⟩
  · rw [hr]
    exact ⟨hgoods, congrArg (BadCounts.raise · x) hbads⟩
  · obtain ⟨klabel, kadopted, kleap⟩ := hkept hk
    rw [klabel, kadopted, kleap, Monitor.judge_lastLabel, Monitor.judge_leap, countDown_eq]
    exact ⟨rfl, fun hl hmsg _ => markReason_of_maxLabel hl hmsg p.verdict, rfl,
      fun hc => m.received.judge_adopted_of_bad hc p.verdict,
      fun hc ha => (m.received.judge_adopted_of_ok hc p.verdict).trans (adoptedAfter_of_none ha p.verdict),
      fun hc o ha => (m.received.judge_adopted_of_ok hc p.verdict).trans (adoptedAfter_of_some ha p.verdict)⟩

end Sys2Proof.Machine
end

section
/-! The Control Link Unit: notices, arrivals, answers without an owning block, the transmitter, and the requests that
only answer. -/

namespace Sys2Proof.Machine

/-! ## Notices (R174) -/

theorem Control.notice_of_off {c : Control} {cls : NoticeClass} (h : c.enables.admits cls = false) (fields : List Fld) :
    c.notice cls fields = c := by
  rw [Control.notice, h]
  rfl

theorem Control.notice_of_room {c : Control} {cls : NoticeClass} (h : c.enables.admits cls = true)
    (hroom : c.notices.length < 16) (fields : List Fld) :
    c.notice cls fields =
      { c with notices := c.notices ++ [⟨cls.kindByte, 0#16, leBytes 4 c.noticesLost ++ layout fields⟩] } := by
  rw [Control.notice, if_pos h, if_pos (show c.notices.length < noticeListMax from hroom)]

theorem Control.notice_of_full {c : Control} {cls : NoticeClass} (h : c.enables.admits cls = true)
    (hfull : 16 ≤ c.notices.length) (fields : List Fld) :
    c.notice cls fields = { c with noticesLost := bump c.noticesLost } := by
  rw [Control.notice, if_pos h, if_neg (show ¬ c.notices.length < noticeListMax from Nat.not_lt.mpr hfull)]

theorem bump_eq_min (n : Nat) : bump n = min 4294967295 (n + 1) := Nat.min_comm _ _

/-- Settles O57: by whether the class is on and whether the list has room. -/
theorem aNoticeIsFormedOrDropped : Obligations.ANoticeIsFormedOrDropped := by
  intro s class_ values e admitted kind
  have hadmits : s.clu.enables.admits class_ = admitted := by cases class_ <;> rfl
  have hkind : class_.kindByte = kind := by cases class_ <;> rfl
  refine ⟨fun h => ?_, fun h hroom => ?_, fun h hfull => ?_⟩
  · rw [State.notice, Control.notice_of_off (hadmits.trans h)]
  · rw [State.notice, Control.notice_of_room (hadmits.trans h) hroom, hkind]
    rfl
  · rw [State.notice, Control.notice_of_full (hadmits.trans h) hfull, bump_eq_min]
    rfl

/-! ## Arrivals (R162, R163) -/

section
variable {s : State} {bytes rx frame : List Byte}

theorem controlFrame_of_assembling (h : takeControlBytes s.clu.rx bytes = .assembling rx) :
    controlFrame bytes s = s.setClu { s.clu with rx := rx } := by
  rw [controlFrame, h]

theorem controlBadLength_of_assembling (h : takeControlBytes s.clu.rx bytes = .assembling rx) :
    controlBadLength bytes s = s.setClu { s.clu with rx := rx } := by
  rw [controlBadLength, h]

theorem controlBadLength_of_badLength (h : takeControlBytes s.clu.rx bytes = .badLength) :
    controlBadLength bytes s = s.setClu s.clu.endForLength := by
  rw [controlBadLength, h]

theorem controlFrame_of_arrived (h : takeControlBytes s.clu.rx bytes = .arrived frame) :
    controlFrame bytes s = s.setClu (s.clu.frameArrived frame) := by
  rw [controlFrame, h]

end

theorem Control.repliesHeld_eq (x : Control) :
    x.repliesHeld =
      x.replies.length + (if x.queue.head?.map ControlRequest.status = some .inService then 1 else 0) := by
  unfold Control.repliesHeld Control.inService boolCode
  cases x.queue <;> simp

theorem Control.arrive_of_room {x : Control} (h : x.queue.length < 4) (q : ControlRequest) :
    x.arrive q = { x with queue := x.queue ++ [q] } := if_pos h

theorem Control.arrive_of_busy {x : Control} (hfull : 4 ≤ x.queue.length) (hheld : x.repliesHeld < 8)
    (q : ControlRequest) :
    x.arrive q =
      { x with
        replies := x.replies ++ [busyReply q]
        counters := { x.counters with refusedBusy := bump x.counters.refusedBusy } } :=
  (if_neg (show ¬ x.queue.length < 4 from Nat.not_lt.mpr hfull)).trans (if_pos hheld)

theorem Control.arrive_of_dropped {x : Control} (hfull : 4 ≤ x.queue.length) (hheld : 8 ≤ x.repliesHeld)
    (q : ControlRequest) :
    x.arrive q =
      { x with
        counters :=
          { x.counters with
            refusedBusy := bump x.counters.refusedBusy
            busyDropped := bump x.counters.busyDropped } } :=
  (if_neg (show ¬ x.queue.length < 4 from Nat.not_lt.mpr hfull)).trans
    (if_neg (show ¬ x.repliesHeld < 8 from Nat.not_lt.mpr hheld))

theorem Control.frameArrived_of_bad {frame : List Byte} (h : byteSum frame ≠ 0) (x : Control) :
    x.frameArrived frame = { x with rx := [], counters := { x.counters with badCheck := bump x.counters.badCheck } } :=
  if_neg h

/-- CLU when a frame has passed its check: the receiver is empty, and the frame is counted (R162). -/
def Control.tookFrame (x : Control) : Control :=
  { x with rx := [], counters := { x.counters with received := bump x.counters.received } }

theorem Control.frameArrived_of_good {frame : List Byte} (h : byteSum frame = 0) (x : Control) :
    x.frameArrived frame = x.tookFrame.arrive (readRequest frame) :=
  if_pos h

/-- Settles O44: by what the receiver makes of the bytes, then by the room of the queue and the reply list. -/
theorem controlFramesAreQueuedOrRefused : Obligations.ControlFramesAreQueuedOrRefused := by
  intro s bytes hrun x
  refine ⟨fun rx h => ⟨?_, ?_⟩, fun h => ?_, fun frame h => ?_⟩
  · exact (live_of_running hrun _).trans (congrArg _ (controlFrame_of_assembling h))
  · exact (live_of_running hrun _).trans (congrArg _ (controlBadLength_of_assembling h))
  · exact (live_of_running hrun _).trans (congrArg _ (controlBadLength_of_badLength h))
  · intro q held
    have harrived : exec (.controlFrame bytes) s = .next (s.setClu (s.clu.frameArrived frame)) :=
      (live_of_running hrun _).trans (congrArg _ (controlFrame_of_arrived h))
    rw [harrived]
    refine ⟨fun hsum => ?_, fun hsum hroom => ?_, fun hsum hfull hheld => ?_, fun hsum hfull hheld => ?_⟩
    · rw [Control.frameArrived_of_bad hsum]
    · rw [Control.frameArrived_of_good hsum, Control.arrive_of_room (x := s.clu.tookFrame) hroom]
      rfl
    · rw [Control.frameArrived_of_good hsum,
        Control.arrive_of_busy (x := s.clu.tookFrame) hfull (by rw [Control.repliesHeld_eq]; exact hheld)]
      rfl
    · rw [Control.frameArrived_of_good hsum,
        Control.arrive_of_dropped (x := s.clu.tookFrame) hfull (by rw [Control.repliesHeld_eq]; exact hheld)]
      rfl

/-! ## Answers without an owning block (R164, R165) -/

section
variable {s : State} {q : ControlRequest} {rest : List ControlRequest}

theorem answerBusyReply_of_busy (hq : s.clu.queue = q :: rest) (hst : q.status = .answerBusy)
    (hroom : s.clu.replies.length < 8) :
    answerBusyReply s = s.setClu
      { s.clu with
        queue := rest
        replies := s.clu.replies ++ [busyReply q]
        counters := { s.clu.counters with refusedBusy := bump s.clu.counters.refusedBusy } } := by
  rw [answerBusyReply, hq]
  exact if_pos ⟨hst, hroom⟩

theorem State.takeable_of_waiting (hq : s.clu.queue = q :: rest) (hst : q.status = .waiting)
    (hroom : s.clu.replies.length < 8) : s.takeable = some q := by
  rw [State.takeable, hq]
  exact if_pos ⟨hst, hroom⟩

theorem unknownRequest_of_unknown (h : s.takeable = some q) (hk : kindKnown q.kind.toNat = false) :
    unknownRequest s =
      s.refuseForm q .unknownKind { s.clu.counters with unknownKind := bump s.clu.counters.unknownKind } := by
  rw [unknownRequest, h]
  exact if_pos hk

theorem unknownRequest_of_badLength (h : s.takeable = some q) (hk : kindKnown q.kind.toNat = true)
    (hlen : lengthAllowed q.kind.toNat q.payload.length = false) :
    unknownRequest s =
      s.refuseForm q .badLength { s.clu.counters with badRequestLength := bump s.clu.counters.badRequestLength } := by
  rw [unknownRequest, h]
  exact (if_neg (by simp [hk])).trans (if_pos hlen)

theorem State.refuseForm_eq (hq : s.clu.queue = q :: rest) (st : Status) (c : ControlCounters) :
    s.refuseForm q st c = s.setClu
      { s.clu with
        queue := rest
        replies := s.clu.replies ++ [⟨replyKind q.kind, q.tag, replyPayload st []⟩]
        counters := c } := by
  rw [State.refuseForm, hq]
  rfl

end

/-! ## The transmitter (R167) -/

section
variable {x : Control}

theorem Control.choose_of_reply {f : ControlFrame} {rest : List ControlFrame} (htx : x.tx = .idle)
    (h : x.replies = f :: rest) : x.choose = { x with tx := .reply f, replies := rest } := by
  rw [Control.choose, htx, h]

theorem Control.choose_of_notice {f : ControlFrame} {rest : List ControlFrame} (htx : x.tx = .idle)
    (hr : x.replies = []) (h : x.notices = f :: rest) :
    x.choose = { x with tx := .notice f, notices := rest } := by
  rw [Control.choose, htx, hr, h]

theorem Control.choose_of_busy (htx : x.tx ≠ .idle) : x.choose = x := by
  unfold Control.choose
  cases h : x.tx with
  | idle => exact absurd h htx
  | reply f => rfl
  | notice f => rfl

theorem Control.choose_of_empty (hr : x.replies = []) (hn : x.notices = []) : x.choose = x := by
  rw [Control.choose, hr, hn]
  cases x.tx <;> rfl

/-- Choosing the next frame leaves everything but the transmitter and the two lists. -/
theorem Control.choose_rest (x : Control) :
    x.choose = { x with tx := x.choose.tx, replies := x.choose.replies, notices := x.choose.notices } := by
  unfold Control.choose
  split <;> rfl

end

/-- Settles O45: by the front entry, then by the transmitter and the two lists. -/
theorem controlAnswersAndTransmitter : Obligations.ControlAnswersAndTransmitter := by
  intro s hrun x
  refine ⟨fun q rest hq hroom => ⟨fun hst => ?_, fun hst hk => ?_, fun hst hk hlen => ?_⟩, fun htx => ⟨?_, ?_⟩, ?_, ?_⟩
  · exact (live_of_running hrun _).trans (congrArg _ (answerBusyReply_of_busy hq hst hroom))
  · refine (live_of_running hrun _).trans (congrArg _ ?_)
    rw [unknownRequest_of_unknown (State.takeable_of_waiting hq hst hroom) hk, State.refuseForm_eq hq]
    rfl
  · refine (live_of_running hrun _).trans (congrArg _ ?_)
    rw [unknownRequest_of_badLength (State.takeable_of_waiting hq hst hroom) hk hlen, State.refuseForm_eq hq]
    rfl
  · exact fun f rest h =>
      (live_of_running hrun _).trans (congrArg _ (congrArg s.setClu (Control.choose_of_reply htx h)))
  · exact fun f rest hr h =>
      (live_of_running hrun _).trans (congrArg _ (congrArg s.setClu (Control.choose_of_notice htx hr h)))
  · rintro (htx | ⟨hr, hn⟩)
    · exact (live_of_running hrun _).trans (congrArg _ (congrArg s.setClu (Control.choose_of_busy htx)))
    · exact (live_of_running hrun _).trans (congrArg _ (congrArg s.setClu (Control.choose_of_empty hr hn)))
  · intro f htx
    have hsent : controlFrameSent s = s.setClu s.clu.finish.choose := by
      rcases htx with h | h <;> rw [controlFrameSent, show s.clu.tx = _ from h]
    have hidle : s.clu.finish.tx = .idle ∧ s.clu.finish.replies = s.clu.replies ∧
        s.clu.finish.notices = s.clu.notices ∧
        s.clu.finish = { s.clu with tx := .idle, counters := s.clu.finish.counters } := by
      rcases htx with h | h <;> rw [Control.finish, show s.clu.tx = _ from h] <;> exact ⟨rfl, rfl, rfl, rfl⟩
    obtain ⟨hidle, hreplies, hnotices, hfinish⟩ := hidle
    have hrest := s.clu.finish.choose_rest
    have hcounters : s.clu.finish.choose.counters = s.clu.finish.counters := by rw [hrest]
    refine ⟨_, (live_of_running hrun _).trans (congrArg _ hsent), s.setClu_same _, ?_, fun h => ?_, fun h => ?_,
      fun g rest h => ?_, fun g rest hr h => ?_, fun hr hn => ?_⟩
    · show s.clu.finish.choose = _
      rw [hrest, hfinish]
      rfl
    · show s.clu.finish.choose.counters = _
      rw [hcounters, Control.finish, show s.clu.tx = _ from h]
    · show s.clu.finish.choose.counters = _
      rw [hcounters, Control.finish, show s.clu.tx = _ from h]
    · show s.clu.finish.choose.tx = _ ∧ s.clu.finish.choose.replies = _ ∧ s.clu.finish.choose.notices = _
      rw [Control.choose_of_reply hidle (hreplies.trans h)]
      exact ⟨rfl, rfl, hnotices⟩
    · show s.clu.finish.choose.tx = _ ∧ s.clu.finish.choose.replies = _ ∧ s.clu.finish.choose.notices = _
      rw [Control.choose_of_notice hidle (hreplies.trans hr) (hnotices.trans h)]
      exact ⟨rfl, hreplies.trans hr, rfl⟩
    · show s.clu.finish.choose.tx = _ ∧ s.clu.finish.choose.replies = _ ∧ s.clu.finish.choose.notices = _
      rw [Control.choose_of_empty (hreplies.trans hr) (hnotices.trans hn)]
      exact ⟨hidle, hreplies.trans hr, hnotices.trans hn⟩

/-! ## Requests that only answer (R112, R136, R172) -/

theorem serveFront_length (qs : List ControlRequest) : (serveFront qs).length = qs.length := by
  cases qs <;> rfl

/-- IDENTIFY shows the number of requests waiting, which taking one into service leaves. -/
theorem identifyFields_beginService (s : State) : identifyFields s.beginService = identifyFields s := by
  unfold identifyFields State.beginService
  simp only [serveFront_length]

theorem groupOf_of_gt {payload : List Byte} (h : 15 < field payload 0 1) : groupOf payload = none :=
  dif_neg (by omega)

theorem groupOf_of_eq {payload : List Byte} {g : GroupIx} (h : field payload 0 1 = g.val) : groupOf payload = some g := by
  unfold groupOf
  rw [dif_pos (by omega)]
  exact congrArg some (Fin.ext h)

/-- What an unrevealed entry of an extension list shows. -/
theorem extensionFields_false (e : Extension) :
    extensionFields false e = [fx 1 (ExtKind.toCode e.kind), fx 8 e.time, fx 8 e.tMin, fo 4 none] := rfl

/-- Lists whose unrevealed values agree show the same. -/
theorem extensionFields_flatMap_congr {l m : List Extension}
    (h : l.map (fun y => (y.kind, y.time, y.tMin)) = m.map (fun y => (y.kind, y.time, y.tMin))) :
    l.flatMap (extensionFields false) = m.flatMap (extensionFields false) := by
  have hshow : ∀ k : List Extension, k.flatMap (extensionFields false) =
      (k.map (fun y => (y.kind, y.time, y.tMin))).flatMap
        (fun v => [fx 1 (ExtKind.toCode v.1), fx 8 v.2.1, fx 8 v.2.2, fo 4 none]) := by
    intro k
    rw [List.flatMap_map]
    rfl
  rw [hshow, hshow, h]

/-- Settles O46: each answers with the values as they stand, and an unrevealed auction shows no draw. -/
theorem statusRequestsOnlyAnswer : Obligations.StatusRequestsOnlyAnswer := by
  intro s q
  refine ⟨fun h => ?_, fun h => ?_, fun h => ?_, fun h => ?_, fun h => ⟨fun hg => ?_, fun g hg => ?_⟩, fun h => ?_, ?_⟩
  · refine live_takeRequest_of_says h .ok (identifyFields s) ?_
    rw [identify, identifyFields_beginService]
  · exact live_takeRequest_of_says h .ok (timeBaseFields s.tb ++ disciplineFields s.du) rfl
  · exact live_takeRequest_of_says h .ok (monitorFields s.monA ++ monitorFields s.monB) rfl
  · exact live_takeRequest_of_says h .ok (twinFields s.tlu s.tick) rfl
  · refine live_takeRequest_of_says h .outOfRange [] ?_
    rw [statusGroup, groupOf_of_gt hg]
  · refine live_takeRequest_of_says h .ok (groupFields (s.group g) ((s.group g).effective s.dating)
      (s.gs.waiting g) s.gs.records.length) ?_
    rw [statusGroup, groupOf_of_eq hg]
    rfl
  · exact live_takeRequest_of_says h .ok (allocatorFields s.sa s.epoch ++ journalFields s.aj) rfl
  · intro x e w l draw tEnd extensions hrev hext
    have hsealed : decide (x.number ≤ x.revealed) = false := decide_eq_false (by omega)
    have hlength : extensions.length = x.extensions.length := by
      simpa using congrArg List.length hext
    simp only [groupFields, Group.isRevealed, hsealed, hlength, extensionFields_flatMap_congr hext]
    rfl

end Sys2Proof.Machine
end

section
/-! The Twin Link Unit: bytes outside a frame, the attachment, probes and echoes, statuses, frames that leave, and the
timers. -/

namespace Sys2Proof.Machine

/-! ## Bytes outside a frame and partial frames (R17, R63, R82, R162) -/

theorem twinArrival_of_assembling {s : State} {bytes : List Byte} {rx : TwinReceiver}
    (h : takeTwinBytes s.tlu.rx bytes s.tb.raw = .assembling rx) (act : TwinMessage → Nat → Option (State → State)) :
    twinArrival bytes act s = s.setTlu { s.tlu with rx := some rx } := by
  rw [twinArrival, h]

theorem twinBadFrame_of_assembling {s : State} {bytes : List Byte} {rx : TwinReceiver}
    (h : takeTwinBytes s.tlu.rx bytes s.tb.raw = .assembling rx) :
    twinBadFrame bytes s = s.setTlu { s.tlu with rx := some rx } := by
  rw [twinBadFrame, h]

theorem twinBadFrame_of_bad {s : State} {bytes : List Byte} (h : takeTwinBytes s.tlu.rx bytes s.tb.raw = .bad) :
    twinBadFrame bytes s = s.setTlu
      { s.tlu with rx := none, counters := { s.tlu.counters with badFrames := bump s.tlu.counters.badFrames } } := by
  rw [twinBadFrame, h]

/-- Settles O43: by the four receivers, and by what the twin receiver makes of the bytes. -/
theorem bytesOutsideAFrameAreCounted : Obligations.BytesOutsideAFrameAreCounted := by
  refine ⟨fun s r p b hrun => ⟨fun hen hrx hb => ?_, fun hrx hb => ?_, fun hrx hb => ?_, fun hrx hb => ?_⟩,
    fun s bytes hrun => ⟨fun h => ?_, fun rx h c hc => ?_⟩⟩
  · refine (live_of_running hrun _).trans (congrArg _ ?_)
    exact if_pos ⟨Monitor.enabled_iff.mpr hen, hrx, hb⟩
  · exact (live_of_running hrun _).trans (congrArg _ (if_pos ⟨hrx, hb⟩))
  · exact (live_of_running hrun _).trans (congrArg _ (if_pos ⟨hrx, hb⟩))
  · exact (live_of_running hrun _).trans (congrArg _ (if_pos ⟨hrx, hb⟩))
  · exact (live_of_running hrun _).trans (congrArg _ (twinBadFrame_of_bad h))
  · rw [List.mem_cons] at hc
    rcases hc with rfl | hc
    · exact (live_of_running hrun _).trans (congrArg _ (twinBadFrame_of_assembling h))
    · simp only [List.mem_cons, List.not_mem_nil, or_false] at hc
      rcases hc with rfl | rfl | rfl | rfl | rfl | rfl | rfl <;>
        exact (live_of_running hrun _).trans (congrArg _ (twinArrival_of_assembling h _))

/-! ## A PROBE received (R73) -/

/-- The three states of an attachment. -/
theorem TwinState.attached_iff {x : TwinState} : x.attached = true ↔ x = .measuring ∨ x = .agreed ∨ x = .disagree := by
  cases x <;> simp [attached]

/-- Settles O27: the ECHO is formed, or the frame is ignored. -/
theorem aProbeIsEchoed : Obligations.AProbeIsEchoed := by
  intro s bytes n t2 hrun hgood got
  refine (exec_command (msg := .probe n) hrun hgood).trans (congrArg _ ?_)
  show s.twinReceived.onProbe n t2 = _
  by_cases h : s.tlu.state = .measuring ∨ s.tlu.state = .agreed ∨ s.tlu.state = .disagree
  · rw [if_pos h, State.onProbe, if_pos (show s.twinReceived.tlu.state.attached = true from TwinState.attached_iff.mpr h)]
    rfl
  · rw [if_neg h, State.onProbe,
      if_neg (show ¬ s.twinReceived.tlu.state.attached = true from fun k => h (TwinState.attached_iff.mp k))]
    rfl

/-! ## Entry to MEASURING (R66, R69) -/

theorem State.formProbe_tlu (s : State) :
    s.formProbe.tlu = TwinLink.joined
      { s.tlu with
        probes := s.tlu.probes ++ [{ number := s.tlu.nextProbe }]
        nextProbe := if s.tlu.nextProbe < 65535 then s.tlu.nextProbe + 1 else 1
        probeTimer := some (s.tick + 12500000)
        spacingTimer :=
          if s.tlu.probes.length + 1 < s.tlu.state.cycleLength then some (s.tick + 31250000) else none }
      (.probe s.tlu.nextProbe) := by
  unfold State.formProbe
  dsimp only
  rw [TwinLink.form_eq_joined, List.length_append]
  rfl

theorem State.enterMeasuring_tlu (s : State) (id : TwinIdentity) (cause : TwinCause) :
    (s.enterMeasuring id cause).tlu = TwinLink.joined
      { s.tlu with
        state := .measuring
        identity := some id
        failures := 0
        status := none
        heldOut := none
        probes := [{ number := s.tlu.nextProbe }]
        nextProbe := if s.tlu.nextProbe < 65535 then s.tlu.nextProbe + 1 else 1
        offerTimer := none
        retryTimer := none
        checkTimer := none
        spacingTimer := some (s.tick + 31250000)
        probeTimer := some (s.tick + 12500000)
        counters := { s.tlu.counters with attachments := bump s.tlu.counters.attachments } }
      (.probe s.tlu.nextProbe) := by
  unfold State.enterMeasuring
  dsimp only
  simp only [twinChanged_tlu, State.formProbe_tlu, State.setTlu_tlu, State.setTlu_tick, withdrawAnchor_tlu,
    withdrawAnchor_tick]
  rfl

theorem State.enterMeasuring_du (s : State) (id : TwinIdentity) (cause : TwinCause) :
    (s.enterMeasuring id cause).du = if s.tlu.heldOut.isSome then { s.du with assisted := none } else s.du := by
  unfold State.enterMeasuring
  dsimp only
  simp only [twinChanged_du]
  exact s.withdrawAnchor_du

theorem State.onOffer_of_acceptable {s : State} {id : TwinIdentity} (h : s.tlu.state ≠ .off)
    (hid : s.attachFault id = none) :
    s.onOffer id = (s.formTwin (.accept s.ownIdentity)).enterMeasuring id .offer := by
  cases hs : s.tlu.state with
  | off => exact absurd hs h
  | _ => simp only [onOffer, hs, hid]

theorem State.onAccept_of_acceptable {s : State} {id : TwinIdentity}
    (h : s.tlu.state = .detached ∨ s.tlu.state = .offering) (hid : s.attachFault id = none) :
    s.onAccept id = s.enterMeasuring id .accept := by
  rcases h with h | h <;> simp only [onAccept, h, hid]

/-- Settles O25: an OFFER is answered with an ACCEPT first, and both enter MEASURING. -/
theorem anAcceptableOfferOrAcceptAttaches : Obligations.AnAcceptableOfferOrAcceptAttaches := by
  intro s bytes id t4 c hrun hvenue hserial hc entered
  have hid : s.twinReceived.attachFault id = none := State.attachFault_none hvenue hserial
  rcases hc with ⟨rfl, hgood, hstate⟩ | ⟨rfl, hgood, hstate⟩
  · have hexec := exec_command (msg := .offer id) hrun hgood
    refine ⟨_, hexec, ?_⟩
    show s.SameBut (s.twinReceived.onOffer id) _ ∧ (s.twinReceived.onOffer id).tlu = _ ∧
      (s.twinReceived.onOffer id).du = _
    rw [State.onOffer_of_acceptable (s := s.twinReceived) hstate hid, State.enterMeasuring_tlu, State.enterMeasuring_du,
      if_pos rfl]
    refine ⟨((s.twinReceived_same.trans (State.formTwin_same _ _)).mono (by decide)).trans
      (State.enterMeasuring_same _ _ _), ?_, ?_⟩
    · simp only [State.formTwin_tlu, TwinLink.form_eq_joined]
      rfl
    · simp only [State.formTwin_tlu, TwinLink.form_eq_joined]
      rfl
  · have hexec := exec_command (msg := .accept id) hrun hgood
    refine ⟨_, hexec, ?_⟩
    show s.SameBut (s.twinReceived.onAccept id) _ ∧ (s.twinReceived.onAccept id).tlu = _ ∧
      (s.twinReceived.onAccept id).du = _
    rw [State.onAccept_of_acceptable (s := s.twinReceived) hstate hid, State.enterMeasuring_tlu,
      State.enterMeasuring_du, if_neg (show ¬ Instr.acceptReceived bytes = .offerReceived bytes by simp)]
    exact ⟨(s.twinReceived_same.mono (by decide)).trans (State.enterMeasuring_same _ _ _), rfl, rfl⟩

/-! ## The closing of a probe (R70 to R72, R74) -/

theorem TwinState.cycleLength_eq (x : TwinState) : x.cycleLength = if x = .measuring then 8 else 4 := by
  cases x <;> rfl

theorem TwinLink.outstanding_eq_none_iff {x : TwinLink} :
    x.outstanding = none ↔ ∀ p ∈ x.probes, p.outcome ≠ .outstanding := by
  simp [TwinLink.outstanding, List.find?_eq_none]

/-- TLU with the probe formed last, behind `older`, closed with an outcome. -/
def TwinLink.lastClosed (x : TwinLink) (older : List Probe) (p : Probe) (o : ProbeOutcome) : TwinLink :=
  { x with
    probes := older ++ [{ p with outcome := o }]
    probeTimer := none
    counters := x.counters.closed o }

section
variable {x : TwinLink} {older : List Probe} {p : Probe}

/-- The probe formed last is the one outstanding. -/
theorem TwinLink.outstanding_of_last (hp : x.probes = older ++ [p]) (holder : ∀ y ∈ older, y.outcome ≠ .outstanding)
    (hout : p.outcome = .outstanding) : x.outstanding = some p := by
  have hnone : older.find? (fun y => decide (y.outcome = .outstanding)) = none := by
    simpa [List.find?_eq_none] using holder
  simp [TwinLink.outstanding, hp, List.find?_append, hnone, hout]

/-- The outstanding probe closes, and the probes before it stay. -/
theorem TwinLink.closeProbe_of_last (hp : x.probes = older ++ [p]) (holder : ∀ y ∈ older, y.outcome ≠ .outstanding)
    (hout : p.outcome = .outstanding) (o : ProbeOutcome) :
    x.closeProbe o = x.lastClosed older p o := by
  have hkeep : older.map (Probe.close o) = older :=
    (List.map_congr_left (g := id) fun y hy => if_neg (holder y hy)).trans (List.map_id _)
  have hlast : p.close o = { p with outcome := o } := if_pos hout
  unfold TwinLink.closeProbe
  rw [hp, List.map_append, hkeep, List.map_singleton, hlast]
  rfl

/-- A cycle is closed when its last probe has been formed and has closed. -/
theorem TwinLink.cycleClosed_of_last (hp : x.probes = older ++ [p]) (holder : ∀ y ∈ older, y.outcome ≠ .outstanding)
    (hout : p.outcome ≠ .outstanding) :
    x.cycleClosed = decide (older.length + 1 = if x.state = .measuring then 8 else 4) := by
  have hnone : x.outstanding = none := by
    rw [TwinLink.outstanding_eq_none_iff, hp]
    intro y hy
    rcases List.mem_append.mp hy with hy | hy
    · exact holder y hy
    · rwa [List.mem_singleton.mp hy]
  rw [TwinLink.cycleClosed, hnone, hp, TwinState.cycleLength_eq]
  simp

end

/-- The evaluation that the close of a probe leads to, in the three states of an attachment. -/
theorem State.afterClose_of_attached {s : State} (h : s.tlu.state = .measuring ∨ s.tlu.state = .agreed ∨
    s.tlu.state = .disagree) :
    s.afterClose =
      if s.tlu.cycleClosed then (if s.tlu.state = .measuring then s.evaluateMeasurement else s.evaluateCheck) else s := by
  unfold State.afterClose
  rcases h with h | h | h <;> simp only [h, if_true, reduceCtorEq, if_false]

/-- The outstanding probe of an attachment closes with an outcome. -/
theorem State.closeProbe_of_last {s : State} {older : List Probe} {p : Probe} {o : ProbeOutcome}
    (h : s.tlu.state = .measuring ∨ s.tlu.state = .agreed ∨ s.tlu.state = .disagree) (hp : s.tlu.probes = older ++ [p])
    (holder : ∀ y ∈ older, y.outcome ≠ .outstanding) (hout : p.outcome = .outstanding) (ho : o ≠ .outstanding) :
    s.closeProbe o =
      let y := s.setTlu (s.tlu.lastClosed older p o)
      if older.length + 1 ≠ (if s.tlu.state = .measuring then 8 else 4) then y
      else if s.tlu.state = .measuring then y.evaluateMeasurement else y.evaluateCheck := by
  rw [State.closeProbe, TwinLink.closeProbe_of_last hp holder hout o]
  rw [State.afterClose_of_attached (s := s.setTlu (s.tlu.lastClosed older p o)) h, State.setTlu_tlu,
    TwinLink.cycleClosed_of_last (older := older) (p := { p with outcome := o }) rfl holder ho]
  simp only [decide_eq_true_eq, ite_not]
  rfl

theorem State.onEcho_of_late {s : State} (h : s.tlu.state.attached = true) (hnone : s.tlu.outstanding = none)
    (n t2 t3 t4 : Nat) :
    s.onEcho n t2 t3 t4 =
      s.setTlu { s.tlu with counters := { s.tlu.counters with lateEchoes := bump s.tlu.counters.lateEchoes } } := by
  simp only [onEcho, h, hnone, if_true]

theorem State.onEcho_of_outstanding {s : State} {p : Probe} (h : s.tlu.state.attached = true)
    (hp : s.tlu.outstanding = some p) (n t2 t3 t4 : Nat) :
    s.onEcho n t2 t3 t4 =
      s.closeProbe (if p.number = n then judgeProbe p.sentAt t2 t3 t4 else .invalid .number) := by
  simp only [onEcho, h, hp, if_true]

theorem fitSigned_of_natAbs_lt {i : Int} (h : i.natAbs < 9223372036854775808) : fitSigned i = i :=
  if_pos (by omega)

/-- R71 within 64 bits. -/
theorem judgeProbe_of_fits {t1 t2 t3 t4 : Nat} (htheta : (probeTheta t1 t2 t3 t4).natAbs < 9223372036854775808)
    (hdelay : (probeDelay t1 t2 t3 t4).natAbs < 9223372036854775808) :
    judgeProbe t1 t2 t3 t4 =
      if 0 ≤ probeDelay t1 t2 t3 t4 then .valid t2 t3 t4 (probeTheta t1 t2 t3 t4) (probeDelay t1 t2 t3 t4)
      else .invalid .order := by
  rw [judgeProbe, fitSigned_of_natAbs_lt htheta, fitSigned_of_natAbs_lt hdelay]

theorem Probe.sentAt_of_some {p : Probe} {t1 : Nat} (h : p.t1 = some t1) : p.sentAt = t1 := by
  rw [Probe.sentAt, h]

/-- Settles O28: the ECHO is late, or closes the probe formed last by its number and its delay. -/
theorem anEchoClosesTheProbe : Obligations.AnEchoClosesTheProbe := by
  intro s bytes n t2 t3 t4 hrun hgood hstate got
  have hattached : s.twinReceived.tlu.state.attached = true := TwinState.attached_iff.mpr hstate
  have hexec := exec_command (msg := .echo n t2 t3) hrun hgood
  refine ⟨fun hnone => ?_, fun older x t1 hp holder hout ht1 => ?_⟩
  · exact hexec.trans (congrArg _ (State.onEcho_of_late (s := s.twinReceived) hattached
      (TwinLink.outstanding_eq_none_iff.mpr hnone) n t2 t3 t4))
  · intro theta delay closed
    have hecho := State.onEcho_of_outstanding (s := s.twinReceived) hattached
      (TwinLink.outstanding_of_last hp holder hout) n t2 t3 t4
    have hclose := fun (o : ProbeOutcome) (ho : o ≠ .outstanding) =>
      State.closeProbe_of_last (s := s.twinReceived) hstate hp holder hout ho
    refine ⟨fun hn => ?_, fun hn htheta hdelay => ?_⟩
    · refine hexec.trans (congrArg _ (hecho.trans ?_))
      rw [if_neg hn, hclose _ (by simp)]
      rfl
    · refine hexec.trans (congrArg _ (hecho.trans ?_))
      rw [if_pos hn, Probe.sentAt_of_some ht1, judgeProbe_of_fits htheta hdelay]
      by_cases hpos : 0 ≤ probeDelay t1 t2 t3 t4
      · rw [if_pos hpos, if_pos (show 0 ≤ delay from hpos), hclose _ (by simp)]
        rfl
      · rw [if_neg hpos, if_neg (show ¬ 0 ≤ delay from hpos), hclose _ (by simp)]
        rfl

/-! ## Statuses (R75, R76) -/

theorem State.onStatus_of_matching {s : State} {st : TwinStatus} {id : TwinIdentity}
    (h : s.tlu.state.attached = true) (hid : s.tlu.identity = some id) (he : id.epoch = st.epoch) :
    s.onStatus st =
      let s1 := s.setTlu
        { s.tlu with
          status := some st
          statusTick := s.tick
          counters := { s.tlu.counters with statusReceived := bump s.tlu.counters.statusReceived } }
      if st.trace = .traceable then s1 else s1.withdrawAnchor := by
  simp only [onStatus, h, TwinLink.epochMatches, hid, he, decide_true, if_true]

theorem State.onStatus_of_other {s : State} {st : TwinStatus} {id : TwinIdentity}
    (h : s.tlu.state.attached = true) (hid : s.tlu.identity = some id) (he : id.epoch ≠ st.epoch) :
    s.onStatus st = s.setTlu
      { s.tlu with
        counters := { s.tlu.counters with statusMismatches := bump s.tlu.counters.statusMismatches } } := by
  simp only [onStatus, h, TwinLink.epochMatches, hid, he, decide_false, if_true, Bool.false_eq_true, if_false]

/-- Settles O29: by the epoch of the status and its traceability state; and at the age limit. -/
theorem twinStatusIsRecordedAndAges : Obligations.TwinStatusIsRecordedAndAges := by
  intro s hrun hstate
  have hattached : s.twinReceived.tlu.state.attached = true := TwinState.attached_iff.mpr hstate
  refine ⟨fun bytes st id t4 hgood hid => ?_, fun hstatus hage hheld => ?_⟩
  · have hexec := exec_command (msg := .status st) hrun hgood
    refine ⟨fun he => ⟨_, hexec, ?_⟩, fun he => hexec.trans (congrArg _
      (State.onStatus_of_other (s := s.twinReceived) hattached hid he))⟩
    show s.SameBut (s.twinReceived.onStatus st) _ ∧ (s.twinReceived.onStatus st).tlu = _ ∧
      (s.twinReceived.onStatus st).du = _
    rw [State.onStatus_of_matching (s := s.twinReceived) hattached hid he]
    by_cases ht : st.trace = .traceable
    · simp only [ht, true_or, if_true]
      exact ⟨State.SameBut.mono (s.setTlu_same _) (by decide), rfl, rfl⟩
    · simp only [ht, false_or, if_false]
      refine ⟨(State.SameBut.mono (s.setTlu_same _) (by decide)).trans (State.withdrawAnchor_same _), ?_, ?_⟩
      · rw [State.withdrawAnchor_tlu]
        rfl
      · rw [State.withdrawAnchor_du]
        cases hh : s.tlu.heldOut <;> simp [State.twinReceived, hh]
  · refine (live_of_running hrun _).trans (congrArg _ ?_)
    rw [statusAgeLimit, if_pos ⟨hstatus, hage⟩, State.withdrawAnchor, if_pos hheld]

/-! ## The frame that leaves (R64, 11.5) -/

theorem byteSum_concat (bytes : List Byte) (b : Byte) :
    byteSum (bytes ++ [b]) = (byteSum bytes + b.toNat) % 256 := by
  rw [byteSum_eq, byteSum_eq]
  simp [Nat.add_mod]

/-- A frame closed by its check byte sums to zero. -/
theorem byteSum_closeFrame (bytes : List Byte) : byteSum (closeFrame bytes) = 0 := by
  have hlt : byteSum bytes < 256 := by
    rw [byteSum_eq]
    exact Nat.mod_lt _ (by decide)
  rw [closeFrame, byteSum_concat, checkByte, BitVec.toNat_ofNat]
  omega

theorem byteSum_wire (raw : Nat) (f : TwinFrame) : byteSum (f.wire raw) = 0 := by
  cases f <;> exact byteSum_closeFrame _

theorem dropLast_closeFrame (bytes : List Byte) : (closeFrame bytes).dropLast = bytes := List.dropLast_concat

theorem stampProbe_of_not_probe {f : TwinFrame} (h : ∀ n, f ≠ .probe n) (raw : Nat) (p : Probe) :
    stampProbe f raw p = p := by
  cases f with
  | probe n => exact absurd rfl (h n)
  | _ => rfl

/-- Settles O30: by the kind of the front frame. -/
theorem theFrontTwinFrameLeaves : Obligations.TheFrontTwinFrameLeaves := by
  intro s f rest hrun hfront
  have hsend : twinFrameSend s = s.setTlu
      { s.tlu with
        transmit := rest
        probes := s.tlu.probes.map (stampProbe f s.tb.raw)
        lastSent := f.wire s.tb.raw
        counters := s.tlu.counters.sent f } := by
    rw [twinFrameSend, hfront]
  refine ⟨_, (live_of_running hrun _).trans (congrArg _ hsend), s.setTlu_same _, rfl, ?_, fun h => ?_, ?_, ?_, ?_,
    byteSum_wire _ f⟩
  · rintro n rfl
    exact ⟨rfl, rfl⟩
  · exact (List.map_congr_left (g := id) fun p _ => stampProbe_of_not_probe h _ p).trans (List.map_id _)
  · rintro n t2 rfl
    exact ⟨rfl, rfl, rfl, rfl, rfl⟩
  · rintro id rfl
    rfl
  · intro identity
    cases f with
    | status st =>
      refine (dropLast_closeFrame _).trans ?_
      cases hb : st.bound <;> cases hs : st.selected with
      | none => simp [twinStatusBytes, leBytes, refCode, boolCode, hb, hs]
      | some r => cases r <;> simp [twinStatusBytes, leBytes, refCode, Ref.toCode, boolCode, hb, hs]
    | _ => exact dropLast_closeFrame _

end Sys2Proof.Machine
end

section
/-! What the notices depend on: the notice list, the notices-lost count and the enables of CLU. The request queue and the
replies do not matter, so a block acts alike on a state whose front request is IN_SERVICE. -/

namespace Sys2Proof.Machine

/-- Two control units that take every notice alike. -/
structure Control.SameNotices (c d : Control) : Prop where
  notices : c.notices = d.notices
  noticesLost : c.noticesLost = d.noticesLost
  enables : c.enables = d.enables

theorem Control.SameNotices.refl (c : Control) : c.SameNotices c := ⟨rfl, rfl, rfl⟩

theorem State.beginService_sameNotices (s : State) : s.beginService.clu.SameNotices s.clu := ⟨rfl, rfl, rfl⟩

namespace Control.SameNotices

variable {c d : Control}

theorem notice (h : c.SameNotices d) (cls : NoticeClass) (fields : List Fld) :
    (c.notice cls fields).SameNotices (d.notice cls fields) := by
  cases ha : d.enables.admits cls with
  | false => rwa [Control.notice_of_off (h.enables ▸ ha), Control.notice_of_off ha]
  | true =>
    rcases Nat.lt_or_ge d.notices.length 16 with hroom | hfull
    · rw [Control.notice_of_room (h.enables ▸ ha) (h.notices ▸ hroom), Control.notice_of_room ha hroom]
      exact ⟨by simp only [h.notices, h.noticesLost], h.noticesLost, h.enables⟩
    · rw [Control.notice_of_full (h.enables ▸ ha) (h.notices ▸ hfull), Control.notice_of_full ha hfull]
      exact ⟨h.notices, congrArg bump h.noticesLost, h.enables⟩

theorem ite {e f : Control} {p : Prop} [Decidable p] (h : c.SameNotices d) (k : e.SameNotices f) :
    (if p then c else e).SameNotices (if p then d else f) := by
  split <;> assumption

theorem levelNotices (h : c.SameNotices d) (old new : Journal) (dating : Nat) :
    (c.levelNotices old new dating).SameNotices (d.levelNotices old new dating) :=
  ite ((ite (h.notice _ _) h).notice _ _) (ite (h.notice _ _) h)

end Control.SameNotices

section
variable {s t : State}

theorem State.lose_sameNotices (haj : s.aj = t.aj) (hd : s.dating = t.dating) (h : s.clu.SameNotices t.clu)
    (kind : RecordKind) (seq : Option Nat) : (s.lose kind seq).clu.SameNotices (t.lose kind seq).clu := by
  simp only [State.lose, haj, hd]
  exact .ite (h.notice _ _) h

theorem State.submit_sameNotices (haj : s.aj = t.aj) (hd : s.dating = t.dating) (h : s.clu.SameNotices t.clu)
    (b : Body) : (s.submit b).clu.SameNotices (t.submit b).clu := by
  unfold State.submit
  rw [haj]
  split
  · simp only [State.store, haj, hd]
    exact h.levelNotices _ _ _
  · exact h
  · exact State.lose_sameNotices haj hd h _ _

theorem State.admin_sameNotices (haj : s.aj = t.aj) (hd : s.dating = t.dating) (h : s.clu.SameNotices t.clu)
    (e : AdminEvent) : (s.admin e).clu.SameNotices (t.admin e).clu := by
  rw [State.admin, State.admin, hd]
  exact State.submit_sameNotices haj hd h _

end

/-! ## CLOCK records (R58, R59) -/

/-- The loss of a CLOCK record without a sequence. -/
theorem State.lose_clock_eq (s : State) : s.lose .clock none = s.losesClock := by
  unfold State.lose State.losesClock journalNotice
  simp only [Tally.isZero, Bool.and_eq_true, decide_eq_true_eq, Tally.lose, reduceCtorEq, if_false, bump_eq_min,
    LostCounts.raise]
  rfl

/-- What the forming of a CLOCK record does to AJ and CLU: nothing but the loss when 32 wait. -/
def State.clockLost (s : State) : State := if 32 ≤ s.du.records.length then s.losesClock else s

/-- A CLOCK record is formed, or lost when 32 wait, and its notice is raised. -/
theorem State.clockRecordAt_aj (s : State) (e : ClockEvent) (d : Nat) :
    (s.clockRecordAt e d).aj = s.clockLost.aj := by
  unfold State.clockRecordAt State.clockLost
  rcases Nat.lt_or_ge s.du.records.length 32 with h | h
  · rw [if_neg (Nat.not_le.mpr h)]
    simp only [clockListMax, h, if_true]
    rfl
  · rw [if_pos h, ← State.lose_clock_eq]
    simp only [clockListMax, Nat.not_lt.mpr h, if_false]
    rfl

theorem State.clockRecordAt_clu (s : State) (e : ClockEvent) (d : Nat) :
    (s.clockRecordAt e d).clu = s.clockLost.clu.notice .clock (clockNotice (s.du.form e) s.du.trace d) := by
  unfold State.clockRecordAt State.clockLost
  rcases Nat.lt_or_ge s.du.records.length 32 with h | h
  · rw [if_neg (Nat.not_le.mpr h)]
    simp only [clockListMax, h, if_true]
    rfl
  · rw [if_pos h, ← State.lose_clock_eq]
    simp only [clockListMax, Nat.not_lt.mpr h, if_false]
    rfl

section
variable {s t : State}

theorem State.losesClock_aj_congr (haj : s.aj = t.aj) : s.losesClock.aj = t.losesClock.aj := by
  unfold State.losesClock
  simp only [haj]

theorem State.losesClock_sameNotices (haj : s.aj = t.aj) (hd : s.dating = t.dating) (h : s.clu.SameNotices t.clu) :
    s.losesClock.clu.SameNotices t.losesClock.clu := by
  rw [← State.lose_clock_eq, ← State.lose_clock_eq]
  exact State.lose_sameNotices haj hd h _ _

theorem State.clockLost_aj_congr (haj : s.aj = t.aj) (hr : s.du.records.length = t.du.records.length) :
    s.clockLost.aj = t.clockLost.aj := by
  unfold State.clockLost
  rw [hr]
  split
  · exact State.losesClock_aj_congr haj
  · exact haj

theorem State.clockLost_sameNotices (haj : s.aj = t.aj) (hr : s.du.records.length = t.du.records.length)
    (hd : s.dating = t.dating) (h : s.clu.SameNotices t.clu) : s.clockLost.clu.SameNotices t.clockLost.clu := by
  unfold State.clockLost
  rw [hr]
  split
  · exact State.losesClock_sameNotices haj hd h
  · exact h

end

end Sys2Proof.Machine
end

section
/-! The Twin Link Unit: its evaluations, its timers, and its requests. -/

namespace Sys2Proof.Machine

/-! ## The probe of least delay (R72) -/

/-- The result is a probe of the list, earlier ones being of greater delay and later ones not of less. -/
theorem leastDelay_spec (l : List Measured) (h : l ≠ []) :
    ∃ before m after, l = before ++ m :: after ∧ leastDelay l = some m ∧ (∀ x ∈ before, m.delay < x.delay) ∧
      ∀ x ∈ after, m.delay ≤ x.delay := by
  induction l with
  | nil => exact absurd rfl h
  | cons a as ih =>
    rcases List.eq_nil_or_concat as with rfl | hne
    · exact ⟨[], a, [], rfl, rfl, by simp, by simp⟩
    · obtain ⟨before, m, after, heq, hleast, hbefore, hafter⟩ := ih (by
        obtain ⟨l, b, rfl⟩ := hne
        simp)
      by_cases hlt : m.delay < a.delay
      · refine ⟨a :: before, m, after, by rw [heq, List.cons_append], ?_, ?_, hafter⟩
        · simp only [leastDelay, hleast, hlt, if_true]
        · intro x hx
          rcases List.mem_cons.mp hx with rfl | hx
          · exact hlt
          · exact hbefore x hx
      · refine ⟨[], a, as, rfl, ?_, by simp, fun x hx => ?_⟩
        · simp only [leastDelay, hleast, hlt, if_false]
        · rw [heq, List.mem_append, List.mem_cons] at hx
          rcases hx with hx | rfl | hx
          · exact (Int.not_lt.mp hlt).trans (hbefore x hx).le
          · exact Int.not_lt.mp hlt
          · exact (Int.not_lt.mp hlt).trans (hafter x hx)

/-! ## The report to DU (R55) -/

theorem State.contest_du (s : State) (theta : Int) (limit : Nat) :
    (s.contest theta limit).du =
      { s.du with
        contested := true
        records :=
          if s.du.contested = false ∧ s.du.records.length < 32 then
            s.du.records ++ [⟨.contestedSet theta limit, s.du.mode, s.du.bound⟩]
          else s.du.records } := by
  unfold State.contest
  cases h : s.du.contested with
  | true =>
    rw [if_pos rfl, if_neg (by simp), ← h]
  | false =>
    rw [if_neg (by simp), State.clockRecord_du]
    simp only [true_and]
    rfl

theorem State.uncontest_du (s : State) (cause : ContestCause) (theta : Option Int) :
    (s.uncontest cause theta).du =
      { s.du with
        contested := false
        records :=
          if s.du.contested = true ∧ s.du.records.length < 32 then
            s.du.records ++ [⟨.contestedClear cause theta, s.du.mode, s.du.bound⟩]
          else s.du.records } := by
  unfold State.uncontest
  cases h : s.du.contested with
  | false =>
    rw [if_neg (by simp), if_neg (by simp), ← h]
  | true =>
    rw [if_pos rfl, State.clockRecord_du]
    simp only [true_and]
    rfl

/-! ## The offer of an assisted anchor (R76) -/

theorem State.offerAnchor_of_some {s : State} {st : TwinStatus} (h : s.offerStatus = some st) (theta : Int) :
    s.offerAnchor theta =
      { s with
        tlu := { s.tlu with
          heldOut := some ⟨assistedBound (twinBound st s.tick) theta s.tlu.allowance, s.dating⟩ }
        du := { s.du with
          assisted := some ⟨assistedBound (twinBound st s.tick) theta s.tlu.allowance, s.dating⟩ } } := by
  rw [State.offerAnchor, h]

theorem State.offerAnchor_of_none {s : State} (h : s.offerStatus = none) (theta : Int) :
    s.offerAnchor theta = s.withdrawAnchor := by
  rw [State.offerAnchor, h]

theorem State.offerAnchor_tlu (s : State) (theta : Int) :
    (s.offerAnchor theta).tlu = { s.tlu with heldOut := (s.offerAnchor theta).tlu.heldOut } := by
  cases h : s.offerStatus with
  | none => simp only [State.offerAnchor_of_none h, State.withdrawAnchor_tlu]
  | some st => simp only [State.offerAnchor_of_some h]

theorem State.offerAnchor_du (s : State) (theta : Int) :
    (s.offerAnchor theta).du = { s.du with assisted := (s.offerAnchor theta).du.assisted } := by
  cases h : s.offerStatus with
  | none =>
    rw [State.offerAnchor_of_none h, State.withdrawAnchor_du]
    split <;> rfl
  | some st => simp only [State.offerAnchor_of_some h]

theorem twinBound_of_some {st : TwinStatus} {v : Nat} (h : st.bound = some v) (tick : Nat) : twinBound st tick = v := by
  rw [twinBound, h]

theorem statusAge_eq (x : TwinLink) (tick : Nat) :
    x.statusAge tick = min 4294967295 ((tick - x.statusTick) / 125000000) := Nat.min_comm _ _

/-! ## A successful evaluation (R72, R74) -/

/-- The state in which the result of a successful evaluation is held and a change of agreement reported to DU. -/
def State.judged (s : State) (m : Measured) : State :=
  if agreementOf m.theta s.tlu.limit = s.tlu.state then s.setTlu (s.tlu.evaluated m)
  else (s.setTlu (s.tlu.evaluated m)).reportAgreement m.theta

/-- The evaluation as a step of the judged state. -/
theorem State.afterEvaluation_evaluated (s : State) (m : Measured) :
    (s.setTlu (s.tlu.evaluated m)).afterEvaluation s.tlu.state m =
      ((s.judged m).formTwin (.status (s.judged m).ownStatus)).offerAnchor m.theta := rfl

theorem State.reportAgreement_tlu (s : State) (theta : Int) : (s.reportAgreement theta).tlu = s.tlu := by
  unfold State.reportAgreement
  split
  · exact s.uncontest_same _ _ .tlu (by decide)
  · exact s.contest_same _ _ .tlu (by decide)
  · rfl

theorem State.judged_same (s : State) (m : Measured) : s.SameBut (s.judged m) [.tlu, .du, .aj, .clu] :=
  State.SameBut.ite ((s.setTlu_same _).mono (by decide))
    (((s.setTlu_same _).mono (by decide)).trans ((State.reportAgreement_same _ _).mono (by decide)))

theorem State.judged_tlu (s : State) (m : Measured) : (s.judged m).tlu = s.tlu.evaluated m := by
  unfold State.judged
  split
  · rfl
  · exact State.reportAgreement_tlu _ _

/-- What the report leaves of DU: the contested mark follows the agreement where it changes, with its record. -/
theorem State.judged_du (s : State) (m : Measured) :
    let agrees := m.theta.natAbs ≤ s.tlu.limit
    let st : TwinState := if agrees then .agreed else .disagree
    let contested := if st = s.tlu.state then s.du.contested else decide (st = .disagree)
    (s.judged m).du = { s.du with contested := contested, records := (s.judged m).du.records } ∧
      (contested = s.du.contested → (s.judged m).du.records = s.du.records) ∧
      (contested ≠ s.du.contested → s.du.records.length < 32 → (s.judged m).du.records = s.du.records ++
        [⟨if agrees then .contestedClear .agreed (some m.theta) else .contestedSet m.theta s.tlu.limit, s.du.mode,
          s.du.bound⟩]) := by
  intro agrees st contested
  unfold State.judged
  have hst : agreementOf m.theta s.tlu.limit = st := rfl
  by_cases hsame : st = s.tlu.state
  · have hc : contested = s.du.contested := if_pos hsame
    rw [hst, if_pos hsame, hc]
    exact ⟨rfl, fun _ => rfl, fun h => absurd rfl h⟩
  · have hc : contested = decide (st = .disagree) := if_neg hsame
    rw [hst, if_neg hsame, hc]
    by_cases ha : m.theta.natAbs ≤ s.tlu.limit
    · have hagreed : st = .agreed := if_pos ha
      have hreport : (s.setTlu (s.tlu.evaluated m)).reportAgreement m.theta =
          (s.setTlu (s.tlu.evaluated m)).uncontest .agreed (some m.theta) := by
        simp only [State.reportAgreement, State.setTlu_tlu, TwinLink.evaluated, hst, hagreed]
      rw [hreport, State.uncontest_du, hagreed]
      refine ⟨rfl, fun h => ?_, fun h hroom => ?_⟩
      · exact if_neg fun hk => absurd (h.trans hk.1) (by decide)
      · have hset : s.du.contested = true := by
          cases hk : s.du.contested
          · exact absurd hk.symm h
          · rfl
        rw [if_pos ha]
        exact if_pos ⟨hset, hroom⟩
    · have hdis : st = .disagree := if_neg ha
      have hreport : (s.setTlu (s.tlu.evaluated m)).reportAgreement m.theta =
          (s.setTlu (s.tlu.evaluated m)).contest m.theta s.tlu.limit := by
        simp only [State.reportAgreement, State.setTlu_tlu, TwinLink.evaluated, hst, hdis]
      rw [hreport, State.contest_du, hdis]
      refine ⟨rfl, fun h => ?_, fun h hroom => ?_⟩
      · exact if_neg fun hk => absurd (h.trans hk.1) (by decide)
      · have hclear : s.du.contested = false := by
          cases hk : s.du.contested
          · rfl
          · exact absurd hk.symm h
        rw [if_neg ha]
        exact if_pos ⟨hclear, hroom⟩

/-- The offer conditions of R76 after an evaluation. -/
theorem State.judged_offerStatus (s : State) (m : Measured) (f : TwinFrame) :
    ((s.judged m).formTwin f).offerStatus =
      match s.tlu.status with
      | some st =>
        if m.theta.natAbs ≤ s.tlu.limit ∧ st.trace = .traceable ∧ s.tlu.statusAge s.tick ≤ 2 * s.tlu.period then some st
        else none
      | none => none := by
  have htick : (s.judged m).tick = s.tick := s.judged_same m .tick (by decide)
  have hstate : agreementOf m.theta s.tlu.limit = .agreed ↔ m.theta.natAbs ≤ s.tlu.limit := by
    unfold agreementOf
    split <;> simp_all
  unfold State.offerStatus
  simp only [State.formTwin_tlu, TwinLink.form_eq_joined, State.formTwin_tick, State.judged_tlu, htick]
  cases h : s.tlu.status with
  | none => simp only [TwinLink.joined, TwinLink.evaluated, h]
  | some st =>
    simp only [TwinLink.joined, TwinLink.evaluated, h]
    exact if_congr (and_congr hstate Iff.rfl) rfl rfl

/-- What a successful evaluation leaves, up to the check timer. -/
theorem State.evaluated_of_afterEvaluation {s t : State} {m : Measured} {checkTimer : Option Nat}
    (hsame : s.SameBut t [.tlu, .du, .aj, .clu])
    (htlu : t.tlu = { ((s.setTlu (s.tlu.evaluated m)).afterEvaluation s.tlu.state m).tlu with checkTimer := checkTimer })
    (hdu : t.du = ((s.setTlu (s.tlu.evaluated m)).afterEvaluation s.tlu.state m).du) :
    s.Evaluated t m checkTimer := by
  unfold State.Evaluated
  intro agrees st age contested
  have hbase := State.judged_same s m
  obtain ⟨jdu, jkeep, jjoin⟩ := State.judged_du s m
  have jtlu := State.judged_tlu s m
  have hoffer := s.judged_offerStatus m (.status (s.judged m).ownStatus)
  rw [State.afterEvaluation_evaluated] at htlu hdu
  have hown : (s.judged m).ownStatus = ⟨s.du.trace, s.du.bound, s.du.mode, s.du.selection, s.epoch⟩ := by
    rw [State.ownStatus, jdu, show (s.judged m).epoch = s.epoch from hbase .epoch (by decide)]
  have hdating : (s.judged m).dating = max s.tb.raw s.tb.hwm := by
    rw [State.dating, show (s.judged m).tb = s.tb from hbase .tb (by decide)]
    rfl
  have htick : (s.judged m).tick = s.tick := hbase .tick (by decide)
  refine ⟨hsame, ?_, ?_, fun h => ?_, fun h hroom => ?_, fun x hx ha htrace hage => ?_, fun h => ?_⟩
  · rw [htlu, State.offerAnchor_tlu, State.formTwin_tlu, TwinLink.form_eq_joined, jtlu, hown]
    rfl
  · rw [hdu, State.offerAnchor_du, State.formTwin_du, jdu]
  · rw [hdu, State.offerAnchor_du, State.formTwin_du]
    exact jkeep h
  · rw [hdu, State.offerAnchor_du, State.formTwin_du]
    exact jjoin h hroom
  · rw [hx] at hoffer
    have hsome := hoffer.trans (if_pos ⟨ha, htrace, by rw [statusAge_eq]; exact hage⟩)
    refine ⟨twinBound x s.tick, fun v hv => twinBound_of_some hv _, ?_, ?_⟩
    · rw [htlu, hdu, State.offerAnchor_of_some hsome]
    · rw [htlu, State.offerAnchor_of_some hsome]
      simp only [State.formTwin_tick, htick, State.formTwin_tlu, TwinLink.form_eq_joined, jtlu]
      rw [show ((s.judged m).formTwin (.status (s.judged m).ownStatus)).dating = (s.judged m).dating from rfl, hdating,
        assistedBound, sat32, Nat.min_comm]
      rfl
  · have hnone : ((s.judged m).formTwin (.status (s.judged m).ownStatus)).offerStatus = none := by
      rw [hoffer]
      cases hs : s.tlu.status with
      | none => rfl
      | some x =>
        refine if_neg fun ⟨ka, kt, kage⟩ => ?_
        rw [statusAge_eq] at kage
        rcases h with h | h | ⟨y, hy, h⟩ | h
        · exact h ka
        · exact absurd (hs.symm.trans h) (by simp)
        · obtain rfl := Option.some.inj (hs.symm.trans hy)
          exact h kt
        · exact absurd kage (Nat.not_le.mpr h)
    have hheld : ((s.judged m).formTwin (.status (s.judged m).ownStatus)).tlu.heldOut = s.tlu.heldOut := by
      rw [State.formTwin_tlu, TwinLink.form_eq_joined, jtlu]
      rfl
    rw [htlu, hdu, State.offerAnchor_of_none hnone, State.withdrawAnchor_tlu, State.withdrawAnchor_du, hheld]
    refine ⟨rfl, ?_⟩
    split
    · rfl
    · rw [State.formTwin_du, jdu]

theorem State.evaluateMeasurement_of_enough {s : State} {m : Measured} (hm : leastDelay s.tlu.validProbes = some m)
    (h : 4 ≤ s.tlu.validProbes.length) :
    s.evaluateMeasurement =
      let s1 := (s.setTlu (s.tlu.evaluated m)).afterEvaluation s.tlu.state m
      (s1.setTlu { s1.tlu with checkTimer := some (s1.tick + s1.tlu.period * ticksPerSecond) }).twinChanged s.tlu.state
        .evaluation (some ⟨m.theta, m.delay, s.tlu.validProbes.length⟩) := by
  simp only [State.evaluateMeasurement, hm, h, if_true]

theorem State.evaluateMeasurement_of_few {s : State} (h : s.tlu.validProbes.length < 4) :
    s.evaluateMeasurement = s.enterDetached .measure := by
  unfold State.evaluateMeasurement
  dsimp only
  split
  · exact if_neg (Nat.not_le.mpr h)
  · rfl

theorem State.evaluateCheck_of_enough {s : State} {m : Measured} (hm : leastDelay s.tlu.validProbes = some m)
    (h : 2 ≤ s.tlu.validProbes.length) :
    s.evaluateCheck = ((s.setTlu (s.tlu.evaluated m)).afterEvaluation s.tlu.state m).twinChanged s.tlu.state
      .evaluation (some ⟨m.theta, m.delay, s.tlu.validProbes.length⟩) := by
  simp only [State.evaluateCheck, hm, h, if_true]

theorem State.evaluateCheck_of_few {s : State} (h : s.tlu.validProbes.length < 2) : s.evaluateCheck = s.failCheck := by
  unfold State.evaluateCheck
  dsimp only
  split
  · exact if_neg (Nat.not_le.mpr h)
  · rfl

theorem State.afterEvaluation_period (s : State) (m : Measured) :
    ((s.setTlu (s.tlu.evaluated m)).afterEvaluation s.tlu.state m).tlu.period = s.tlu.period := by
  rw [State.afterEvaluation_evaluated, State.offerAnchor_tlu, State.formTwin_tlu, TwinLink.form_eq_joined,
    State.judged_tlu]
  rfl

theorem State.afterEvaluation_checkTimer (s : State) (m : Measured) :
    ((s.setTlu (s.tlu.evaluated m)).afterEvaluation s.tlu.state m).tlu.checkTimer = s.tlu.checkTimer := by
  rw [State.afterEvaluation_evaluated, State.offerAnchor_tlu, State.formTwin_tlu, TwinLink.form_eq_joined,
    State.judged_tlu]
  rfl

theorem State.afterEvaluation_tick (s : State) (m : Measured) :
    ((s.setTlu (s.tlu.evaluated m)).afterEvaluation s.tlu.state m).tick = s.tick :=
  (State.afterEvaluation_same _ _ _) .tick (by decide)

/-- Settles O32: by whether 4 probes are VALID. -/
theorem aMeasurementIsEvaluated : Obligations.AMeasurementIsEvaluated := by
  intro s _ valid t
  refine ⟨s.evaluateMeasurement_same, fun h => ?_, fun h => ?_⟩
  · obtain ⟨before, m, after, heq, hleast, hbefore, hafter⟩ := leastDelay_spec valid
      (List.ne_nil_of_length_pos (by omega))
    refine ⟨before, m, after, heq, hbefore, hafter, State.evaluated_of_afterEvaluation s.evaluateMeasurement_same ?_ ?_⟩
    · refine (congrArg State.tlu (State.evaluateMeasurement_of_enough hleast h)).trans ?_
      simp only [State.twinChanged_tlu, State.setTlu_tlu, State.afterEvaluation_period, State.afterEvaluation_tick]
      rfl
    · refine (congrArg State.du (State.evaluateMeasurement_of_enough hleast h)).trans ?_
      simp only [State.twinChanged_du, State.setTlu_du]
  · have ht : t = s.enterDetached .measure := State.evaluateMeasurement_of_few h
    rw [ht, State.enterDetached_tlu, State.enterDetached_du]
    exact ⟨rfl, rfl, rfl, rfl, rfl, rfl, rfl, rfl, rfl⟩

/-- Settles O33: by whether 2 probes are VALID, and by the failures in a row. -/
theorem aCheckIsEvaluated : Obligations.ACheckIsEvaluated := by
  intro s _ valid t failed
  refine ⟨s.evaluateCheck_same, fun h => ?_, fun h hfirst => ?_, fun h hsecond => ?_⟩
  · obtain ⟨before, m, after, heq, hleast, hbefore, hafter⟩ := leastDelay_spec valid
      (List.ne_nil_of_length_pos (by omega))
    refine ⟨before, m, after, heq, hbefore, hafter, State.evaluated_of_afterEvaluation s.evaluateCheck_same ?_ ?_⟩
    · refine (congrArg State.tlu (State.evaluateCheck_of_enough hleast h)).trans ?_
      rw [State.twinChanged_tlu, ← State.afterEvaluation_checkTimer s m]
    · exact (congrArg State.du (State.evaluateCheck_of_enough hleast h)).trans (State.twinChanged_du _ _ _ _)
  · have ht : t = ((s.setTlu failed).twinNotice s.tlu.state .checkFailed none).formTwin
        (.status ⟨s.du.trace, s.du.bound, s.du.mode, s.du.selection, s.epoch⟩) :=
      (State.evaluateCheck_of_few h).trans (if_pos hfirst)
    rw [ht]
    refine ⟨?_, TwinLink.form_eq_joined _ _⟩
    exact (((s.setTlu_same _).mono (by decide)).trans ((State.twinNotice_same _ _ _ _).mono (by decide))).trans
      ((State.formTwin_same _ _).mono (by decide))
  · have ht : t = ((s.setTlu failed).twinNotice s.tlu.state .checkFailed none).enterDetached .check :=
      (State.evaluateCheck_of_few h).trans (if_neg hsecond)
    rw [ht, State.enterDetached_tlu, State.enterDetached_du]
    exact ⟨rfl, rfl⟩

/-! ## Timers (R64, R68, R70, R72, R74) -/

theorem due_of_le {d tick : Nat} {deadline : Option Nat} (h : deadline = some d) (hle : d ≤ tick) :
    due deadline tick = true := by
  rw [h]
  exact decide_eq_true hle

theorem State.openOffer_tlu (s : State) :
    s.openOffer.tlu = TwinLink.joined
      { s.tlu with state := .offering, offerTimer := some (s.tick + 250000000), retryTimer := none }
      (.offer ⟨s.tlu.venue, s.serial.toNat, s.epoch⟩) := by
  unfold State.openOffer
  simp only [State.setTlu_tlu, State.formTwin_tlu, TwinLink.form_eq_joined]
  rfl

/-- The notice of an OFFER that opens another state's attempt (R77). -/
theorem State.openOffer_twinChanged_clu (s : State) {old : TwinState} (h : old ≠ .offering) (cause : TwinCause) :
    (s.openOffer.twinChanged old cause none).clu =
      s.clu.notice .twin
        [fx 1 (TwinState.toCode old), fx 1 (TwinState.toCode .offering), fx 1 (TwinCause.toCode cause),
         fso 8 none, fso 8 none, fo 1 none, fx 1 (boolCode s.tlu.heldOut.isSome), fx 8 s.dating] := by
  unfold State.twinChanged
  rw [if_neg (show ¬ s.openOffer.tlu.state = old by rw [State.openOffer_tlu]; exact fun k => h k.symm)]
  unfold State.twinNotice
  rw [State.openOffer_tlu]
  rfl

theorem State.openOffer_twinChanged_same (s : State) (old : TwinState) (cause : TwinCause) :
    s.SameBut (s.openOffer.twinChanged old cause none) [.tlu, .clu] :=
  (s.openOffer_same.mono (by decide)).trans ((State.twinChanged_same _ _ _ _).mono (by decide))

theorem TwinFrame.not_isProbe_iff (n : Nat) (f : TwinFrame) : (!f.isProbe n) = decide (f ≠ .probe n) := by
  cases f <;> simp [TwinFrame.isProbe]

/-- Settles O31: each timer is due, and its command does what its chapter says. -/
theorem twinTimersExpire : Obligations.TwinTimersExpire := by
  intro s d hrun hle next
  refine ⟨fun hstate htimer => ?_, fun hstate htimer => ?_, fun hstate htimer hnone => ?_,
    fun older x hp holder hout htimer hstate => ?_, fun hstate htimer hprobes => ?_⟩
  · have hexec : offerTimerExpiry s = State.enterDetached (s.setTlu
        { s.tlu with counters := { s.tlu.counters with offerTimeouts := bump s.tlu.counters.offerTimeouts } })
        .timeout := if_pos ⟨hstate, due_of_le htimer hle⟩
    refine ⟨_, (live_of_running hrun _).trans (congrArg _ hexec),
      ((s.setTlu_same _).mono (by decide)).trans (State.enterDetached_same _ _), ?_⟩
    rw [State.enterDetached_tlu]
    exact ⟨rfl, rfl, rfl, rfl, rfl, rfl, rfl⟩
  · have hexec : retryTimerExpiry s = s.openOffer.twinChanged .detached .offer none :=
      if_pos ⟨hstate, due_of_le htimer hle⟩
    exact ⟨_, (live_of_running hrun _).trans (congrArg _ hexec), s.openOffer_twinChanged_same _ _,
      (State.twinChanged_tlu _ _ _ _).trans s.openOffer_tlu, s.openOffer_twinChanged_clu (by decide) _⟩
  · have hexec : probeSpacingExpiry s = s.formProbe :=
      if_pos ⟨TwinState.attached_iff.mpr hstate, due_of_le htimer hle, TwinLink.outstanding_eq_none_iff.mpr hnone⟩
    refine (live_of_running hrun _).trans (congrArg _ (hexec.trans ?_))
    refine (show s.formProbe = s.setTlu s.formProbe.tlu from rfl).trans (congrArg s.setTlu ?_)
    rw [State.formProbe_tlu, TwinState.cycleLength_eq]
  · intro closed
    have hexec : probeTimeout s = State.closeProbe
        (s.setTlu { s.tlu with transmit := s.tlu.transmit.filter fun f => decide (f ≠ .probe x.number) })
        (.invalid .timeout) := by
      rw [probeTimeout, TwinLink.outstanding_of_last hp holder hout]
      simp only [due_of_le htimer hle, if_true, TwinFrame.not_isProbe_iff]
    refine (live_of_running hrun _).trans (congrArg _ (hexec.trans ?_))
    rw [State.closeProbe_of_last (s := s.setTlu { s.tlu with
      transmit := s.tlu.transmit.filter fun f => decide (f ≠ .probe x.number) }) hstate hp holder hout (by simp)]
    rfl
  · have hexec : checkTimerExpiry s =
        State.formProbe (s.setTlu { s.tlu with checkTimer := some (s.tick + s.tlu.period * ticksPerSecond) }) :=
      if_pos ⟨hstate, due_of_le htimer hle, hprobes⟩
    refine (live_of_running hrun _).trans (congrArg _ (hexec.trans ?_))
    refine congrArg s.setTlu ?_
    refine (State.formProbe_tlu _).trans ?_
    have hlt : 1 < s.tlu.state.cycleLength := by rw [TwinState.cycleLength_eq]; split <;> decide
    simp only [State.setTlu_tlu, State.setTlu_tick, hprobes, List.nil_append, List.length_nil, Nat.zero_add, hlt,
      if_true]
    rfl

end Sys2Proof.Machine
end

section
/-! The requests of the twin, and the requests that stage settings. -/

namespace Sys2Proof.Machine

/-! ## The contested mark cleared (R55, R59) -/

theorem State.uncontest_aj (s : State) (cause : ContestCause) (theta : Option Int) :
    (s.uncontest cause theta).aj = if s.du.contested = true then s.clockLost.aj else s.aj := by
  unfold State.uncontest
  split
  · exact (State.clockRecordAt_aj _ _ _).trans (State.clockLost_aj_congr rfl rfl)
  · rfl

/-- The notices of a CONTESTED_CLEAR record, up to what CLU does not read. -/
theorem State.uncontest_sameNotices (s : State) (cause : ContestCause) (theta : Option Int) :
    (s.uncontest cause theta).clu.SameNotices
      (if s.du.contested = true then
        s.clockLost.clu.notice .clock (clockNotice (s.du.form (.contestedClear cause theta)) s.du.trace s.dating)
      else s.clu) := by
  unfold State.uncontest
  split
  · unfold State.clockRecord
    rw [State.clockRecordAt_clu]
    exact (State.clockLost_sameNotices (s := { s with du := { s.du with contested := false } }) (t := s) rfl rfl rfl
      (.refl _)).notice _ _
  · exact .refl _

/-! ## TWIN_STOP (R65) -/

/-- TLU after TWIN_STOP in a state other than OFF. -/
theorem State.stopTwin_tlu (s : State) :
    s.stopTwin.tlu = { s.tlu.joined .bye with
      state := .off
      offerTimer := none
      retryTimer := none
      spacingTimer := none
      probeTimer := none
      checkTimer := none
      probes := []
      heldOut := none
      status := none
      agreed := none
      transmit := (s.tlu.joined .bye).transmit.filter fun f => !f.isEcho } := by
  unfold State.stopTwin
  dsimp only
  have huncontest := fun t : State => show (t.uncontest .stop none).tlu = t.tlu from
    t.uncontest_same _ _ .tlu (by decide)
  rw [State.twinChanged_tlu, State.setTlu_tlu, huncontest, State.withdrawAnchor_tlu]
  simp only [State.setTlu_tlu, State.formTwin_tlu, TwinLink.form_eq_joined]

/-- What the stop of the cross-check withdraws before it clears the contested mark. -/
def State.stopping (s : State) : State :=
  let s1 := s.formTwin .bye
  (s1.setTlu
    { s1.tlu with
      offerTimer := none
      retryTimer := none
      spacingTimer := none
      probeTimer := none
      checkTimer := none
      probes := []
      transmit := s1.tlu.transmit.filter fun f => !f.isEcho }).withdrawAnchor

theorem State.stopping_same (s : State) : s.SameBut s.stopping [.tlu, .du] :=
  ((s.formTwin_same _).trans (State.setTlu_same _ _)).mono (by decide) |>.trans (State.withdrawAnchor_same _)

theorem State.stopping_du (s : State) :
    s.stopping.du = if s.tlu.heldOut.isSome then { s.du with assisted := none } else s.du := by
  unfold State.stopping
  dsimp only
  rw [State.withdrawAnchor_du]
  simp only [State.setTlu_tlu, State.formTwin_tlu, TwinLink.form_eq_joined]
  rfl

theorem State.stopping_contested (s : State) : s.stopping.du.contested = s.du.contested := by
  rw [State.stopping_du]
  split <;> rfl

theorem State.stopping_records (s : State) : s.stopping.du.records = s.du.records := by
  rw [State.stopping_du]
  split <;> rfl

theorem State.stopping_form (s : State) (e : ClockEvent) :
    s.stopping.du.form e = s.du.form e ∧ s.stopping.du.trace = s.du.trace := by
  rw [State.stopping_du]
  split <;> exact ⟨rfl, rfl⟩

/-- The notice of a change of TLU's state (R77). -/
theorem State.twinChanged_clu_of_ne {s : State} {old : TwinState} (h : s.tlu.state ≠ old) (cause : TwinCause)
    (ev : Option Evaluation) :
    (s.twinChanged old cause ev).clu =
      s.clu.notice .twin (Machine.twinNotice old s.tlu.state cause ev s.tlu.heldOut.isSome s.dating) :=
  congrArg State.clu (if_neg h)

theorem State.stopTwin_du_eq (s : State) : s.stopTwin.du = (s.stopping.uncontest .stop none).du :=
  State.twinChanged_du _ _ _ _

theorem State.stopTwin_aj_eq (s : State) : s.stopTwin.aj = (s.stopping.uncontest .stop none).aj :=
  State.twinChanged_same _ _ _ _ .aj (by decide)

theorem State.stopTwin_clu_eq {s : State} (h : s.tlu.state ≠ .off) :
    s.stopTwin.clu = (s.stopping.uncontest .stop none).clu.notice .twin
      [fx 1 (TwinState.toCode s.tlu.state), fx 1 (TwinState.toCode .off), fx 1 2, fso 8 none, fso 8 none, fo 1 none,
       fx 1 (boolCode false), fx 8 s.dating] := by
  have hheld : (s.stopping.uncontest .stop none).tlu.heldOut = none := by
    rw [show (s.stopping.uncontest .stop none).tlu = s.stopping.tlu from
      State.uncontest_same _ _ _ .tlu (by decide)]
    exact congrArg TwinLink.heldOut (State.withdrawAnchor_tlu _)
  have htb : (s.stopping.uncontest .stop none).tb = s.tb :=
    (State.uncontest_same _ _ _ .tb (by decide)).trans (s.stopping_same .tb (by decide))
  have hstop : s.stopTwin = ((s.stopping.uncontest .stop none).setTlu
      { (s.stopping.uncontest .stop none).tlu with status := none, agreed := none, state := .off }).twinChanged
        s.tlu.state .stop none := rfl
  rw [hstop]
  generalize s.stopping.uncontest .stop none = u at hheld htb ⊢
  refine (State.twinChanged_clu_of_ne (by exact fun k => h k.symm) .stop none).trans ?_
  have hd : u.dating = s.dating := congrArg TimeBase.dating htb
  show u.clu.notice .twin (Machine.twinNotice _ .off .stop none u.tlu.heldOut.isSome u.dating) = _
  rw [hheld, hd]
  rfl

/-- The state in which the CLOCK notice of a stop has been raised. -/
def State.stopTold (s : State) : State :=
  if s.du.contested = false then s else s.clockLost.notice .clock
    [fx 1 12, fx 1 2, fso 8 none, fx 1 (Mode.toCode s.du.mode), fx 1 (TraceState.toCode s.du.trace),
     fo 4 s.du.bound, fx 8 s.dating]

theorem State.stopTwin_du (s : State) :
    s.stopTwin.du =
      { s.du with
        contested := false
        assisted := if s.tlu.heldOut.isSome then none else s.du.assisted
        records := s.du.records ++ (if s.du.contested = false ∨ 32 ≤ s.du.records.length then []
          else [⟨.contestedClear .stop none, s.du.mode, s.du.bound⟩]) } := by
  have hrecords : ∀ r : ClockRecord, (if s.du.contested = true ∧ s.du.records.length < 32 then s.du.records ++ [r]
      else s.du.records) =
        s.du.records ++ (if s.du.contested = false ∨ 32 ≤ s.du.records.length then [] else [r]) := by
    intro r
    cases hc : s.du.contested with
    | false => simp
    | true =>
      rcases Nat.lt_or_ge s.du.records.length 32 with h | h
      · simp [h, Nat.not_le.mpr h]
      · simp [h, Nat.not_lt.mpr h]
  rw [State.stopTwin_du_eq, State.uncontest_du, State.stopping_du]
  by_cases hh : s.tlu.heldOut.isSome = true
  · simp only [if_pos hh, hrecords]
  · simp only [if_neg hh, hrecords]

theorem State.stopTwin_aj (s : State) : s.stopTwin.aj = s.stopTold.aj := by
  have haj : s.stopping.aj = s.aj := s.stopping_same .aj (by decide)
  rw [State.stopTwin_aj_eq, State.uncontest_aj, State.stopping_contested, State.stopTold]
  cases hc : s.du.contested with
  | false => simpa using haj
  | true =>
    simp only [if_true, Bool.true_eq_false, if_false]
    exact State.clockLost_aj_congr haj (congrArg List.length s.stopping_records)

theorem State.stopTwin_sameNotices {s : State} (h : s.tlu.state ≠ .off) :
    s.stopTwin.clu.SameNotices (s.stopTold.clu.notice .twin
      [fx 1 (TwinState.toCode s.tlu.state), fx 1 (TwinState.toCode .off), fx 1 2, fso 8 none, fso 8 none, fo 1 none,
       fx 1 (boolCode false), fx 8 s.dating]) := by
  have haj : s.stopping.aj = s.aj := s.stopping_same .aj (by decide)
  have hclu : s.stopping.clu = s.clu := s.stopping_same .clu (by decide)
  have hd : s.stopping.dating = s.dating := congrArg TimeBase.dating (s.stopping_same .tb (by decide))
  obtain ⟨hform, htrace⟩ := s.stopping_form (.contestedClear .stop none)
  have hun := s.stopping.uncontest_sameNotices .stop none
  rw [State.stopping_contested, hform, htrace, hd] at hun
  rw [State.stopTwin_clu_eq h]
  refine Control.SameNotices.notice ?_ _ _
  have htold : (if s.du.contested = true then s.stopping.clockLost.clu.notice .clock
      (clockNotice (s.du.form (.contestedClear .stop none)) s.du.trace s.dating) else s.stopping.clu).SameNotices
      s.stopTold.clu := by
    unfold State.stopTold
    cases hc : s.du.contested with
    | false =>
      simp only [Bool.false_eq_true, if_false, if_true, hclu]
      exact .refl _
    | true =>
      simp only [if_true, Bool.true_eq_false, if_false]
      exact (State.clockLost_sameNotices haj (congrArg List.length s.stopping_records) hd
        (hclu ▸ .refl _)).notice _ _
  exact ⟨hun.notices.trans htold.notices, hun.noticesLost.trans htold.noticesLost, hun.enables.trans htold.enables⟩

/-! ## TWIN_CONFIG (R78) -/

theorem boolOfCode_of_gt {n : Nat} (h : 1 < n) : boolOfCode n = none := by
  obtain ⟨k, rfl⟩ := Nat.exists_eq_add_of_le' (show 2 ≤ n from h)
  rfl

theorem boolOfCode_of_le {n : Nat} (h : n ≤ 1) : boolOfCode n = some (decide (n = 1)) := by
  obtain rfl | rfl : n = 0 ∨ n = 1 := by omega
  · rfl
  · rfl

theorem clampQ_clamped_iff {lo hi n : Nat} : (clampQ lo hi n).clamped = true ↔ max lo (min hi n) ≠ n :=
  decide_eq_true_iff

theorem clampTwin_clamped_iff (limit allowance period : Nat) :
    (clampTwin limit allowance period).clamped = true ↔
      max 1000 (min 1000000 limit) ≠ limit ∨ max 0 (min 100000 allowance) ≠ allowance ∨
        max 4 (min 60 period) ≠ period := by
  simp only [clampTwin, Bool.or_eq_true, clampQ_clamped_iff, or_assoc]

theorem TwinLink.takesVenue_iff {x : TwinLink} {venue : Nat} :
    x.takesVenue venue = true ↔ venue = x.venue ∨ x.state = .off ∨ x.state = .detached := by
  simp [TwinLink.takesVenue, or_assoc]

/-- Settles O34: by the state of TLU, and for TWIN_CONFIG by its flag and its venue. -/
theorem twinRequests : Obligations.TwinRequests := by
  intro s q twinNotice
  refine ⟨fun h hoff => ?_, fun h hon => ?_, fun h hoff => ?_, fun h hon => ?_, fun h => ⟨fun hflag => ?_,
    fun hflag hvenue hoff hdet => ?_, fun hflag hvenue => ?_⟩⟩
  · have hact : twinStart q.payload s.beginService =
        (s.beginService.openOffer.twinChanged .off .start none).says .ok := by
      rw [twinStart, show s.beginService.tlu.state = .off from hoff]
    have hclu := s.beginService.openOffer_twinChanged_clu (old := .off) (by decide) .start
    have hsame := s.beginService.openOffer_twinChanged_same .off .start
    refine ⟨_, live_takeRequest_of_acted h hact, State.answer_same_of_acted hsame (by decide) _,
      State.answer_replied_of_sameRequests ?_ _, ?_, ?_⟩
    · rw [hclu]
      exact Control.notice_sameRequests _ _ _
    · exact (State.twinChanged_tlu _ _ _ _).trans s.beginService.openOffer_tlu
    · rw [show (State.answer _ q _).clu.notices = (s.beginService.openOffer.twinChanged .off .start none).clu.notices
        from rfl, hclu]
      exact ((s.beginService_sameNotices.notice _ _).notices)
  · refine live_takeRequest_of_says h .ok [] ?_
    rw [twinStart]
    have hon' : s.beginService.tlu.state ≠ .off := hon
    split
    · exact absurd ‹_› hon'
    all_goals rfl
  · refine live_takeRequest_of_says h .ok [] ?_
    rw [twinStop, show s.beginService.tlu.state = .off from hoff]
  · have hon' : s.beginService.tlu.state ≠ .off := hon
    have hact : twinStop q.payload s.beginService = s.beginService.stopTwin.says .ok := by
      rw [twinStop]
      split
      · exact absurd ‹_› hon'
      all_goals rfl
    have haj : s.beginService.stopTold.aj = s.stopTold.aj := by
      unfold State.stopTold
      by_cases hc : s.du.contested = false
      · rw [if_pos hc, if_pos (show s.beginService.du.contested = false from hc)]
        rfl
      · rw [if_neg hc, if_neg (show ¬ s.beginService.du.contested = false from hc)]
        exact State.clockLost_aj_congr (s := s.beginService) (t := s) rfl rfl
    have hnotices : s.beginService.stopTold.clu.SameNotices s.stopTold.clu := by
      unfold State.stopTold
      by_cases hc : s.du.contested = false
      · rw [if_pos hc, if_pos (show s.beginService.du.contested = false from hc)]
        exact s.beginService_sameNotices
      · rw [if_neg hc, if_neg (show ¬ s.beginService.du.contested = false from hc)]
        exact (State.clockLost_sameNotices (s := s.beginService) (t := s) rfl rfl rfl
          s.beginService_sameNotices).notice _ _
    have hdu := s.beginService.stopTwin_du
    have hajs := s.beginService.stopTwin_aj
    have htlu := s.beginService.stopTwin_tlu
    have hclu := State.stopTwin_sameNotices hon'
    have hlogged : s.beginService.Logged s.beginService.stopTwin := (State.Logged.refl _).stopTwin
    have hframe : s.beginService.SameBut s.beginService.stopTwin twinBlocks := s.beginService.stopTwin_same
    generalize s.beginService.stopTwin = u at hact hdu hajs htlu hclu hlogged hframe
    refine ⟨_, live_takeRequest_of_acted h hact, State.answer_same_of_acted (hframe.mono (by decide)) (by decide) _,
      State.answer_replied_of_logged hlogged _, htlu, ?_, ?_, fun hheld => ?_, ?_, ?_, ?_⟩
    · exact congrArg Discipline.contested hdu
    · show u.du = { s.du with contested := false, assisted := u.du.assisted, records := u.du.records }
      rw [hdu]
      rfl
    · exact (congrArg Discipline.assisted hdu).trans (if_pos hheld)
    · exact congrArg Discipline.records hdu
    · exact hajs.trans haj
    · exact hclu.notices.trans (hnotices.notice _ _).notices
  · refine live_takeRequest_of_says h .outOfRange [] ?_
    rw [twinConfig, boolOfCode_of_gt hflag]
  · refine live_takeRequest_of_says h .wrongState [] ?_
    have hno : ¬ s.beginService.tlu.takesVenue (field q.payload 9 2) = true := fun k => by
      rcases TwinLink.takesVenue_iff.mp k with k | k | k
      · exact hvenue k
      · exact hoff k
      · exact hdet k
    rw [twinConfig, boolOfCode_of_le hflag]
    exact if_neg hno
  · have hyes : s.beginService.tlu.takesVenue (field q.payload 9 2) = true := TwinLink.takesVenue_iff.mpr hvenue
    obtain ⟨c, hc⟩ : ∃ c, c = clampTwin (field q.payload 0 4) (field q.payload 4 4) (field q.payload 8 1) := ⟨_, rfl⟩
    obtain ⟨x, hx⟩ : ∃ x : TwinLink, x = { s.tlu with
      limit := max 1000 (min 1000000 (field q.payload 0 4))
      allowance := max 0 (min 100000 (field q.payload 4 4))
      period := max 4 (min 60 (field q.payload 8 1))
      venue := field q.payload 9 2
      startAtReset := decide (field q.payload 11 1 = 1) } := ⟨_, rfl⟩
    have hact : twinConfig q.payload s.beginService =
        ((s.beginService.setTlu x).configChange 0x0C#8 c.clamped false (fieldBytes (twinConfigFields x))).says
          (okStatus c.clamped) (twinConfigFields x) := by
      rw [twinConfig, boolOfCode_of_le hflag]
      refine (if_pos hyes).trans ?_
      rw [hx, hc]
      rfl
    have hlogged : s.beginService.Logged
        ((s.beginService.setTlu x).configChange 0x0C#8 c.clamped false (fieldBytes (twinConfigFields x))) :=
      ((State.Logged.refl s.beginService).setTlu x).configChange _ _ _ _
    have hclamped : c.clamped = true ↔ x.limit ≠ field q.payload 0 4 ∨ x.allowance ≠ field q.payload 4 4 ∨
        x.period ≠ field q.payload 8 1 := by
      rw [hc, hx]
      exact clampTwin_clamped_iff _ _ _
    have haj : ((s.beginService.setTlu x).configChange 0x0C#8 c.clamped false (fieldBytes (twinConfigFields x))).aj =
        (s.configChange 0x0C#8 c.clamped false (fieldBytes (twinConfigFields x))).aj :=
      State.admin_aj_congr (s := s.beginService.setTlu x) (t := s) rfl rfl _
    have htlu : ((s.beginService.setTlu x).configChange 0x0C#8 c.clamped false
        (fieldBytes (twinConfigFields x))).tlu = x := State.admin_same _ _ .tlu (by decide)
    have hframe : s.beginService.SameBut ((s.beginService.setTlu x).configChange 0x0C#8 c.clamped false
        (fieldBytes (twinConfigFields x))) [.tlu, .aj, .clu] :=
      ((State.setTlu_same _ _).mono (by decide)).trans ((State.admin_same _ _).mono (by decide))
    generalize (s.beginService.setTlu x).configChange 0x0C#8 c.clamped false (fieldBytes (twinConfigFields x)) = u
      at hact hlogged haj htlu hframe
    rw [← htlu] at hclamped haj hact
    exact ⟨_, live_takeRequest_of_acted h hact, State.answer_same_of_acted hframe (by decide) _, htlu.trans hx,
      c.clamped, haj, hclamped, State.answer_replied_of_logged hlogged _⟩

end Sys2Proof.Machine
end

section
/-! Staged settings, the store decision, and the requests of the journal. -/

namespace Sys2Proof.Machine

/-! ## SERVO_CONFIG and TRACE_CONFIG (R5, R169) -/

theorem clampServo_clamped (gp gi threshold : Nat) :
    (clampServo gp gi threshold).clamped =
      decide ((⟨max 0 (min 1000 gp), max 0 (min 250 gi), max 10000 (min 10000000 threshold)⟩ : Servo) ≠
        ⟨gp, gi, threshold⟩) := by
  rw [Bool.eq_iff_iff, decide_eq_true_iff]
  simp only [clampServo, Bool.or_eq_true, clampQ_clamped_iff, ne_eq, Servo.mk.injEq, not_and_or, or_assoc]

theorem clampTrace_clamped (growth advisory limit interval : Nat) :
    (clampTrace growth advisory limit interval).clamped =
      decide ((⟨max 1 (min 10000 growth),
          min (max 1000 (min 1000000 advisory)) (max 1000 (min 1000000 limit)), max 1000 (min 1000000 limit),
          max 10 (min 3600 interval)⟩ : Trace) ≠ ⟨growth, advisory, limit, interval⟩) := by
  rw [Bool.eq_iff_iff, decide_eq_true_iff]
  simp only [clampTrace, Bool.or_eq_true, clampQ_clamped_iff, decide_eq_true_iff, ne_eq, Trace.mk.injEq, not_and_or,
    or_assoc]
  exact or_congr_right or_left_comm

/-- A request that stages a record in a slot of TB: the frame, the record and the reply. -/
theorem State.staged {s : State} {kind : Nat} {q : ControlRequest} (h : s.CanTake kind q) {tb : TimeBase}
    {code : Byte} {clamped : Bool} {bytes : List Byte} {fields : List Fld} {act : List Byte → State → Acted}
    (hact : act q.payload s.beginService =
      (State.configChange { s.beginService with tb := tb } code clamped true bytes).says (okStatus clamped) fields)
    (hd : tb.dating = s.tb.dating) :
    ∃ t, live s (takeRequest kind act) = .next t ∧ s.SameBut t [.tb, .aj, .clu] ∧ t.tb = tb ∧
      t.aj = (s.configChange code clamped true bytes).aj ∧ s.Replied t q (replyPayload (okStatus clamped) fields) := by
  have htb : s.beginService.SameBut { s.beginService with tb := tb } [.tb] := by
    intro b hb
    cases b with
    | mon r => cases r <;> rfl
    | tb => exact absurd hb (by decide)
    | _ => rfl
  have hframe : s.beginService.SameBut (State.configChange { s.beginService with tb := tb } code clamped true bytes)
      [.tb, .aj, .clu] := (htb.mono (by decide)).trans ((State.admin_same _ _).mono (by decide))
  have hlogged : s.beginService.Logged (State.configChange { s.beginService with tb := tb } code clamped true bytes) :=
    ((State.Logged.refl s.beginService).setTb tb).configChange _ _ _ _
  exact ⟨_, live_takeRequest_of_acted h hact, State.answer_same_of_acted hframe (by decide) _,
    State.admin_same _ _ .tb (by decide), State.admin_aj_congr (s := { s.beginService with tb := tb }) (t := s) rfl hd _, State.answer_replied_of_logged hlogged _⟩

/-- Settles O47: both requests clamp and stage in the same way. -/
theorem servoAndTraceSettingsAreStaged : Obligations.ServoAndTraceSettingsAreStaged := by
  intro s q
  refine ⟨fun h => ?_, fun h => ?_⟩
  · intro v clamped
    have hv : (clampServo (field q.payload 0 2) (field q.payload 2 2) (field q.payload 4 4)).value = v := rfl
    have hclamped : (clampServo (field q.payload 0 2) (field q.payload 2 2) (field q.payload 4 4)).clamped = clamped :=
      clampServo_clamped _ _ _
    refine State.staged h (tb := { s.tb with servo := s.tb.servo.stage v }) ?_ rfl
    rw [servoConfig, hv, hclamped]
    rfl
  · intro limit v clamped
    obtain ⟨c, hc⟩ : ∃ c, c = clampTrace (field q.payload 0 2) (field q.payload 2 4) (field q.payload 6 4)
      (field q.payload 10 2) := ⟨_, rfl⟩
    have hv : c.value = v := by rw [hc]; rfl
    have hclamped : c.clamped = clamped := by rw [hc]; exact clampTrace_clamped _ _ _ _
    refine State.staged h (tb := { s.tb with trace := s.tb.trace.stage v }) ?_ rfl
    rw [traceConfig, ← hc, ← hv, ← hclamped]
    rfl

/-! ## The store decision (R143 to R147) -/

theorem Selector.hits_iff {x : Selector} {key : Nat} : x.hits key = true ↔ x.on = true ∧ ((key ^^^ x.code) &&& x.mask) = 0 := by
  simp only [Selector.hits, Bool.and_eq_true, decide_eq_true_eq]
  exact Iff.rfl

theorem Selectors.offers_eq_false_iff {x : Selectors} {key : Nat} :
    x.offers key = false ↔ x.first.hits key = false ∧ (x.mode = .dual → x.second.hits key = false) := by
  cases h : x.mode <;> simp [Selectors.offers, h]

theorem StampRecord.selectable_iff {r : StampRecord} :
    r.selectable = true ↔ r.late = false ∧ (r.phase = .continuous ∨ r.phase = .abandoned) := by
  simp [StampRecord.selectable]

/-- R147: a stamp is passed over when the selectors apply to it and do not offer its key. -/
theorem Journal.passesOver_iff {j : Journal} {b : Body} :
    j.passesOver b = true ↔ ∃ seq dating r, b = .stamp seq dating r ∧ r.late = false ∧
      (r.phase = .continuous ∨ r.phase = .abandoned) ∧ j.selectors.first.hits (selectionKey r) = false ∧
      (j.selectors.mode = .dual → j.selectors.second.hits (selectionKey r) = false) := by
  constructor
  · intro h
    cases b with
    | stamp seq dating r =>
      simp only [Journal.passesOver, Bool.and_eq_true, Bool.not_eq_true'] at h
      obtain ⟨hsel, hoff⟩ := h
      obtain ⟨hlate, hphase⟩ := StampRecord.selectable_iff.mp hsel
      obtain ⟨hfirst, hsecond⟩ := Selectors.offers_eq_false_iff.mp hoff
      exact ⟨seq, dating, r, rfl, hlate, hphase, hfirst, hsecond⟩
    | _ => exact absurd h (by simp [Journal.passesOver])
  · rintro ⟨seq, dating, r, rfl, hlate, hphase, hfirst, hsecond⟩
    simp only [Journal.passesOver, Bool.and_eq_true, Bool.not_eq_true']
    exact ⟨StampRecord.selectable_iff.mpr ⟨hlate, hphase⟩, Selectors.offers_eq_false_iff.mpr ⟨hfirst, hsecond⟩⟩

section
variable {s : State} {b : Body}

theorem State.submit_of_passedOver (h : s.aj.passesOver b = true) :
    s.submit b = { s with aj := { s.aj with notSelected := bump s.aj.notSelected } } := by
  have hdec : s.aj.decision b = .notSelected := if_pos h
  rw [State.submit, hdec]

theorem State.submit_of_room {n : Nat} (h : s.aj.passesOver b = false) (hn : s.aj.next = some n)
    (hroom : b.kind.tier + b.size ≤ 32768 - s.aj.used) : s.submit b = s.store n b := by
  have hfits : s.aj.fits b = true := decide_eq_true hroom
  have hdec : s.aj.decision b = .recorded n := by
    rw [Journal.decision, if_neg (by simp [h]), hn]
    exact if_pos hfits
  rw [State.submit, hdec]

theorem State.submit_of_lost (h : s.aj.passesOver b = false)
    (hlost : s.aj.next = none ∨ 32768 - s.aj.used < b.kind.tier + b.size) : s.submit b = s.lose b.kind b.seq := by
  have hdec : s.aj.decision b = .lost := by
    rw [Journal.decision, if_neg (by simp [h])]
    cases hn : s.aj.next with
    | none => rfl
    | some n =>
      have hno : ¬ s.aj.fits b = true := by
        rw [Journal.fits, decide_eq_true_eq]
        rcases hlost with hnone | hlt
        · exact absurd (hn.symm.trans hnone) (by simp)
        · exact Nat.not_le.mpr hlt
      exact if_neg hno
  rw [State.submit, hdec]

end

theorem fires_iff {st : LevelState} {level before after : Nat} :
    fires st level before after = true ↔ st = .armed ∧ before < level ∧ level ≤ after := by
  simp [fires, and_assoc]

theorem levelAfterStore_eq (st : LevelState) (level before after : Nat) :
    levelAfterStore st level before after = if st = .armed ∧ before < level ∧ level ≤ after then .fired else st := by
  unfold levelAfterStore
  exact if_congr fires_iff rfl rfl

/-- A level notice changes at a store exactly when it fires. -/
theorem levelAfterStore_ne_iff {st : LevelState} {level before after : Nat} :
    st ≠ levelAfterStore st level before after ↔ st = .armed ∧ before < level ∧ level ≤ after := by
  rw [levelAfterStore_eq]
  split
  · next h =>
    rw [h.1]
    simp [h.2]
  · next h => simpa using h

/-- The JOURNAL notices of a store that takes the used bytes from `before` to `after`. -/
theorem Control.levelNotices_eq (c : Control) {old new : Journal} {before after : Nat}
    (h50 : new.level50 = levelAfterStore old.level50 16384 before after)
    (h75 : new.level75 = levelAfterStore old.level75 24576 before after) (dating : Nat) :
    c.levelNotices old new dating =
      let c1 := if old.level50 = .armed ∧ before < 16384 ∧ 16384 ≤ after then
        c.notice .journal (journalNotice .level50 new dating none none) else c
      if old.level75 = .armed ∧ before < 24576 ∧ 24576 ≤ after then
        c1.notice .journal (journalNotice .level75 new dating none none) else c1 := by
  have k50 := levelAfterStore_ne_iff (st := old.level50) (level := 16384) (before := before) (after := after)
  have k75 := levelAfterStore_ne_iff (st := old.level75) (level := 24576) (before := before) (after := after)
  rw [← h50] at k50
  rw [← h75] at k75
  unfold Control.levelNotices
  simp only [k50, k75]

theorem Journal.newest_place {j : Journal} {n : Nat} (h : n ≤ 4294967295) (b : Body) : (j.place n b).newest = n := by
  unfold Journal.newest Journal.place nextNumber max32
  dsimp only
  by_cases hlt : n < 4294967295
  · rw [if_pos hlt]
    rfl
  · rw [if_neg hlt]
    exact (Nat.le_antisymm h (Nat.not_lt.mp hlt)).symm

theorem Tally.isZero_iff {t : Tally} : t.isZero = true ↔ t.stamps = 0 ∧ t.others = 0 := by
  simp [Tally.isZero]

theorem spanAfterLoss_eq (span : Option LostSpan) (seq : Option Nat) :
    spanAfterLoss span seq = match seq with
      | none => span
      | some n => some ⟨(span.map LostSpan.first).getD n, n⟩ := by
  cases seq with
  | none => rfl
  | some n => cases span <;> rfl

/-- Settles O53: by whether the record is passed over, and by the number and the room left. -/
theorem aRecordIsStoredLostOrPassedOver : Obligations.ARecordIsStoredLostOrPassedOver := by
  intro s b j t key hit passedOver
  have hpass : passedOver ↔ s.aj.passesOver b = true := by
    rw [Journal.passesOver_iff]
    have hhit : ∀ (x : Selector) (r : StampRecord), ¬ hit x r ↔ x.hits (selectionKey r) = false := fun x r => by
      rw [← Bool.not_eq_true, Selector.hits_iff]
      exact Iff.rfl
    constructor
    · rintro ⟨seq, dating, r, hb, hlate, hphase, hfirst, hsecond⟩
      exact ⟨seq, dating, r, hb, hlate, hphase, (hhit _ r).mp hfirst, fun hd => (hhit _ r).mp (hsecond hd)⟩
    · rintro ⟨seq, dating, r, hb, hlate, hphase, hfirst, hsecond⟩
      exact ⟨seq, dating, r, hb, hlate, hphase, (hhit _ r).mpr hfirst, fun hd => (hhit _ r).mpr (hsecond hd)⟩
  refine ⟨s.submit_same b, fun h => State.submit_of_passedOver (hpass.mp h), fun h n hn hroom => ?_, fun h hlost => ?_⟩
  · have ht : t = s.store n b := State.submit_of_room (Bool.eq_false_iff.mpr fun k => h (hpass.mpr k)) hn hroom
    rw [ht]
    refine ⟨?_, ?_, fun hle => Journal.newest_place (j := s.aj) hle b⟩
    · unfold State.store Journal.fireLevels
      simp only [levelAfterStore_eq]
      rfl
    · exact Control.levelNotices_eq s.clu rfl rfl s.dating
  · have ht : t = s.lose b.kind b.seq := State.submit_of_lost (Bool.eq_false_iff.mpr fun k => h (hpass.mpr k)) hlost
    rw [ht]
    refine ⟨?_, ?_⟩
    · unfold State.lose Tally.lose
      simp only [spanAfterLoss_eq]
      rfl
    · unfold State.lose
      dsimp only
      rw [if_congr (Tally.isZero_iff (t := s.aj.tally)) rfl rfl]
      rfl

end Sys2Proof.Machine
end

section
/-! The requests of the journal: JOURNAL_READ, JOURNAL_RELEASE and JOURNAL_MARK. -/

namespace Sys2Proof.Machine

/-! ## Consecutive numbers (R141) -/

section
variable {m n : Nat} {records : List Record}

/-- Records of consecutive numbers from `m` lie within `m` and its number of records on. -/
theorem numbersFrom_mem (h : numbersFrom m records = true) {r : Record} (hr : r ∈ records) :
    m ≤ r.number ∧ r.number < m + records.length := by
  induction records generalizing m with
  | nil => exact absurd hr (by simp)
  | cons a as ih =>
    simp only [numbersFrom, Bool.and_eq_true, decide_eq_true_eq] at h
    obtain ⟨ha, has⟩ := h
    rw [List.length_cons]
    rcases List.mem_cons.mp hr with rfl | hr
    · omega
    · have := ih has hr
      omega

theorem numbersFrom_takeWhile (h : numbersFrom m records = true) (n : Nat) :
    records.takeWhile (fun r => decide (r.number ≤ n)) = records.filter fun r => decide (r.number ≤ n) := by
  induction records generalizing m with
  | nil => rfl
  | cons a as ih =>
    simp only [numbersFrom, Bool.and_eq_true, decide_eq_true_eq] at h
    obtain ⟨ha, has⟩ := h
    by_cases hle : a.number ≤ n
    · simp only [List.takeWhile_cons, List.filter_cons, hle, decide_true, if_true, ih has]
    · have hnone : as.filter (fun r => decide (r.number ≤ n)) = [] := by
        rw [List.filter_eq_nil_iff]
        intro r hr
        have := numbersFrom_mem has hr
        simp only [decide_eq_true_eq]
        omega
      simp [hle, hnone]

theorem numbersFrom_dropWhile_filter (h : numbersFrom m records = true) (n : Nat) :
    records.dropWhile (fun r => decide (r.number ≤ n)) = records.filter fun r => decide (n < r.number) := by
  induction records generalizing m with
  | nil => rfl
  | cons a as ih =>
    simp only [numbersFrom, Bool.and_eq_true, decide_eq_true_eq] at h
    obtain ⟨ha, has⟩ := h
    by_cases hle : a.number ≤ n
    · simp only [List.dropWhile_cons, List.filter_cons, hle, Nat.not_lt.mpr hle, decide_true, decide_false, if_true,
        Bool.false_eq_true, if_false, ih has]
    · have hall : as.filter (fun r => decide (n < r.number)) = as := by
        rw [List.filter_eq_self]
        intro r hr
        have := numbersFrom_mem has hr
        simp only [decide_eq_true_eq]
        omega
      simp [hle, Nat.lt_of_not_le hle, hall]

/-- A number among those of consecutive records is the number of the record that the earlier ones leave. -/
theorem numbersFrom_dropWhile_front (h : numbersFrom m records = true) (hlo : m ≤ n) (hhi : n < m + records.length) :
    ∃ r rest, records.dropWhile (fun r => decide (r.number < n)) = r :: rest ∧ r.number = n := by
  induction records generalizing m with
  | nil => exact absurd hhi (by simpa using hlo)
  | cons a as ih =>
    simp only [numbersFrom, Bool.and_eq_true, decide_eq_true_eq] at h
    obtain ⟨ha, has⟩ := h
    rw [List.length_cons] at hhi
    by_cases hlt : a.number < n
    · simp only [List.dropWhile_cons, hlt, decide_true, if_true]
      exact ih has (by omega) (by omega)
    · refine ⟨a, as, ?_, by omega⟩
      simp [hlt]

end

/-! ## Reading (R150 to R152) -/

theorem totalSize_cons (r : Record) (rs : List Record) : totalSize (r :: rs) = r.body.size + totalSize rs := rfl

section
variable {count room : Nat} {records : List Record}

theorem takeFitting_prefix : takeFitting count room records <+: records := by
  induction records generalizing count room with
  | nil => cases count <;> exact List.nil_prefix
  | cons r rs ih =>
    cases count with
    | zero => exact List.nil_prefix
    | succ count =>
      unfold takeFitting
      split
      · exact (List.prefix_cons_inj r).mpr ih
      · exact List.nil_prefix

theorem takeFitting_length : (takeFitting count room records).length ≤ count := by
  induction records generalizing count room with
  | nil => cases count <;> exact Nat.zero_le _
  | cons r rs ih =>
    cases count with
    | zero => exact Nat.zero_le _
    | succ count =>
      unfold takeFitting
      split
      · exact Nat.succ_le_succ ih
      · exact Nat.zero_le _

theorem takeFitting_totalSize : totalSize (takeFitting count room records) ≤ room := by
  induction records generalizing count room with
  | nil => cases count <;> exact Nat.zero_le _
  | cons r rs ih =>
    cases count with
    | zero => exact Nat.zero_le _
    | succ count =>
      unfold takeFitting
      split
      · next h =>
        have := ih (count := count) (room := room - r.body.size)
        rw [totalSize_cons]
        omega
      · exact Nat.zero_le _

/-- The taking stops at the count, or at a record that does not fit. -/
theorem takeFitting_maximal {r : Record} {rest : List Record}
    (h : records = takeFitting count room records ++ r :: rest) :
    (takeFitting count room records).length = count ∨
      room < totalSize (takeFitting count room records) + r.body.size := by
  induction records generalizing count room with
  | nil => exact absurd h (by simp)
  | cons a as ih =>
    cases count with
    | zero => exact .inl rfl
    | succ count =>
      by_cases hfit : a.body.size ≤ room
      · have htake : takeFitting (count + 1) room (a :: as) = a :: takeFitting count (room - a.body.size) as := if_pos hfit
        rw [htake, List.cons_append, List.cons.injEq] at h
        rw [htake, totalSize_cons, List.length_cons]
        rcases ih h.2 with hl | hr
        · exact .inl (by omega)
        · exact .inr (by omega)
      · have htake : takeFitting (count + 1) room (a :: as) = [] := if_neg hfit
        rw [htake, List.nil_append, List.cons.injEq] at h
        rw [htake, ← h.1]
        have : totalSize [] = 0 := rfl
        exact .inr (by omega)

theorem takeFitting_cons {r : Record} {rest : List Record} (hcount : 1 ≤ count) (hfit : r.body.size ≤ room) :
    takeFitting count room (r :: rest) = r :: takeFitting (count - 1) (room - r.body.size) rest := by
  obtain ⟨k, rfl⟩ := Nat.exists_eq_add_of_le' hcount
  exact if_pos hfit

end

section
variable {j : Journal} {start count : Nat}

theorem Journal.readRecords_of_outside (h : start < j.oldest ∨ j.newest < start) : j.readRecords start count = [] :=
  if_pos h

theorem Journal.readRecords_of_empty (h : j.pool = []) : j.readRecords start count = [] := by
  unfold Journal.readRecords Journal.readFrom
  split
  · rfl
  · rw [h, List.dropWhile_nil]
    cases count <;> rfl

theorem Journal.readRecords_of_inside (hlo : j.oldest ≤ start) (hhi : start ≤ j.newest) :
    j.readRecords start count = takeFitting count 1012 (j.pool.dropWhile fun r => decide (r.number < start)) :=
  if_neg (by omega)

theorem Journal.readStatus_of_released {clamped : Bool} {records : List Record}
    (h : start < j.oldest ∨ j.pool = [] ∧ start ≤ j.newest) : j.readStatus start clamped records = .released := if_pos h

theorem Journal.readStatus_of_not_released {clamped : Bool} {records : List Record}
    (h : ¬ (start < j.oldest ∨ j.pool = [] ∧ start ≤ j.newest)) :
    j.readStatus start clamped records = if records ≠ [] ∧ clamped = true then .okClamped else .ok := by
  unfold Journal.readStatus okStatus
  rw [if_neg h]
  cases records <;> cases clamped <;> rfl

end

/-- A request whose owner changes AJ alone. -/
theorem live_takeRequest_of_aj {s : State} {kind : Nat} {q : ControlRequest} {act : List Byte → State → Acted}
    {j : Journal} {payload : List Byte} (h : s.CanTake kind q)
    (hact : act q.payload s.beginService = ⟨{ s.beginService with aj := j }, payload⟩) :
    live s (takeRequest kind act) = .next (State.answered { s with aj := j } q payload) :=
  (live_takeRequest_of_acted h hact).trans
    (congrArg _ (State.beginService_answer (s := { s with aj := j }) (kind := kind) h payload))

/-- The queue does not matter to a notice. -/
theorem Control.notice_queue (c : Control) (x : List ControlRequest) (cls : NoticeClass) (fields : List Fld) :
    Control.notice { c with queue := x } cls fields = { c.notice cls fields with queue := x } := by
  unfold Control.notice
  dsimp only
  split
  · split <;> rfl
  · rfl

/-- Taking a request into service and raising a notice do not depend on their order. -/
theorem State.beginService_notice (s : State) (cls : NoticeClass) (fields : List Fld) :
    s.beginService.notice cls fields = (s.notice cls fields).beginService := by
  obtain ⟨hqueue, _, _, _, _, _, _, _⟩ := s.clu.notice_keeps cls fields
  have hclu := s.clu.notice_queue (serveFront s.clu.queue) cls fields
  rw [← hqueue] at hclu
  exact congrArg (fun c : Control => ({ s with clu := c } : State))
    ((congrArg (fun qs => Control.notice { s.clu with queue := serveFront qs } cls fields) hqueue.symm).trans hclu)

/-- A request whose owner changes AJ and raises one notice. -/
theorem live_takeRequest_of_noticed {s : State} {kind : Nat} {q : ControlRequest} {act : List Byte → State → Acted}
    {j : Journal} {payload : List Byte} {cls : NoticeClass} {fields : List Fld} (h : s.CanTake kind q)
    (hact : act q.payload s.beginService =
      ⟨{ s.beginService with aj := j, clu := s.beginService.clu.notice cls fields }, payload⟩) :
    live s (takeRequest kind act) =
      .next (State.answered { s with aj := j, clu := s.clu.notice cls fields } q payload) := by
  obtain ⟨hqueue, hreplies, _, _, _, _, _, _⟩ := s.clu.notice_keeps cls fields
  have htake : State.CanTake { s with aj := j, clu := s.clu.notice cls fields } kind q := by
    obtain ⟨hrun, hhead, hst, hkind, hlen, hroom⟩ := h
    exact ⟨hrun, (congrArg List.head? hqueue).trans hhead, hst, hkind, hlen, (congrArg List.length hreplies).trans_lt hroom⟩
  have hbegin := State.beginService_notice { s with aj := j } cls fields
  rw [show ({ s.beginService with aj := j, clu := s.beginService.clu.notice cls fields } : State) =
    State.beginService { s with aj := j, clu := s.clu.notice cls fields } from hbegin] at hact
  exact (live_takeRequest_of_acted h hact).trans (congrArg _ (State.beginService_answer htake payload))

/-! ## The GAP step (R154, R155) -/

theorem Journal.gapStep_of_zero {j : Journal} (h : j.tally.stamps = 0 ∧ j.tally.others = 0) : j.gapStep = .nothing :=
  if_pos (Tally.isZero_iff.mpr h)

theorem Journal.gapStep_of_room {j : Journal} {k : Nat} (h : ¬ (j.tally.stamps = 0 ∧ j.tally.others = 0))
    (hk : j.next = some k) (hroom : j.used + 36 ≤ 32768) : j.gapStep = .written k := by
  have hfits : j.fits (.gap j.tally) = true :=
    decide_eq_true (show 0 + 36 ≤ 32768 - j.used by omega)
  rw [Journal.gapStep, if_neg (fun hz => h (Tally.isZero_iff.mp hz)), hk]
  exact if_pos hfits

theorem Journal.gapStep_of_none {j : Journal} (h : ¬ (j.tally.stamps = 0 ∧ j.tally.others = 0))
    (hno : j.next = none ∨ 32768 < j.used + 36) : j.gapStep = .deferred := by
  rw [Journal.gapStep, if_neg (fun hz => h (Tally.isZero_iff.mp hz))]
  cases hn : j.next with
  | none => rfl
  | some k =>
    have hfits : ¬ j.fits (.gap j.tally) = true := by
      rw [Journal.fits, decide_eq_true_eq]
      rcases hno with hnone | hlt
      · exact absurd (hn.symm.trans hnone) (by simp)
      · exact show ¬ 0 + 36 ≤ 32768 - j.used by omega
    exact if_neg hfits

theorem State.gap_of_nothing {s : State} (h : s.aj.gapStep = .nothing) : s.gap = s := by
  rw [State.gap, h]

theorem State.gap_of_written {s : State} {k : Nat} (h : s.aj.gapStep = .written k) :
    s.gap =
      { s.store k (.gap s.aj.tally) with
        aj := { (s.store k (.gap s.aj.tally)).aj with tally := {}, gapWritten := bump s.aj.gapWritten } } := by
  rw [State.gap, h]
  rfl

theorem State.gap_of_deferred {s : State} (h : s.aj.gapStep = .deferred) :
    s.gap =
      { s with
        aj := { s.aj with gapDeferred := bump s.aj.gapDeferred }
        clu := s.clu.notice .journal
          (journalNotice .gapDeferred { s.aj with gapDeferred := bump s.aj.gapDeferred } s.dating none none) } := by
  rw [State.gap, h]

/-- What a release leaves, in terms of the numbers kept and gone. -/
theorem Journal.release_eq {j : Journal} (h : j.Wf) (n : Nat) :
    j.release n =
      { j with
        pool := j.pool.filter fun r => decide (n < r.number)
        used := totalSize (j.pool.filter fun r => decide (n < r.number))
        level50 :=
          if totalSize (j.pool.filter fun r => decide (n < r.number)) ≤ 13107 then .armed else j.level50
        level75 :=
          if totalSize (j.pool.filter fun r => decide (n < r.number)) ≤ 21299 then .armed else j.level75
        released := sat32 (j.released + (j.pool.filter fun r => decide (r.number ≤ n)).length) } := by
  obtain ⟨hused, _, hnumbers, _, _⟩ := h
  have hsize := totalSize_takeWhile (fun r => decide (r.number ≤ n)) j.pool
  rw [numbersFrom_takeWhile hnumbers, numbersFrom_dropWhile_filter hnumbers] at hsize
  have hleft : j.used - totalSize (j.pool.filter fun r => decide (r.number ≤ n)) =
      totalSize (j.pool.filter fun r => decide (n < r.number)) := by omega
  unfold Journal.release Journal.releasedBy levelAfterRelease
  dsimp only
  rw [numbersFrom_takeWhile hnumbers, numbersFrom_dropWhile_filter hnumbers, hleft]
  rfl

theorem Journal.releasedBy_eq {j : Journal} (h : j.Wf) (n : Nat) :
    j.releasedBy n = j.pool.filter fun r => decide (r.number ≤ n) := by
  obtain ⟨_, _, hnumbers, _, _⟩ := h
  exact numbersFrom_takeWhile hnumbers n

theorem Journal.oldest_eq (j : Journal) : j.oldest = (j.pool.head?.map Record.number).getD 0 := by
  unfold Journal.oldest
  cases j.pool <;> rfl

end Sys2Proof.Machine
end

section
/-! The requests of the journal, settled: what is read, released and marked. -/

namespace Sys2Proof.Machine

/-! ## JOURNAL_READ -/

/-- A read of a held number returns records, the number's own first. -/
theorem Journal.readRecords_front {j : Journal} (hwf : j.Wf) (hsize : ∀ r ∈ j.pool, r.body.size ≤ 104) {start count : Nat}
    (hcount : 1 ≤ count) (hpool : j.pool ≠ []) (hlo : j.oldest ≤ start) (hhi : start ≤ j.newest) :
    ∃ r rest, j.readRecords start count = r :: rest ∧ r.number = start := by
  obtain ⟨_, _, hnumbers, _, hspan⟩ := hwf
  obtain ⟨_, hlast⟩ := hspan hpool
  obtain ⟨r, rest, hdrop, hr⟩ := numbersFrom_dropWhile_front hnumbers hlo (by omega)
  have hmem : r ∈ j.pool := (List.dropWhile_sublist _).subset (hdrop ▸ List.mem_cons_self)
  have hfit := hsize r hmem
  exact ⟨r, _, (Journal.readRecords_of_inside hlo hhi).trans (hdrop ▸ takeFitting_cons hcount (by omega)), hr⟩

/-- R150 to R152, for a request that CLU can take. -/
theorem journalRead_effect {s : State} {q : ControlRequest} (h : s.CanTake 0x17 q) :
    let start := field q.payload 0 4
    let asked := field q.payload 4 1
    let count := max 1 (min 64 asked)
    let held := s.aj.pool.dropWhile fun r => decide (r.number < start)
    let released := start < s.aj.oldest ∨ s.aj.pool = [] ∧ start ≤ s.aj.newest
    ∃ records : List Record,
      (let status : Byte := if released then 10#8 else if records ≠ [] ∧ count ≠ asked then 1#8 else 0#8
       exec .journalRead s = .next ((State.answered { s with aj := { s.aj with readsServed := bump s.aj.readsServed } }
         q ([status] ++ leBytes 2 s.epoch ++ leBytes 4 s.aj.oldest ++ leBytes 4 s.aj.newest ++
           leBytes 1 records.length ++ records.flatMap (Record.readCopy s.gs.groups))))) ∧
      (released ∨ s.aj.newest < start → records = []) ∧
      (¬ released → start ≤ s.aj.newest →
        records <+: held ∧ records.length ≤ count ∧ totalSize records ≤ 1012 ∧
        (∀ r rest, held = records ++ r :: rest → records.length = count ∨ 1012 < totalSize records + r.body.size) ∧
        (s.aj.Wf → s.RecordsFit → ∃ r rest, records = r :: rest ∧ r.number = start)) := by
  intro start asked count held released
  refine ⟨s.aj.readRecords start count, ?_, fun hout => ?_, fun hin hle => ?_⟩
  · intro status
    refine live_takeRequest_of_aj h ?_
    have hclamped : (clampQ 1 64 asked).clamped = true ↔ count ≠ asked := clampQ_clamped_iff
    have hstatus : leBytes 1 (Status.toCode (s.aj.readStatus start (clampQ 1 64 asked).clamped
        (s.aj.readRecords start count))) = [status] := by
      by_cases hr : released
      · rw [Journal.readStatus_of_released hr, show status = 10#8 from if_pos hr]
        rfl
      · rw [Journal.readStatus_of_not_released hr, if_congr (and_congr Iff.rfl hclamped) rfl rfl,
          show status = _ from if_neg hr]
        split <;> rfl
    refine congrArg (Acted.mk _) ?_
    show leBytes 1 (Status.toCode (s.aj.readStatus start (clampQ 1 64 asked).clamped
        (s.aj.readRecords start count))) ++ _ ++ _ ++ _ ++ _ ++ _ = _
    rw [hstatus]
    rfl
  · rcases hout with (hlt | ⟨hempty, _⟩) | hgt
    · exact Journal.readRecords_of_outside (.inl hlt)
    · exact Journal.readRecords_of_empty hempty
    · exact Journal.readRecords_of_outside (.inr hgt)
  · have hlo : s.aj.oldest ≤ start := Nat.not_lt.mp fun k => hin (.inl k)
    have hpool : s.aj.pool ≠ [] := fun k => hin (.inr ⟨k, hle⟩)
    have hread := Journal.readRecords_of_inside (count := count) hlo hle
    rw [hread]
    refine ⟨takeFitting_prefix, takeFitting_length, takeFitting_totalSize, fun r rest hrest => takeFitting_maximal hrest,
      fun hwf hfit => ?_⟩
    obtain ⟨_, hsize⟩ := hfit
    exact hread ▸ Journal.readRecords_front hwf hsize (show 1 ≤ max 1 (min 64 asked) by omega) hpool hlo hle

/-! ## JOURNAL_RELEASE -/

/-- The GAP step and the reply of a release, for a journal of the stated form. -/
theorem journalRelease_eq {s : State} (hwf : s.aj.Wf) (payload : List Byte) :
    journalRelease payload s =
      let n := min (field payload 0 4) s.aj.newest
      let s1 : State := { s with aj := s.aj.release n }
      (s1.gap).says (if s.aj.newest < field payload 0 4 then .okClamped else .ok)
        ([fx 4 (s.aj.pool.filter fun r => decide (r.number ≤ n)).length,
          fx 4 (totalSize (s.aj.pool.filter fun r => decide (r.number ≤ n))), fx 4 s1.gap.aj.oldest] ++
          gapFields s1.aj.gapStep) := by
  unfold journalRelease okStatus
  dsimp only
  rw [Journal.releasedBy_eq hwf]
  simp only [decide_eq_true_eq]

/-- The levels and the notices of the store of a GAP record, at most one of which fires. -/
theorem State.store_gap_levels {s : State} (k : Nat) (tally : Tally) :
    let t := s.store k (.gap tally)
    let fires (l : LevelState) (level : Nat) : Prop := l = .armed ∧ s.aj.used < level ∧ level ≤ s.aj.used + 36
    (fires s.aj.level50 16384 → t.aj.level50 = .fired ∧ t.aj.level75 = s.aj.level75 ∧
      t.clu = s.clu.notice .journal (journalNotice .level50 t.aj s.dating none none)) ∧
    (fires s.aj.level75 24576 → t.aj.level75 = .fired ∧ t.aj.level50 = s.aj.level50 ∧
      t.clu = s.clu.notice .journal (journalNotice .level75 t.aj s.dating none none)) ∧
    (¬ fires s.aj.level50 16384 → ¬ fires s.aj.level75 24576 →
      t.aj.level50 = s.aj.level50 ∧ t.aj.level75 = s.aj.level75 ∧ t.clu = s.clu) := by
  intro t fires
  have h50 : t.aj.level50 = if fires s.aj.level50 16384 then .fired else s.aj.level50 :=
    levelAfterStore_eq _ _ _ _
  have h75 : t.aj.level75 = if fires s.aj.level75 24576 then .fired else s.aj.level75 :=
    levelAfterStore_eq _ _ _ _
  have hclu : t.clu = if fires s.aj.level75 24576 then
      (if fires s.aj.level50 16384 then s.clu.notice .journal (journalNotice .level50 t.aj s.dating none none)
        else s.clu).notice .journal (journalNotice .level75 t.aj s.dating none none)
      else if fires s.aj.level50 16384 then s.clu.notice .journal (journalNotice .level50 t.aj s.dating none none)
        else s.clu := Control.levelNotices_eq s.clu rfl rfl s.dating
  rw [h50, h75, hclu]
  refine ⟨fun h => ?_, fun h => ?_, fun h k => ?_⟩
  · have hno : ¬ fires s.aj.level75 24576 := fun k => by
      have := h.2.1
      have := k.2.2
      omega
    simp only [if_pos h, if_neg hno, and_self]
  · have hno : ¬ fires s.aj.level50 16384 := fun k => by
      have := k.2.1
      have := h.2.2
      omega
    simp only [if_pos h, if_neg hno, and_self]
  · simp only [if_neg h, if_neg k, and_self]

/-- The oldest number held once a record has joined the pool. -/
theorem Journal.oldest_of_concat {j : Journal} {pool : List Record} {r : Record} (h : j.pool = pool ++ [r]) :
    j.oldest = if pool = [] then r.number else (pool.head?.map Record.number).getD 0 := by
  rw [Journal.oldest_eq, h]
  cases pool <;> rfl

/-- The fields of a JOURNAL notice after the store of a GAP record numbered `k` (R158). -/
def gapNoticeFields (s : State) (k code : Nat) : List Fld :=
  [fx 1 code, fx 4 (s.aj.used + 36), fx 4 (32768 - (s.aj.used + 36)), fx 4 (s.aj.pool.length + 1),
    fx 4 (if s.aj.pool = [] then k else (s.aj.pool.head?.map Record.number).getD 0), fx 4 k] ++
    tallyFields s.aj.tally ++ [fx 8 s.dating, fo 1 none, fo 8 none]

section
variable {s : State} {k : Nat}

theorem State.store_gap_oldest (s : State) (k : Nat) (tally : Tally) :
    (s.store k (.gap tally)).aj.oldest =
      if s.aj.pool = [] then k else (s.aj.pool.head?.map Record.number).getD 0 :=
  Journal.oldest_of_concat (r := ⟨k, chainWord k s.aj.chain (.gap tally), .gap tally⟩) rfl

theorem State.store_gap_notice (hk : k ≤ 4294967295) (cause : JournalCause) :
    journalNotice cause (s.store k (.gap s.aj.tally)).aj s.dating none none =
      gapNoticeFields s k (JournalCause.toCode cause) := by
  have hnewest : (s.store k (.gap s.aj.tally)).aj.newest = k :=
    Journal.newest_place (j := s.aj) hk (.gap s.aj.tally)
  have hlength : (s.store k (.gap s.aj.tally)).aj.pool.length = s.aj.pool.length + 1 := List.length_append
  unfold journalNotice gapNoticeFields
  rw [hnewest, hlength, State.store_gap_oldest]
  rfl

/-- R155: the journal once a GAP record is written. -/
theorem State.gap_written_aj (h : s.aj.gapStep = .written k) :
    s.gap.aj = { s.aj with
      pool := s.aj.pool ++ [⟨k, crc32 (recordBytes k s.aj.chain false (.gap s.aj.tally)), .gap s.aj.tally⟩]
      used := s.aj.used + 36
      next := if k < 4294967295 then some (k + 1) else none
      chain := crc32 (recordBytes k s.aj.chain false (.gap s.aj.tally))
      tally := ⟨0, 0, none⟩
      level50 := s.gap.aj.level50
      level75 := s.gap.aj.level75
      stored := { s.aj.stored with gap := bump s.aj.stored.gap }
      gapWritten := bump s.aj.gapWritten } := by
  rw [State.gap_of_written h]
  rfl

theorem State.gap_written_oldest (h : s.aj.gapStep = .written k) :
    s.gap.aj.oldest = if s.aj.pool = [] then k else (s.aj.pool.head?.map Record.number).getD 0 := by
  rw [State.gap_of_written h]
  exact State.store_gap_oldest s k s.aj.tally

/-- R157: the levels and the notices once a GAP record is written. -/
theorem State.gap_written_levels (h : s.aj.gapStep = .written k) (hk : k ≤ 4294967295) :
    let fires (l : LevelState) (level : Nat) : Prop := l = .armed ∧ s.aj.used < level ∧ level ≤ s.aj.used + 36
    (fires s.aj.level50 16384 → s.gap.aj.level50 = .fired ∧ s.gap.aj.level75 = s.aj.level75 ∧
      s.gap.clu = s.clu.notice .journal (gapNoticeFields s k 1)) ∧
    (fires s.aj.level75 24576 → s.gap.aj.level75 = .fired ∧ s.gap.aj.level50 = s.aj.level50 ∧
      s.gap.clu = s.clu.notice .journal (gapNoticeFields s k 2)) ∧
    (¬ fires s.aj.level50 16384 → ¬ fires s.aj.level75 24576 →
      s.gap.aj.level50 = s.aj.level50 ∧ s.gap.aj.level75 = s.aj.level75 ∧ s.gap.clu = s.clu) := by
  intro fires
  have hlevels := State.store_gap_levels (s := s) k s.aj.tally
  simp only [State.store_gap_notice hk] at hlevels
  rw [State.gap_of_written h]
  exact hlevels

theorem State.gap_written_sameRequests (h : s.aj.gapStep = .written k) : s.clu.SameRequests s.gap.clu := by
  rw [State.gap_of_written h]
  exact Control.levelNotices_sameRequests _ _ _ _

end

/-- The part in which the journal has released the records up to `n` for a request in service. -/
def State.releasing (s : State) (n : Nat) : State := { s.beginService with aj := s.aj.release n }

theorem State.releasing_same (s : State) (n : Nat) : s.SameBut (s.releasing n) [.aj, .clu] := by
  intro b hb
  cases b with
  | mon r => cases r <;> rfl
  | aj | clu => exact absurd hb (by decide)
  | _ => rfl

/-- R154 and R155 for a request that CLU can take: the reply follows the GAP step. -/
theorem journalRelease_act {s : State} (hwf : s.aj.Wf) (q : ControlRequest) {n : Nat}
    (hn : n = min (field q.payload 0 4) s.aj.newest) :
    journalRelease q.payload s.beginService =
      (s.releasing n).gap.says (if s.aj.newest < field q.payload 0 4 then .okClamped else .ok)
        ([fx 4 (s.aj.pool.filter fun r => decide (r.number ≤ n)).length,
          fx 4 (totalSize (s.aj.pool.filter fun r => decide (r.number ≤ n))), fx 4 (s.releasing n).gap.aj.oldest] ++
          gapFields (s.releasing n).aj.gapStep) := by
  rw [journalRelease_eq (s := s.beginService) hwf, hn]
  rfl

/-! ## JOURNAL_MARK and the copies of sealed records -/

theorem journalMark_of_canTake {s : State} {q : ControlRequest} (h : s.CanTake 0x19 q) :
    journalMark s = { s with
      clu := { s.clu with
        queue := { q with status := .inService } :: s.clu.queue.tail
        markers := s.clu.markers ++ [markerOf q.payload] } } := by
  obtain ⟨htake, rest, hrest⟩ := State.takeableOf_of_canTake h
  unfold journalMark
  rw [htake]
  simp only [State.beginService, serveFront, hrest, List.tail_cons]

/-- R152: an unrevealed record is withheld, and its copy shows neither draw nor T_end. -/
theorem readCopy_of_withheld {groups : Vector Group 16} {n t : Nat} {seq : Option Nat} {chain : BitVec 32}
    {r : AuctionRecord} (h : withholds groups (.auction seq t r) = true) (draw tEnd : Option Nat) :
    Record.readCopy groups ⟨n, chain, .auction seq t { r with draw := draw, tEnd := tEnd }⟩ =
      Record.readCopy groups ⟨n, chain, .auction seq t r⟩ := by
  have h' : withholds groups (.auction seq t { r with draw := draw, tEnd := tEnd }) = true := h
  unfold Record.readCopy
  dsimp only
  rw [h, h']
  rfl

theorem withholds_of_unrevealed {s : State} {seq : Option Nat} {t : Nat} {r : AuctionRecord}
    (h : (s.group r.group).revealed < r.number) (hclose : r.step ≠ .close) (habandon : r.step ≠ .abandon) :
    withholds s.gs.groups (.auction seq t r) = true := by
  have hsealed : (s.group r.group).isRevealed r.number = false := decide_eq_false (Nat.not_le.mpr h)
  unfold withholds
  cases hstep : r.step with
  | close => exact absurd hstep hclose
  | abandon => exact absurd hstep habandon
  | _ =>
    simp only [hstep]
    exact congrArg not hsealed

/-- Settles O54: by the request, and for a release by the GAP step. -/
theorem journalRequests : Obligations.JournalRequests := by
  intro s q
  refine ⟨fun h => journalRead_effect h, fun h hwf => ?_, fun h => ?_, ?_⟩
  · intro asked n kept gone used oldest zero rearmed released reply notice
    have hreleased : s.aj.release n = released := Journal.release_eq hwf n
    have hoffice : (s.releasing n).aj = released := hreleased
    have hact := journalRelease_act hwf q (n := n) rfl
    have holdest : released.oldest = oldest := Journal.oldest_eq released
    have hkeep : (s.releasing n).clu.SameNotices s.clu := s.beginService_sameNotices
    refine ⟨fun hzero => ?_, fun hzero k hk hroom => ?_, fun hzero hno => ?_⟩
    · have hstep : (s.releasing n).aj.gapStep = .nothing := by
        rw [hoffice]
        exact Journal.gapStep_of_zero hzero
      rw [State.gap_of_nothing hstep, hstep, hoffice, holdest] at hact
      exact live_takeRequest_of_aj h (hact.trans (by rw [State.releasing, hreleased]; rfl))
    · intro gap chain front fires
      have hk32 : k ≤ 4294967295 := by
        obtain ⟨_, _, _, hnext, _⟩ := hwf
        exact (hnext k hk).2
      have hstep : (s.releasing n).aj.gapStep = .written k := by
        rw [hoffice]
        exact Journal.gapStep_of_room hzero hk hroom
      have hfront := State.gap_written_oldest hstep
      have haj := State.gap_written_aj hstep
      obtain ⟨hfire50, hfire75, hquiet⟩ := State.gap_written_levels hstep hk32
      have hrequests := State.gap_written_sameRequests hstep
      have hframe : s.SameBut (s.releasing n).gap [.aj, .clu] := (s.releasing_same n).trans (State.gap_same _)
      rw [hoffice] at hfront haj hfire50 hfire75 hquiet
      rw [hfront, hstep] at hact
      have hnotice : ∀ code, (s.releasing n).clu.notice .journal (gapNoticeFields (s.releasing n) k code) =
          (s.releasing n).clu.notice .journal ([fx 1 code, fx 4 (used + 36), fx 4 (32768 - (used + 36)),
            fx 4 (kept.length + 1), fx 4 front, fx 4 k] ++ tallyFields s.aj.tally ++
            [fx 8 s.dating, fo 1 none, fo 8 none]) := fun code => by
        unfold gapNoticeFields
        rw [hoffice]
        rfl
      generalize (s.releasing n).gap = u at hact haj hfire50 hfire75 hquiet hrequests hframe
      refine ⟨_, live_takeRequest_of_acted h hact, hframe.trans ((u.answer_same q _).mono (by decide)),
        State.answer_replied_of_sameRequests hrequests _, haj, fun hf => ?_, fun hf => ?_, fun h50 h75 => ?_⟩
      · obtain ⟨h1, h2, h3⟩ := hfire50 hf
        exact ⟨h1, h2, (congrArg Control.notices (h3.trans (hnotice 1))).trans (hkeep.notice _ _).notices⟩
      · obtain ⟨h1, h2, h3⟩ := hfire75 hf
        exact ⟨h1, h2, (congrArg Control.notices (h3.trans (hnotice 2))).trans (hkeep.notice _ _).notices⟩
      · obtain ⟨h1, h2, h3⟩ := hquiet h50 h75
        exact ⟨h1, h2, (congrArg Control.notices h3).trans hkeep.notices⟩
    · have hstep : (s.releasing n).aj.gapStep = .deferred := by
        rw [hoffice]
        exact Journal.gapStep_of_none hzero hno
      have hdeferred := State.gap_of_deferred hstep
      have hsame : (s.releasing n).gap.aj.oldest = oldest := by
        rw [hdeferred, hoffice]
        exact holdest
      rw [hsame, hstep, hdeferred, hoffice] at hact
      refine live_takeRequest_of_noticed h (hact.trans ?_)
      unfold State.says
      refine congrArg (Acted.mk · _) ?_
      have hfields : journalNotice .gapDeferred { released with gapDeferred := bump released.gapDeferred }
          (s.releasing n).dating none none =
          [fx 1 4, fx 4 used, fx 4 (32768 - used), fx 4 kept.length, fx 4 oldest, fx 4 s.aj.newest] ++
            tallyFields s.aj.tally ++ [fx 8 s.dating, fo 1 none, fo 8 none] := by
        rw [← holdest]
        rfl
      rw [hfields]
      rfl
  · exact (live_of_running h.1 _).trans (congrArg _ (journalMark_of_canTake h))
  · intro n t seq chain r draw tEnd hrev hclose habandon
    exact readCopy_of_withheld (withholds_of_unrevealed hrev hclose habandon) draw tEnd

end Sys2Proof.Machine
end

section
/-! What the commands do to the Time Base: it keeps its ranges; dating time and the high-water mark do not fall; and raw
time falls only where no port is open for the clock. -/

namespace Sys2Proof.Machine

/-! ### Movements of the Time Base -/

/-- The Time Base in its ranges moves to ranges; dating time and the high-water mark do not fall, nor raw time while a
port is open for the clock. -/
def TimeBase.Moves (portOpen : Bool) (x y : TimeBase) : Prop :=
  x.Wf → y.Wf ∧ x.dating ≤ y.dating ∧ x.hwm ≤ y.hwm ∧ (portOpen = true → x.raw ≤ y.raw)

namespace TimeBase.Moves

variable {portOpen : Bool} {x y z : TimeBase}

theorem refl (x : TimeBase) : x.Moves portOpen x := fun h => ⟨h, le_rfl, le_rfl, fun _ => le_rfl⟩

theorem trans (h : x.Moves portOpen y) (k : y.Moves portOpen z) : x.Moves portOpen z := fun hx => by
  obtain ⟨hy, hd, hh, hr⟩ := h hx
  obtain ⟨hz, kd, kh, kr⟩ := k hy
  exact ⟨hz, hd.trans kd, hh.trans kh, fun ho => (hr ho).trans (kr ho)⟩

/-- The settings, the offset and the boundaries do not count. -/
theorem of_counters (hraw : y.raw = x.raw) (hfrac : y.frac = x.frac) (hhwm : y.hwm = x.hwm) (hrate : y.rate = x.rate)
    (hinc : y.inc = x.inc) : x.Moves portOpen y := fun h => by
  unfold TimeBase.Wf at h ⊢
  unfold TimeBase.dating
  rw [hraw, hfrac, hhwm, hrate, hinc]
  exact ⟨h, le_rfl, le_rfl, fun _ => le_rfl⟩

end TimeBase.Moves

namespace TimeBase

variable {portOpen : Bool} (x : TimeBase)

/-- R2: a rate word comes with its increment word. -/
theorem present_moves (r : Int) : x.Moves portOpen (x.present r) := fun h => by
  obtain ⟨hraw, hhwm, hfrac, _, _, _⟩ := h
  obtain ⟨hlo, hhi⟩ := clampRate_bounds r
  obtain ⟨hdlo, _⟩ := rateDelta_bounds hlo hhi
  refine ⟨⟨hraw, hhwm, hfrac, hlo, hhi, ?_⟩, le_rfl, le_rfl, fun _ => le_rfl⟩
  exact Int.toNat_of_nonneg (show 0 ≤ 34359738368 + rateDelta (clampRate r) by omega)

theorem raiseBoundary_moves (y : TimeBase) (h : x.Moves portOpen y) : x.Moves portOpen (raiseBoundary x y) := by
  rw [raiseBoundary_eq]
  exact h.trans (.of_counters rfl rfl rfl rfl rfl)

/-- R1: a tick raises raw time, or holds it at the top. -/
theorem tickOnce_moves : x.Moves portOpen x.tickOnce := by
  refine x.raiseBoundary_moves _ fun h => ?_
  obtain ⟨hraw, hhwm, hfrac, hlo, hhi, hinc⟩ := h
  rcases Nat.lt_or_ge max64 (x.raw + (x.frac + x.inc) / fracUnit) with hlt | hle
  · rw [advance_of_lt hlt]
    refine ⟨⟨le_rfl, hhwm, ?_, hlo, hhi, hinc⟩, max_le_max_right _ hraw, le_rfl, fun _ => hraw⟩
    show 4294967296 - 1 < 4294967296
    decide
  · rw [advance_of_le hle]
    refine ⟨⟨hle, hhwm, Nat.mod_lt _ (by decide), hlo, hhi, hinc⟩, max_le_max_right _ ?_, le_rfl, fun _ => ?_⟩ <;>
      exact Nat.le_add_right _ _

/-- R11: a grant's read raises the high-water mark to dating time. -/
theorem raised_moves : x.Moves portOpen x.raised := fun h => by
  obtain ⟨hraw, hhwm, hrest⟩ := h
  exact ⟨⟨hraw, max_le hraw hhwm, hrest⟩, le_max_right _ _, le_max_right _ _, fun _ => le_rfl⟩

/-- R7 and R9: a forward step raises raw time; a backward one, which no open port allows, raises the high-water mark to
dating time first. -/
theorem stepBy_moves {amount : Int} (h : amount < 0 → portOpen = false) : x.Moves portOpen (x.stepBy amount) := by
  refine x.raiseBoundary_moves _ fun hwf => ?_
  obtain ⟨hraw, hhwm, hrest⟩ := hwf
  have htop : stepTarget x.raw amount ≤ max64 := min_le_left _ _
  by_cases hneg : amount < 0
  · simp only [if_pos hneg]
    refine ⟨⟨htop, max_le hraw hhwm, hrest⟩, le_max_right _ _, le_max_right _ _, fun ho => ?_⟩
    exact absurd ((h hneg).symm.trans ho) (by decide)
  · have hup : x.raw ≤ stepTarget x.raw amount := le_min hraw (by omega)
    simp only [if_neg hneg]
    exact ⟨⟨htop, hhwm, hrest⟩, max_le_max_right _ hup, le_rfl, fun _ => hup⟩

theorem activate_moves : x.Moves portOpen x.activate := .of_counters rfl rfl rfl rfl rfl

theorem stageDelay_moves (r : Ref) (d : Int) : x.Moves portOpen (x.stageDelay r d) := by
  cases r <;> exact .of_counters rfl rfl rfl rfl rfl

/-- The four slots stay. -/
structure SameSlots (x y : TimeBase) : Prop where
  servo : y.servo = x.servo
  trace : y.trace = x.trace
  delayA : y.delayA = x.delayA
  delayB : y.delayB = x.delayB

theorem SameSlots.refl : x.SameSlots x := ⟨rfl, rfl, rfl, rfl⟩

theorem SameSlots.trans {x y z : TimeBase} (h : x.SameSlots y) (k : y.SameSlots z) : x.SameSlots z :=
  ⟨k.servo.trans h.servo, k.trace.trans h.trace, k.delayA.trans h.delayA, k.delayB.trans h.delayB⟩

theorem stepBy_sameSlots (amount : Int) : x.SameSlots (x.stepBy amount) := by
  unfold stepBy
  rw [raiseBoundary_eq]
  exact ⟨rfl, rfl, rfl, rfl⟩

theorem stepBy_utcOffset (amount : Int) : (x.stepBy amount).utcOffset = x.utcOffset := by
  unfold stepBy
  rw [raiseBoundary_eq]

end TimeBase

/-! ### The actions of DU on the Time Base -/

theorem State.anyPortOpen_of_same {s t : State} {bs : List Block} (h : s.SameBut t bs) (hbs : ∀ p, .port p ∉ bs) :
    t.anyPortOpen = s.anyPortOpen := by
  unfold State.anyPortOpen
  congr 1
  funext p
  exact congrArg Port.openForClock (h (.port p) (hbs p))

/-- What DU and the twin do to the Time Base: they move the counters, the rate and the offset, and write an offset only
with the property `P`. -/
structure TimeBase.DrivenTo (P : Int → Prop) (portOpen : Bool) (x y : TimeBase) : Prop where
  moves : x.Moves portOpen y
  slots : x.SameSlots y
  offset : P x.utcOffset → P y.utcOffset

theorem TimeBase.DrivenTo.refl {P : Int → Prop} {portOpen : Bool} (x : TimeBase) : x.DrivenTo P portOpen x :=
  ⟨.refl x, .refl x, id⟩

theorem TimeBase.DrivenTo.trans {P : Int → Prop} {portOpen : Bool} {x y z : TimeBase} (h : x.DrivenTo P portOpen y)
    (k : y.DrivenTo P portOpen z) : x.DrivenTo P portOpen z :=
  ⟨h.moves.trans k.moves, h.slots.trans k.slots, k.offset ∘ h.offset⟩

/-- `t` is reached from `s` by actions of DU and the twin. -/
structure State.Timed (P : Int → Prop) (s t : State) : Prop where
  same : s.SameBut t disciplineBlocks
  driven : s.tb.DrivenTo P s.anyPortOpen t.tb

/-- R7 and R9: a step that TB applies goes back only where no port is open for the clock. -/
theorem State.askStep_applied {s : State} {amount : Int} {b a : Nat} (h : s.askStep amount = .applied b a) :
    amount < 0 → s.anyPortOpen = false := by
  intro hneg
  unfold State.askStep stepAnswer at h
  by_contra hopen
  rw [if_pos ⟨hneg, by simpa using hopen⟩] at h
  exact StepAnswer.noConfusion h

/-- Every adopted offset has the property `P`. -/
def State.Adopts (P : Int → Prop) (s : State) : Prop := ∀ r o, (s.mon r).adopted = some o → P o

namespace State.Timed

variable {P : Int → Prop} {s t u : State}

theorem refl (s : State) : s.Timed P s := ⟨SameBut.refl s _, .refl _⟩

theorem trans (h : s.Timed P t) (k : t.Timed P u) : s.Timed P u := by
  have hopen : t.anyPortOpen = s.anyPortOpen := State.anyPortOpen_of_same h.same (by simp [disciplineBlocks])
  exact ⟨h.same.trans k.same, h.driven.trans (hopen ▸ k.driven)⟩

theorem anyPortOpen (h : s.Timed P t) : t.anyPortOpen = s.anyPortOpen :=
  State.anyPortOpen_of_same h.same (by simp [disciplineBlocks])

theorem mon (h : s.Timed P t) (r : Ref) : t.mon r = s.mon r := h.same (.mon r) (by simp [disciplineBlocks])

theorem adopts (h : s.Timed P t) (hs : s.Adopts P) : t.Adopts P := fun r o ho => hs r o (h.mon r ▸ ho)

theorem ite {c : Prop} [Decidable c] (h : s.Timed P t) (k : s.Timed P u) : s.Timed P (if c then t else u) := by
  split <;> assumption

/-- A step of TB that moves the counters and keeps the slots and the offset. -/
theorem of_tb (h : s.Timed P t) (k : t.SameBut u disciplineBlocks) (hmoves : t.tb.Moves t.anyPortOpen u.tb)
    (hslots : t.tb.SameSlots u.tb) (hoffset : u.tb.utcOffset = t.tb.utcOffset) : s.Timed P u :=
  h.trans ⟨k, hmoves, hslots, fun ho => hoffset ▸ ho⟩

/-- An action that leaves TB. -/
theorem of_same {bs : List Block} (h : s.Timed P t) (k : t.SameBut u bs) (hbs : bs ⊆ disciplineBlocks)
    (htb : .tb ∉ bs) : s.Timed P u := by
  have heq : u.tb = t.tb := k .tb htb
  exact h.of_tb (k.mono hbs) (heq ▸ .refl _) (heq ▸ .refl _) (congrArg TimeBase.utcOffset heq)

theorem setDu (h : s.Timed P t) (x : Discipline) : s.Timed P (t.setDu x) :=
  h.of_same (t.setDu_same x) (by decide) (by decide)

theorem notice (h : s.Timed P t) (cls : NoticeClass) (f : List Fld) : s.Timed P (t.notice cls f) :=
  h.of_same (t.notice_same cls f) (by decide) (by decide)

theorem clockRecord (h : s.Timed P t) (e : ClockEvent) : s.Timed P (t.clockRecord e) :=
  h.of_same (t.clockRecord_same e) (by decide) (by decide)

theorem markStale (h : s.Timed P t) : s.Timed P t.markStale := h.of_same t.markStale_same (by decide) (by decide)

theorem twinStepped (h : s.Timed P t) : s.Timed P t.twinStepped :=
  h.of_same t.twinStepped_same (by decide) (by decide)

theorem presentRate (h : s.Timed P t) (r : Int) : s.Timed P (t.presentRate r) :=
  h.of_tb ((t.presentRate_same r).mono (by decide)) (t.tb.present_moves r) ⟨rfl, rfl, rfl, rfl⟩ rfl

theorem stepTime (h : s.Timed P t) {amount : Int} (ha : amount < 0 → s.anyPortOpen = false) :
    s.Timed P (t.stepTime amount) := by
  have htb : t.SameBut { t with tb := t.tb.stepBy amount } [.tb] := State.tb_same t _
  refine twinStepped (h.of_tb (htb.mono (by decide)) (t.tb.stepBy_moves fun hneg => ?_) (t.tb.stepBy_sameSlots amount)
    (t.tb.stepBy_utcOffset amount))
  rw [h.anyPortOpen]
  exact ha hneg

theorem writeOffset (h : s.Timed P t) {o : Int} (ho : P o) (c : OffsetCause) : s.Timed P (t.writeOffset o c) := by
  have hwrite : t.Timed P { t with tb := { t.tb with utcOffset := o } } :=
    ⟨(State.tb_same t _).mono (by decide), .of_counters rfl rfl rfl rfl rfl, ⟨rfl, rfl, rfl, rfl⟩, fun _ => ho⟩
  exact ite h (clockRecord (h.trans hwrite) _)

/-! Selection (R39 to R41) -/

theorem enterHoldover (h : s.Timed P t) : s.Timed P t.enterHoldover := .clockRecord (.presentRate (.setDu h _) _) _

theorem loseSelection (h : s.Timed P t) : s.Timed P t.loseSelection := by
  unfold State.loseSelection
  split
  · exact h.enterHoldover
  · exact h.enterHoldover
  · exact .enterHoldover (.clockRecord h _)
  · exact h

theorem adoptSelection (h : s.Timed P t) (hs : s.Adopts P) (new : Option Ref) : s.Timed P (t.adoptSelection new) := by
  cases new with
  | none => exact .loseSelection (.setDu h _)
  | some r =>
    refine setDu ?_ _
    split
    · next o ho => exact h.writeOffset (h.adopts hs r o ho) _
    · exact h

theorem switchTo (h : s.Timed P t) (hs : s.Adopts P) (new : Option Ref) (cause : SwitchCause) :
    s.Timed P (t.switchTo new cause) :=
  .adoptSelection (.clockRecord (.setDu h _) _) hs new

theorem evaluateSelection (h : s.Timed P t) (hs : s.Adopts P) (cause : SwitchCause) :
    s.Timed P (t.evaluateSelection cause) :=
  .ite h (h.switchTo hs _ _)

theorem evaluateReport (h : s.Timed P t) (hs : s.Adopts P) (r : Ref) (before after : QualState) (cause : RefCause) :
    s.Timed P (t.evaluateReport r before after cause) :=
  .ite (.ite (.clockRecord h _) h) (h.switchTo hs _ _)

/-! Actions on a used mark (R44 to R48) -/

theorem servo (h : s.Timed P t) (e : Int) : s.Timed P (t.servo e) := .presentRate (.setDu h _) _

theorem enterLocked (h : s.Timed P t) (old : Mode) (m : UsedMark) : s.Timed P (t.enterLocked old m) := by
  unfold State.enterLocked
  cases old
  · exact .clockRecord (.setDu h _) _
  · exact .setDu h _
  · exact .setDu h _
  · exact .clockRecord (.setDu h _) _

theorem stepBack (h : s.Timed P t) {e : Int} (he : -e < 0 → s.anyPortOpen = false) (b a : Nat) :
    s.Timed P (t.stepBack e b a) := .markStale (.clockRecord (h.stepTime he) _)

/-- What an action leaves, with the state it takes where TB refuses the step. -/
theorem stepAndLock (h : s.Timed P t) (m : UsedMark) {orElse : State} (k : s.Timed P orElse) :
    s.Timed P (t.stepAndLock m orElse).state := by
  unfold State.stepAndLock
  split
  · next b a hask =>
    exact .enterLocked (h.stepBack (fun hneg => h.anyPortOpen ▸ State.askStep_applied hask hneg) b a) _ _
  · exact k

theorem enterSlewing (h : s.Timed P t) (e : Int) : s.Timed P (t.enterSlewing e) :=
  .clockRecord (.presentRate (.setDu h _) _) _

theorem backOrSlew (h : s.Timed P t) (m : UsedMark) : s.Timed P (t.backOrSlew m).state := by
  unfold State.backOrSlew
  split
  · exact h.enterSlewing _
  · exact h.stepAndLock m (h.enterSlewing _)

theorem endSlewByStep (h : s.Timed P t) {e : Int} (he : -e < 0 → s.anyPortOpen = false) (b a : Nat) :
    s.Timed P (t.endSlewByStep e b a) :=
  .presentRate (.setDu (.markStale (.clockRecord (stepTime (.clockRecord h _) he) _)) _) _

/-- The end of a slew by a step, where TB applies it. -/
theorem slewStep (h : s.Timed P t) (m : UsedMark) :
    s.Timed P (match t.askStep (-m.e) with
      | .applied b a => (⟨t.endSlewByStep m.e b a, true⟩ : Action)
      | .refused => ⟨t, false⟩).state := by
  split
  · next b a hask => exact h.endSlewByStep (fun hneg => h.anyPortOpen ▸ State.askStep_applied hask hneg) b a
  · exact h

theorem slewOn (h : s.Timed P t) (m : UsedMark) : s.Timed P (t.slewOn m).state := by
  unfold State.slewOn
  split
  · exact enterLocked (servo (clockRecord h (.slewEnd .reached m.e)) m.e) .slewing m
  · split
    · split
      · exact h
      · exact h.slewStep m
    · exact h.slewStep m

theorem actOnMark (h : s.Timed P t) (m : UsedMark) : s.Timed P (t.actOnMark m).state := by
  unfold State.actOnMark
  split
  · exact h.stepAndLock m h
  · split
    · exact .enterLocked (h.servo _) _ _
    · split
      · exact h.stepAndLock m h
      · exact h.backOrSlew m
  · split
    · exact .enterLocked (h.servo _) _ _
    · split
      · exact h.stepAndLock m h
      · exact h.backOrSlew m
  · exact slewOn (.setDu h _) m

/-! Reports and requests (R42, R49, R170) -/

theorem followOffset (h : s.Timed P t) {m : MarkReport} (hm : ∀ o, m.adopted = some o → P o) :
    s.Timed P (t.followOffset m) := by
  unfold State.followOffset
  split
  · next o ho => exact h.writeOffset (hm o ho) _
  · exact h

theorem followLeap (h : s.Timed P t) (m : MarkReport) : s.Timed P (t.followLeap m) := by
  unfold State.followLeap
  split
  · exact .setDu h _
  · exact .ite (.clockRecord (.setDu h _) _) h

theorem takeOwnReport (h : s.Timed P t) {m : MarkReport} (hm : ∀ o, m.adopted = some o → P o) :
    s.Timed P (t.takeOwnReport m) := by
  have hcount : s.Timed P (((t.followOffset m).followLeap m).countReport m) :=
    .setDu (.followLeap (h.followOffset hm) m) _
  unfold State.takeOwnReport
  dsimp only
  split
  · exact .setDu (hcount.actOnMark _) _
  · exact hcount

theorem takeReport (h : s.Timed P t) (hs : s.Adopts P) {m : MarkReport} (hm : ∀ o, m.adopted = some o → P o) :
    s.Timed P (t.takeReport m) := by
  have hreport : s.Timed P (match m.cause with
      | some c => t.evaluateReport m.ref m.before m.after c
      | none => t) := by
    split
    · exact h.evaluateReport hs _ _ _ _
    · exact h
  exact .setDu (.ite (hreport.takeOwnReport hm) hreport) _

theorem clockSetApplied (h : s.Timed P t) {venue bound b a : Nat} {offset : Int} (ho : P offset)
    (hback : (venue : Int) - t.tb.raw < 0 → s.anyPortOpen = false) :
    s.Timed P (t.clockSetApplied venue bound offset b a) := by
  have hset : s.Timed P (((t.stepTime ((venue : Int) - t.tb.raw)).setDu
      { (t.stepTime ((venue : Int) - t.tb.raw)).du with
        anchor := some ⟨bound, (t.stepTime ((venue : Int) - t.tb.raw)).dating, .host, false⟩ }).writeOffset offset
      .host).markStale := .markStale (.writeOffset (.setDu (h.stepTime hback) _) ho _)
  unfold State.clockSetApplied
  dsimp only
  refine .clockRecord ?_ _
  split
  · exact .setDu hset _
  all_goals exact hset

theorem setPreferred (h : s.Timed P t) (hs : s.Adopts P) (r : Ref) : s.Timed P (t.setPreferred r) :=
  .ite h (evaluateSelection (.setDu h _) hs _)

end State.Timed

end Sys2Proof.Machine
end

section
/-! What each command does to the Time Base, and O8. -/

namespace Sys2Proof.Machine

/-! ### Adopted offsets of a monitor -/

/-- The adopted offset, where there is one, has the property `P`. -/
def Monitor.Adopts (P : Int → Prop) (m : Monitor) : Prop := ∀ o, m.adopted = some o → P o

section
variable {P : Int → Prop} {m : Monitor}

theorem Monitor.Adopts.congr {n : Monitor} (h : m.Adopts P) (heq : n.adopted = m.adopted) : n.Adopts P :=
  fun o ho => h o (heq.symm.trans ho)

theorem Monitor.Adopts.of_none (h : m.adopted = none) : m.Adopts P :=
  fun _ ho => absurd (h.symm.trans ho) (by simp)

theorem Monitor.Adopts.close (h : m.Adopts P) (reason : Option Reason) : (m.close reason).Adopts P := by
  obtain ⟨hkeep, hclear⟩ := m.close_memory reason
  by_cases hex : (m.step reason).state = .excluded ∧ m.state ≠ .excluded
  · exact .of_none (hclear hex.1 hex.2).2.1
  · refine h.congr (hkeep ?_).2.1
    by_cases hst : (m.step reason).state = .excluded
    · exact .inr (by_contra fun k => hex ⟨hst, k⟩)
    · exact .inl hst

/-- R27: judging a mark adopts its offset, or none. -/
theorem Monitor.Adopts.judge (h : m.Adopts P) {msg : TimeMessage} (hmsg : P msg.utcOffset) (v : Verdict) :
    (m.judge msg v).Adopts P := by
  have hafter : ∀ o, adoptedAfter m msg v = some o → P o := by
    intro o ho
    unfold adoptedAfter at ho
    split at ho
    · exact Option.some.inj ho ▸ hmsg
    · exact h o ho
    · exact h o ho
    · split at ho
      · exact Option.some.inj ho ▸ hmsg
      · exact h o ho
  cases hok : msg.checkOk with
  | false => exact h.congr (m.judge_adopted_of_bad hok v)
  | true => exact fun o ho => hafter o ((m.judge_adopted_of_ok hok v).symm.trans ho)

theorem Monitor.Adopts.setEnable (h : m.Adopts P) (enable : Bool) (tick : Nat) : (m.setEnable enable tick).Adopts P := by
  unfold Monitor.setEnable
  split
  · exact h
  · exact .of_none (by cases enable <;> rfl)

theorem State.Adopts.setMon {s : State} (h : s.Adopts P) {r : Ref} {x : Monitor} (hx : x.Adopts P) :
    (s.setMon r x).Adopts P := fun q => by
  by_cases hq : q = r
  · subst hq
    rw [setMon_mon]
    exact hx
  · rw [setMon_mon_other _ _ _ _ hq]
    exact h q

theorem State.Adopts.of_same {s t : State} {bs : List Block} (h : s.Adopts P) (k : s.SameBut t bs)
    (hbs : ∀ r, .mon r ∉ bs) : t.Adopts P := fun r => by
  have hmon : t.mon r = s.mon r := k (.mon r) (hbs r)
  exact hmon ▸ h r

end

/-! ### Marks -/

section
variable {P : Int → Prop} {s : State} {r : Ref}

/-- The Time Base moves as DU and the twin move it. -/
def State.Driven (P : Int → Prop) (s t : State) : Prop := s.tb.DrivenTo P s.anyPortOpen t.tb

theorem State.Driven.of_tb {t : State} (h : t.tb = s.tb) : s.Driven P t := by
  unfold State.Driven
  rw [h]
  exact .refl _

theorem State.anyPortOpen_setMon (x : Monitor) : (s.setMon r x).anyPortOpen = s.anyPortOpen :=
  State.anyPortOpen_of_same (s.setMon_same r x) (by simp)

/-- Of an action on a state that differs in a monitor alone. -/
theorem State.Driven.after_setMon {t : State} (x : Monitor) (h : (s.setMon r x).Driven P t) : s.Driven P t := by
  have htb : (s.setMon r x).tb = s.tb := s.setMon_same r x .tb (by simp)
  unfold State.Driven at h
  rw [htb, State.anyPortOpen_setMon] at h
  exact h

theorem State.closeMark_driven (hs : s.Adopts P) (c : ClosedMark) : s.Driven P (s.closeMark r c) := by
  have hafter : ((s.mon r).close c.reason).Adopts P := Monitor.Adopts.close (hs r) c.reason
  have hmon := hs.setMon (r := r) hafter
  refine State.Driven.after_setMon (r := r) ((s.mon r).close c.reason) ?_
  have hnoticed : (s.setMon r ((s.mon r).close c.reason)).Timed P
      (if ((s.mon r).close c.reason).state = (s.mon r).state then s.setMon r ((s.mon r).close c.reason)
        else (s.setMon r ((s.mon r).close c.reason)).refChanged r (s.mon r).state
          (changeCause (s.mon r).state c.reason)) := .ite (.refl _) (.notice (.refl _) _ _)
  exact (hnoticed.takeReport hmon (m := markReport r (s.mon r) ((s.mon r).close c.reason) c) hafter).driven

/-- The mark of a monitor whose adopted offset stayed is closed. -/
theorem State.closeMark_driven_of (hs : s.Adopts P) (x : Monitor) (hx : x.Adopts P) (c : ClosedMark) :
    s.Driven P ((s.setMon r x).closeMark r c) :=
  .after_setMon x (State.closeMark_driven (hs.setMon hx) c)

theorem State.closeNoLabel_driven (hs : s.Adopts P) (p : PendingMark) : s.Driven P (s.closeNoLabel r p) :=
  State.closeMark_driven_of hs (s.mon r).dropMark (Monitor.Adopts.congr (hs r) rfl) _

theorem State.openMark_driven {t : State} (h : s.Driven P t) (p : PendingMark) : s.Driven P (t.openMark r p) := h

theorem markEdge_driven (hs : s.Adopts P) : s.Driven P (markEdge r s) := by
  by_cases hen : (s.mon r).state ≠ .disabled
  · cases hp : (s.mon r).pendingMark with
    | none =>
      rw [markEdge_of_none hen hp]
      exact State.openMark_driven (State.Driven.of_tb ((s.setMon_same r _) .tb (by simp))) _
    | some p =>
      rw [markEdge_of_some hen hp]
      exact State.openMark_driven (State.Driven.after_setMon ((s.mon r).capture s.tick)
        (State.closeNoLabel_driven (hs.setMon (x := (s.mon r).capture s.tick) (Monitor.Adopts.congr (hs r) rfl)) p)) _
  · unfold markEdge
    simp only [Monitor.enabled_iff, hen, if_false]
    exact .of_tb rfl

theorem State.messageArrived_driven (hs : s.Adopts P) {msg : TimeMessage} (hmsg : P msg.utcOffset) :
    s.Driven P (s.messageArrived r msg) := by
  cases hp : (s.mon r).pendingMark with
  | none =>
    unfold State.messageArrived
    simp only [hp]
    exact .of_tb (s.setMon_same r _ .tb (by simp))
  | some p =>
    rw [State.messageArrived_of_pending hp]
    exact State.closeMark_driven_of hs _
      (Monitor.Adopts.judge (m := (s.mon r).received) (Monitor.Adopts.congr (hs r) rfl) hmsg _) _

theorem timeMessage_driven (hs : s.Adopts P) (bytes : List Byte)
    (hmsg : ∀ msg, takeTimeMessage (s.mon r).rx bytes = .arrived msg → P msg.utcOffset) :
    s.Driven P (timeMessage r bytes s) := by
  unfold timeMessage
  split
  · split
    · exact .of_tb rfl
    · exact .of_tb (s.setMon_same r _ .tb (by simp))
    · next msg harrived => exact State.messageArrived_driven hs (hmsg msg harrived)
  · exact .of_tb rfl

theorem messageWaitExpiry_driven (hs : s.Adopts P) : s.Driven P (messageWaitExpiry r s) := by
  unfold messageWaitExpiry
  split
  · split
    · exact State.closeNoLabel_driven hs _
    · exact .of_tb rfl
  · exact .of_tb rfl

theorem missingMarkExpiry_driven (hs : s.Adopts P) : s.Driven P (missingMarkExpiry r s) := by
  unfold missingMarkExpiry
  split
  · exact State.closeMark_driven_of hs ((s.mon r).missEdge s.tick) (Monitor.Adopts.congr (hs r) rfl) _
  · exact .of_tb rfl

/-! ### Requests that reach DU -/

theorem clockSet_driven {payload : List Byte} (ho : P (fieldInt payload 12 1)) :
    s.Driven P (clockSet payload s).state := by
  unfold clockSet
  dsimp only
  split
  · split
    · next b a hask =>
      exact (State.Timed.clockSetApplied (.refl s) ho fun hneg => State.askStep_applied hask hneg).driven
    · exact .of_tb rfl
  · exact .of_tb rfl

theorem State.setEnable_driven (hs : s.Adopts P) (enable : Bool) : s.Driven P (s.setEnable r enable) := by
  have hmon := hs.setMon (r := r) (Monitor.Adopts.setEnable (hs r) enable s.tick)
  refine State.Driven.after_setMon (r := r) ((s.mon r).setEnable enable s.tick) ?_
  unfold State.setEnable
  dsimp only
  split
  · exact .refl _
  · exact (State.Timed.evaluateReport (.notice (.refl _) _ _) hmon _ _ _ _).driven

/-- REF_CONFIG reaches TB through DU at the enable and at the preference, and stages the delay between. -/
theorem State.configureRef_tb (hs : s.Adopts P) (enable : Bool) (ceiling : Nat) (delay : Int) (p : Ref) :
    ∃ x, s.tb.DrivenTo P s.anyPortOpen x ∧
      (x.stageDelay r delay).DrivenTo P s.anyPortOpen (s.configureRef r enable ceiling delay p).tb := by
  have hmon : (s.setEnable r enable).Adopts P := fun q => by
    rw [State.setEnable_mon]
    exact hs.setMon (Monitor.Adopts.setEnable (hs r) enable s.tick) q
  obtain ⟨v, hv⟩ : ∃ v : State, v = { (s.setEnable r enable).setMon r { (s.setEnable r enable).mon r with
    ceiling := ceiling } with tb := (s.setEnable r enable).tb.stageDelay r delay } := ⟨_, rfl⟩
  have hsetmon := State.setMon_same (s.setEnable r enable) r { (s.setEnable r enable).mon r with ceiling := ceiling }
  have htb : ((s.setEnable r enable).setMon r { (s.setEnable r enable).mon r with ceiling := ceiling }).tb =
      (s.setEnable r enable).tb := hsetmon .tb (by simp)
  have hframe : s.SameBut v (.tb :: refConfigBlocks) := by
    rw [hv]
    refine ((State.setEnable_same s r enable).mono (by simp [refConfigBlocks, disciplineBlocks])).trans
      ((hsetmon.mono (by cases r <;> simp [refConfigBlocks])).trans ((State.tb_same _ _).mono (by simp)))
  have hadopt : v.Adopts P := by
    have h1 : ((s.setEnable r enable).setMon r { (s.setEnable r enable).mon r with ceiling := ceiling }).Adopts P :=
      hmon.setMon (Monitor.Adopts.congr (hmon r) rfl)
    rw [hv]
    exact h1.of_same (State.tb_same _ _) (by simp)
  have hopen : v.anyPortOpen = s.anyPortOpen :=
    State.anyPortOpen_of_same hframe (by simp [refConfigBlocks, disciplineBlocks])
  have hconf : s.configureRef r enable ceiling delay p = v.setPreferred p := by
    rw [hv]
    unfold State.configureRef
    dsimp only
    rw [htb]
  refine ⟨(s.setEnable r enable).tb, State.setEnable_driven hs enable, ?_⟩
  have hlast := (State.Timed.setPreferred (.refl v) hadopt p).driven
  rw [hopen, show v.tb = (s.setEnable r enable).tb.stageDelay r delay by rw [hv]] at hlast
  rw [hconf]
  exact hlast

end

/-! ### Every command -/

/-- Of an act on the state whose front request is in service. -/
theorem takeRequest_tb {kind : Nat} {act : List Byte → State → Acted} {s : State} {R : TimeBase → TimeBase → Prop}
    (hrefl : R s.tb s.tb) (hact : ∀ payload x, x.tb = s.tb → x.anyPortOpen = s.anyPortOpen → (∀ r, x.mon r = s.mon r) →
      R s.tb (act payload x).state.tb) : R s.tb (takeRequest kind act s).tb := by
  unfold takeRequest
  split
  · exact hrefl
  · exact hact _ _ rfl rfl fun r => by cases r <;> rfl

/-- A second boundary activates the slots, and leaves the rest of TB but the queue of boundaries. -/
theorem secondBoundary_tb (s : State) :
    (secondBoundary s).tb = s.tb ∨ ∃ rest, (secondBoundary s).tb = TimeBase.activate { s.tb with boundaries := rest } := by
  unfold secondBoundary
  split
  · exact .inl rfl
  · next b rest _ =>
    refine .inr ⟨rest, ?_⟩
    unfold State.reactTo
    dsimp only
    rw [State.tickReaction_same _ _ .tb (by decide), State.countBoundary_same _ .tb (by decide),
      State.traceChanged_same _ _ _ .tb (by simp [boundaryBlocks, allGroups]),
      State.evaluateTrace_same _ _ .tb (by decide)]

theorem stampGrant_tb (s : State) : (stampGrant s).tb = s.tb ∨ (stampGrant s).tb = s.tb.raised := by
  have hexhaust : s.exhaust.tb = s.tb := State.exhaust_same s .tb (by simp [allPorts])
  unfold stampGrant
  split
  · exact .inl rfl
  split
  · exact .inl rfl
  split
  · exact .inl rfl
  split
  · exact .inl hexhaust
  · next p _ _ q _ _ =>
    refine .inr ?_
    rw [State.grantPort_eq, State.reexamine_same _ _ .tb (by simp [portBlocks]),
      State.stampPlaced_same s.beginGrant p _ _ _ .tb (by simp)]
    rfl

theorem internalGrant_tb (s : State) : (internalGrant s).tb = s.tb ∨ (internalGrant s).tb = s.tb.raised := by
  have hexhaust : s.exhaust.tb = s.tb := State.exhaust_same s .tb (by simp [allPorts])
  unfold internalGrant
  split
  · exact .inl rfl
  split
  · exact .inl rfl
  split
  · exact .inl hexhaust
  · next x _ _ =>
    refine .inr ?_
    unfold State.grantInternal
    dsimp only
    rw [State.handOver_same _ x _ _ .tb (by cases x <;> simp [Internal.holder])]
    rfl

theorem TimeBase.Moves.of_same {s t : State} {bs : List Block} (h : s.SameBut t bs) (hbs : .tb ∉ bs) :
    s.tb.Moves s.anyPortOpen t.tb := by
  rw [(h .tb hbs : t.tb = s.tb)]
  exact .refl _

/-- R7, R9 and R10: what every action does to the Time Base. -/
theorem actOf_moves (c : Instr) (s : State) : s.tb.Moves s.anyPortOpen (actOf c s).tb := by
  have hadopts : s.Adopts fun _ => True := fun _ _ _ => trivial
  cases c with
  | oscillatorTick => exact s.tb.tickOnce_moves
  | secondBoundary =>
    rcases secondBoundary_tb s with h | ⟨rest, h⟩
    · exact h ▸ .refl _
    · refine Eq.subst (motive := fun x => s.tb.Moves _ x) h.symm ?_
      exact .of_counters rfl rfl rfl rfl rfl
  | markEdge r => exact (markEdge_driven hadopts).moves
  | timeMessage r bytes => exact (timeMessage_driven hadopts bytes fun _ _ => trivial).moves
  | messageWaitExpiry r => exact (messageWaitExpiry_driven hadopts).moves
  | missingMarkExpiry r => exact (missingMarkExpiry_driven hadopts).moves
  | stampGrant =>
    rcases stampGrant_tb s with h | h
    · exact h ▸ .refl _
    · exact h ▸ s.tb.raised_moves
  | internalGrant =>
    rcases internalGrant_tb s with h | h
    · exact h ▸ .refl _
    · exact h ▸ s.tb.raised_moves
  | clockSet =>
    refine takeRequest_tb (.refl _) fun payload x htb hopen _ => ?_
    have h := (clockSet_driven (P := fun _ => True) (s := x) (payload := payload) trivial).moves
    rwa [htb, hopen] at h
  | refConfig =>
    refine takeRequest_tb (.refl _) fun payload x htb hopen _ => ?_
    unfold refConfig
    split
    · next r enable preferred _ _ _ =>
      obtain ⟨y, hy, hlast⟩ := State.configureRef_tb (r := r) (P := fun _ => True) (s := x) (fun _ _ _ => trivial) enable
        (clampCeiling (field payload 2 4)).value (clampDelay (fieldInt payload 6 4)).value preferred
      rw [htb, hopen] at hy
      rw [hopen] at hlast
      dsimp only
      rw [show (State.says (State.configChange _ _ _ _ _) _ _).state.tb = _ from
        State.configChange_same _ _ _ _ _ .tb (by simp)]
      exact (hy.moves.trans (y.stageDelay_moves r _)).trans hlast.moves
    · exact htb ▸ .refl _
  | servoConfig =>
    refine takeRequest_tb (.refl _) fun payload x htb _ _ => ?_
    unfold servoConfig
    dsimp only
    rw [show (State.says (State.configChange _ _ _ _ _) _ _).state.tb = _ from
      State.configChange_same _ _ _ _ _ .tb (by simp), htb]
    exact .of_counters rfl rfl rfl rfl rfl
  | traceConfig =>
    refine takeRequest_tb (.refl _) fun payload x htb _ _ => ?_
    unfold traceConfig
    dsimp only
    rw [show (State.says (State.configChange _ _ _ _ _) _ _).state.tb = _ from
      State.configChange_same _ _ _ _ _ .tb (by simp), htb]
    exact .of_counters rfl rfl rfl rfl rfl
  | _ =>
    refine .of_same (actOf_same _ s) ?_
    simp [actBlocks, twinBlocks, portBlocks, groupBlocks, allPorts, allGroups]

/-- Settles O8: the movement of TB under every action. -/
theorem datingTimeNeverDecreases : Obligations.DatingTimeNeverDecreases := by
  intro c s t hwf hreset hstart hexec
  rcases exec_eq_self_or_act hreset hstart hexec with rfl | rfl
  · exact ⟨le_rfl, le_rfl, fun _ => le_rfl⟩
  · exact (actOf_moves c s hwf).2

end Sys2Proof.Machine
end

section
/-! What the commands do to TLU: they keep its settings, which TWIN_CONFIG alone writes, and the form of the attachment. -/

namespace Sys2Proof.Machine

/-! ### TLU moved within its state -/

/-- The four settings of TLU stay. -/
structure TwinLink.SameSettings (x y : TwinLink) : Prop where
  limit : y.limit = x.limit
  allowance : y.allowance = x.allowance
  period : y.period = x.period
  venue : y.venue = x.venue

/-- TLU keeps its settings, its state, the anchor held out, the spacing timer and the number of its probes, and the bound
of its transmit list. -/
structure TwinLink.Keeps (x y : TwinLink) : Prop where
  settings : x.SameSettings y
  state : y.state = x.state
  heldOut : y.heldOut = x.heldOut
  spacing : y.spacingTimer = x.spacingTimer
  probes : y.probes.length = x.probes.length
  transmit : x.transmit.length ≤ 8 → y.transmit.length ≤ 8

namespace TwinLink

variable (x : TwinLink)

theorem SameSettings.refl : x.SameSettings x := ⟨rfl, rfl, rfl, rfl⟩

theorem SameSettings.trans {x y z : TwinLink} (h : x.SameSettings y) (k : y.SameSettings z) : x.SameSettings z :=
  ⟨k.limit.trans h.limit, k.allowance.trans h.allowance, k.period.trans h.period, k.venue.trans h.venue⟩

theorem Keeps.refl : x.Keeps x := ⟨.refl x, rfl, rfl, rfl, rfl, id⟩

theorem joined_transmit (f : TwinFrame) (h : x.transmit.length ≤ 8) : (x.joined f).transmit.length ≤ 8 := by
  unfold joined
  dsimp only
  split
  · rw [List.length_append, List.length_singleton]
    omega
  · exact h

theorem form_keeps (f : TwinFrame) : x.Keeps (x.form f) := by
  rw [form_eq_joined]
  exact ⟨⟨rfl, rfl, rfl, rfl⟩, rfl, rfl, rfl, rfl, x.joined_transmit f⟩

theorem closeProbe_keeps (o : ProbeOutcome) : x.Keeps (x.closeProbe o) :=
  ⟨⟨rfl, rfl, rfl, rfl⟩, rfl, rfl, rfl, List.length_map .., id⟩

theorem keeps_of_filter (p : TwinFrame → Bool) (c : TwinCounters) :
    x.Keeps { x with transmit := x.transmit.filter p, counters := c } :=
  ⟨⟨rfl, rfl, rfl, rfl⟩, rfl, rfl, rfl, rfl, (List.length_filter_le _ _).trans⟩

end TwinLink

/-! ### States linked by actions -/

theorem State.TwinWf.of_keeps {s t : State} (h : s.TwinWf) (k : s.tlu.Keeps t.tlu)
    (hassisted : t.du.assisted = s.du.assisted) : t.TwinWf := by
  obtain ⟨hheld, hatt, hlist, hprobes, hspacing⟩ := h
  unfold State.TwinWf
  rw [k.heldOut, k.state, k.probes, k.spacing, hassisted]
  exact ⟨hheld, hatt, k.transmit hlist, hprobes, hspacing⟩

/-- `t` is reached from `s` with the settings of TLU kept, and the form of the attachment. -/
structure State.Linked (s t : State) : Prop where
  settings : s.tlu.SameSettings t.tlu
  wf : s.TwinWf → t.TwinWf

theorem State.TwinWf.heldOut_eq_none {s : State} (h : s.TwinWf) (hs : s.tlu.state.attached = false) :
    s.tlu.heldOut = none :=
  Option.not_isSome_iff_eq_none.mp fun k => absurd (hs.symm.trans (h.2.1 k)) (by decide)

/-- No anchor is held out in TLU, nor in DU, behind a withdrawal. -/
theorem State.TwinWf.withdrawn {s : State} (h : s.TwinWf) : s.withdrawAnchor.du.assisted = none := by
  rw [withdrawAnchor_du]
  split
  · rfl
  · next hnone => rw [← h.1, Option.not_isSome_iff_eq_none.mp hnone]

namespace State.Linked

variable {s t u : State}

theorem refl (s : State) : s.Linked s := ⟨.refl _, id⟩

theorem trans (h : s.Linked t) (k : t.Linked u) : s.Linked u := ⟨h.settings.trans k.settings, k.wf ∘ h.wf⟩

theorem ite {c : Prop} [Decidable c] (h : s.Linked t) (k : s.Linked u) : s.Linked (if c then t else u) := by
  split <;> assumption

theorem of_keeps (h : s.Linked t) (k : t.tlu.Keeps u.tlu) (hassisted : u.du.assisted = t.du.assisted) : s.Linked u :=
  h.trans ⟨k.settings, fun ht => ht.of_keeps k hassisted⟩

theorem of_same {bs : List Block} (h : s.Linked t) (k : t.SameBut u bs) (htlu : .tlu ∉ bs) (hdu : .du ∉ bs) :
    s.Linked u := by
  have htlu' : u.tlu = t.tlu := k .tlu htlu
  have hdu' : u.du = t.du := k .du hdu
  exact h.of_keeps (by rw [htlu']; exact .refl _) (congrArg Discipline.assisted hdu')

theorem setTlu (h : s.Linked t) {x : TwinLink} (k : t.tlu.Keeps x) : s.Linked (t.setTlu x) := h.of_keeps k rfl

/-- TLU changed in what the form does not speak of. -/
theorem setTlu_of_eq (h : s.Linked t) {x : TwinLink} (hset : t.tlu.SameSettings x) (hstate : x.state = t.tlu.state)
    (hheld : x.heldOut = t.tlu.heldOut) (hspacing : x.spacingTimer = t.tlu.spacingTimer)
    (hprobes : x.probes = t.tlu.probes) (htransmit : x.transmit = t.tlu.transmit) : s.Linked (t.setTlu x) :=
  h.setTlu ⟨hset, hstate, hheld, hspacing, congrArg _ hprobes, fun k => htransmit ▸ k⟩

theorem setDu (h : s.Linked t) (x : Discipline) (hx : x.assisted = t.du.assisted := by rfl) : s.Linked (t.setDu x) :=
  h.of_keeps (.refl _) hx

theorem setTb (h : s.Linked t) (x : TimeBase) : s.Linked { t with tb := x } := h.of_keeps (.refl _) rfl

theorem presentRate (h : s.Linked t) (r : Int) : s.Linked (t.presentRate r) := h.setTb _

theorem setMon (h : s.Linked t) (r : Ref) (x : Monitor) : s.Linked (t.setMon r x) := h.of_keeps (.refl _) rfl

theorem notice (h : s.Linked t) (cls : NoticeClass) (f : List Fld) : s.Linked (t.notice cls f) :=
  h.of_same (t.notice_same cls f) (by decide) (by decide)

theorem twinChanged (h : s.Linked t) (o : TwinState) (c : TwinCause) (e : Option Evaluation) :
    s.Linked (t.twinChanged o c e) := h.of_same (t.twinChanged_same o c e) (by decide) (by decide)

theorem formTwin (h : s.Linked t) (f : TwinFrame) : s.Linked (t.formTwin f) := h.setTlu (t.tlu.form_keeps f)

theorem clockRecordAt (h : s.Linked t) (e : ClockEvent) (d : Nat) : s.Linked (t.clockRecordAt e d) := by
  have htlu : (t.clockRecordAt e d).tlu = t.tlu := t.clockRecordAt_same e d .tlu (by decide)
  exact h.of_keeps (by rw [htlu]; exact .refl _) (by rw [clockRecordAt_du])

theorem clockRecord (h : s.Linked t) (e : ClockEvent) : s.Linked (t.clockRecord e) := h.clockRecordAt e _

theorem contest (h : s.Linked t) (x : Int) (l : Nat) : s.Linked (t.contest x l) :=
  ite h (.clockRecord (.setDu h { t.du with contested := true }) _)

theorem uncontest (h : s.Linked t) (c : ContestCause) (x : Option Int) : s.Linked (t.uncontest c x) :=
  ite (.clockRecord (.setDu h { t.du with contested := false }) _) h

/-! The assisted anchor (R76) -/

theorem withdrawAnchor (h : s.Linked t) : s.Linked t.withdrawAnchor :=
  h.trans ⟨by rw [withdrawAnchor_tlu]; exact ⟨rfl, rfl, rfl, rfl⟩, fun ht => by
    have hnone := ht.withdrawn
    obtain ⟨_, _, hrest⟩ := ht
    unfold State.TwinWf
    rw [hnone, withdrawAnchor_tlu]
    exact ⟨rfl, nofun, hrest⟩⟩

/-- R76: the conditions of an offer hold in AGREED alone. -/
theorem state_of_offerStatus {st : TwinStatus} (h : t.offerStatus = some st) : t.tlu.state = .agreed := by
  unfold State.offerStatus at h
  split at h
  · split at h
    · next hc => exact hc.1
    · cases h
  · cases h

theorem offerAnchor (h : s.Linked t) (theta : Int) : s.Linked (t.offerAnchor theta) := by
  unfold State.offerAnchor
  split
  · next st hst =>
    refine h.trans ⟨⟨rfl, rfl, rfl, rfl⟩, fun ht => ?_⟩
    obtain ⟨_, _, hrest⟩ := ht
    exact ⟨rfl, fun _ => by rw [state_of_offerStatus hst]; rfl, hrest⟩
  · exact h.withdrawAnchor

/-! Probes and evaluations (R69 to R74) -/

theorem formProbe (h : s.Linked t) (hprobes : t.TwinWf → t.tlu.probes.length < 8) : s.Linked t.formProbe :=
  h.trans ⟨by rw [formProbe_tlu]; exact ⟨rfl, rfl, rfl, rfl⟩, fun ht => by
    have hlen := hprobes ht
    obtain ⟨hheld, hatt, hlist, _, _⟩ := ht
    have hnew : (t.tlu.probes ++ [({ number := t.tlu.nextProbe } : Probe)]).length = t.tlu.probes.length + 1 :=
      List.length_append
    unfold State.TwinWf
    rw [formProbe_tlu]
    refine ⟨hheld, hatt, TwinLink.joined_transmit _ _ hlist, hnew.trans_le hlen, fun hspacing => ?_⟩
    by_contra hge
    have hlong : ¬ t.tlu.probes.length + 1 < t.tlu.state.cycleLength := fun hlt => hge (hnew.trans_lt hlt)
    have hnone : (if t.tlu.probes.length + 1 < t.tlu.state.cycleLength then some (t.tick + 31250000) else none).isSome =
      true := hspacing
    rw [if_neg hlong] at hnone
    cases hnone⟩

theorem enterMeasuring (h : s.Linked t) (id : TwinIdentity) (cause : TwinCause) :
    s.Linked (t.enterMeasuring id cause) := by
  have hset : s.Linked (t.withdrawAnchor.setTlu { t.withdrawAnchor.tlu with
      state := .measuring
      identity := some id
      probes := []
      failures := 0
      status := none
      offerTimer := none
      retryTimer := none
      spacingTimer := none
      probeTimer := none
      checkTimer := none
      counters :=
        { t.withdrawAnchor.tlu.counters with attachments := bump t.withdrawAnchor.tlu.counters.attachments } }) :=
    h.withdrawAnchor.trans ⟨⟨rfl, rfl, rfl, rfl⟩, fun ht => by
      obtain ⟨hheld, _, hlist, _, _⟩ := ht
      exact ⟨hheld, fun _ => rfl, hlist, Nat.zero_le _, nofun⟩⟩
  exact twinChanged (formProbe hset fun _ => by simp) _ _ _

theorem enterDetached (h : s.Linked t) (fault : TwinFault) : s.Linked (t.enterDetached fault) :=
  h.trans ⟨by rw [enterDetached_tlu]; exact ⟨rfl, rfl, rfl, rfl⟩, fun ht => by
    have hnone := ht.withdrawn
    obtain ⟨_, _, hlist, _, _⟩ := ht
    unfold State.TwinWf
    rw [enterDetached_tlu, enterDetached_du, ← withdrawAnchor_du, hnone]
    exact ⟨rfl, nofun, (List.length_filter_le _ _).trans hlist, Nat.zero_le _, nofun⟩⟩

/-- R72, R74: an evaluation with a result leads to AGREED or DISAGREE, with an empty table. -/
theorem evaluated (h : s.Linked t) (m : Measured) : s.Linked (t.setTlu (t.tlu.evaluated m)) :=
  h.trans ⟨⟨rfl, rfl, rfl, rfl⟩, fun ht => by
    obtain ⟨hheld, _, hlist, _, _⟩ := ht
    refine ⟨hheld, fun _ => ?_, hlist, Nat.zero_le _, fun _ => ?_⟩
    · show (agreementOf m.theta t.tlu.limit).attached = true
      unfold agreementOf
      split <;> rfl
    · show 0 < (agreementOf m.theta t.tlu.limit).cycleLength
      rw [TwinState.cycleLength_eq]
      split <;> decide⟩

theorem reportAgreement (h : s.Linked t) (x : Int) : s.Linked (t.reportAgreement x) := by
  unfold State.reportAgreement
  split
  · exact h.uncontest _ _
  · exact h.contest _ _
  · exact h

theorem afterEvaluation (h : s.Linked t) (o : TwinState) (m : Measured) : s.Linked (t.afterEvaluation o m) :=
  .offerAnchor (.formTwin (.ite h (h.reportAgreement _)) _) _

theorem setCheckTimer (h : s.Linked t) (v : Option Nat) : s.Linked (t.setTlu { t.tlu with checkTimer := v }) :=
  h.setTlu_of_eq ⟨rfl, rfl, rfl, rfl⟩ rfl rfl rfl rfl rfl

theorem evaluateMeasurement (h : s.Linked t) : s.Linked t.evaluateMeasurement := by
  unfold State.evaluateMeasurement
  dsimp only
  split
  · exact ite (.twinChanged (.setCheckTimer (.afterEvaluation (h.evaluated _) _ _) _) _ _ _) (h.enterDetached _)
  · exact h.enterDetached _

theorem failCheck (h : s.Linked t) : s.Linked t.failCheck := by
  have hset : s.Linked (t.setTlu { t.tlu with
      probes := []
      failures := 1
      counters := { t.tlu.counters with checksFailed := bump t.tlu.counters.checksFailed } }) :=
    h.trans ⟨⟨rfl, rfl, rfl, rfl⟩, fun ht => by
      obtain ⟨hheld, hatt, hlist, _, _⟩ := ht
      refine ⟨hheld, hatt, hlist, Nat.zero_le _, fun _ => ?_⟩
      show 0 < t.tlu.state.cycleLength
      rw [TwinState.cycleLength_eq]
      split <;> decide⟩
  exact ite (.formTwin (.notice hset _ _) _) (.enterDetached (.notice hset _ _) _)

theorem evaluateCheck (h : s.Linked t) : s.Linked t.evaluateCheck := by
  unfold State.evaluateCheck
  dsimp only
  split
  · exact ite (.twinChanged (.afterEvaluation (h.evaluated _) _ _) _ _ _) h.failCheck
  · exact h.failCheck

theorem afterClose (h : s.Linked t) : s.Linked t.afterClose := by
  unfold State.afterClose
  split
  · split
    case h_1 => exact h.evaluateMeasurement
    case h_2 | h_3 => exact h.evaluateCheck
    all_goals exact h
  · exact h

theorem closeProbe (h : s.Linked t) (o : ProbeOutcome) : s.Linked (t.closeProbe o) :=
  .afterClose (h.setTlu (t.tlu.closeProbe_keeps o))

theorem twinStepped (h : s.Linked t) : s.Linked t.twinStepped := by
  have hwithheld : s.Linked (t.setTlu t.tlu.withholdEchoes) := h.setTlu (t.tlu.keeps_of_filter _ _)
  exact ite (hwithheld.closeProbe _) hwithheld

/-! Frames received and timers (R63 to R76) -/

theorem twinIgnored (h : s.Linked t) : s.Linked t.twinIgnored :=
  h.setTlu_of_eq ⟨rfl, rfl, rfl, rfl⟩ rfl rfl rfl rfl rfl

theorem twinReceived (h : s.Linked t) : s.Linked t.twinReceived :=
  h.setTlu_of_eq ⟨rfl, rfl, rfl, rfl⟩ rfl rfl rfl rfl rfl

theorem rejectTwin (h : s.Linked t) (f : TwinFault) : s.Linked (t.rejectTwin f) := .enterDetached (.formTwin h _) _

theorem onOffer (h : s.Linked t) (id : TwinIdentity) : s.Linked (t.onOffer id) := by
  have hanswer : s.Linked (match t.attachFault id with
      | some f => t.rejectTwin f
      | none => (t.formTwin (.accept t.ownIdentity)).enterMeasuring id .offer) := by
    split
    · exact h.rejectTwin _
    · exact .enterMeasuring (.formTwin h _) _ _
  unfold State.onOffer
  cases t.tlu.state with
  | off => exact h.twinIgnored
  | _ => exact hanswer

theorem onAccept (h : s.Linked t) (id : TwinIdentity) : s.Linked (t.onAccept id) := by
  have hanswer (u : State) (hu : s.Linked u) : s.Linked (match t.attachFault id with
      | some f => t.rejectTwin f
      | none => u) := by
    split
    · exact h.rejectTwin _
    · exact hu
  unfold State.onAccept
  cases t.tlu.state with
  | off => exact h.twinIgnored
  | detached | offering => exact hanswer _ (h.enterMeasuring _ _)
  | _ => exact hanswer _ h.twinIgnored

theorem onEnding (h : s.Linked t) (f : TwinFault) : s.Linked (t.onEnding f) := by
  unfold State.onEnding
  cases t.tlu.state with
  | off | detached => exact h.twinIgnored
  | _ => exact h.enterDetached f

theorem onProbe (h : s.Linked t) (n t2 : Nat) : s.Linked (t.onProbe n t2) := ite (h.formTwin _) h.twinIgnored

theorem onEcho (h : s.Linked t) (n t2 t3 t4 : Nat) : s.Linked (t.onEcho n t2 t3 t4) := by
  unfold State.onEcho
  refine ite ?_ h.twinIgnored
  split
  · exact h.closeProbe _
  · exact h.setTlu_of_eq ⟨rfl, rfl, rfl, rfl⟩ rfl rfl rfl rfl rfl

theorem onStatus (h : s.Linked t) (st : TwinStatus) : s.Linked (t.onStatus st) := by
  have hset : s.Linked (t.setTlu { t.tlu with
      status := some st
      statusTick := t.tick
      counters := { t.tlu.counters with statusReceived := bump t.tlu.counters.statusReceived } }) :=
    h.setTlu_of_eq ⟨rfl, rfl, rfl, rfl⟩ rfl rfl rfl rfl rfl
  exact ite (ite (ite hset hset.withdrawAnchor) (h.setTlu_of_eq ⟨rfl, rfl, rfl, rfl⟩ rfl rfl rfl rfl rfl)) h.twinIgnored

theorem onMessage (h : s.Linked t) (at_ : Nat) (msg : TwinMessage) : s.Linked (t.onMessage at_ msg) := by
  cases msg with
  | offer id => exact h.onOffer id
  | accept id => exact h.onAccept id
  | refuse | bye => exact h.onEnding _
  | probe => exact h.onProbe _ _
  | echo => exact h.onEcho _ _ _ _
  | status => exact h.onStatus _

theorem frameCommand (h : s.Linked t) (bytes : List Byte) (msg : TwinMessage) :
    s.Linked (actOf (msg.command bytes) t) := by
  obtain hc | ⟨rx, hc⟩ | ⟨at_, m, hc⟩ := frameCommand_cases (c := msg.command bytes) rfl t
  · rw [hc]
    exact h
  · rw [hc]
    exact h.setTlu_of_eq ⟨rfl, rfl, rfl, rfl⟩ rfl rfl rfl rfl rfl
  · rw [hc]
    exact h.twinReceived.onMessage at_ m

/-- R65, R68: an OFFER opens OFFERING where no attachment stands. -/
theorem openOffer (h : s.Linked t) (hs : t.tlu.state = .off ∨ t.tlu.state = .detached) : s.Linked t.openOffer :=
  h.trans ⟨by rw [openOffer_tlu]; exact ⟨rfl, rfl, rfl, rfl⟩, fun ht => by
    have hnone : t.tlu.heldOut = none := ht.heldOut_eq_none (by rcases hs with hs | hs <;> rw [hs] <;> rfl)
    obtain ⟨hheld, _, hlist, hprobes, hspacing⟩ := ht
    unfold State.TwinWf
    rw [openOffer_tlu]
    refine ⟨hheld, fun k => absurd k ?_, TwinLink.joined_transmit _ _ hlist, hprobes, fun k => ?_⟩
    · show ¬ t.tlu.heldOut.isSome = true
      rw [hnone]
      decide
    · have hlt := hspacing k
      rcases hs with hs | hs <;> rw [hs] at hlt <;> exact hlt⟩

theorem stopTwin (h : s.Linked t) : s.Linked t.stopTwin :=
  h.trans ⟨by rw [State.stopTwin_tlu]; exact ⟨rfl, rfl, rfl, rfl⟩, fun ht => by
    have hnone := ht.withdrawn
    rw [withdrawAnchor_du, apply_ite Discipline.assisted] at hnone
    obtain ⟨_, _, hlist, _, _⟩ := ht
    unfold State.TwinWf
    rw [State.stopTwin_tlu, State.stopTwin_du]
    exact ⟨hnone.symm, nofun, (List.length_filter_le _ _).trans (TwinLink.joined_transmit _ _ hlist), Nat.zero_le _,
      nofun⟩⟩

/-! DU's actions (R39 to R50) -/

theorem markStale (h : s.Linked t) : s.Linked t.markStale := h.setDu _

theorem stepTime (h : s.Linked t) (a : Int) : s.Linked (t.stepTime a) := .twinStepped (h.setTb _)

theorem writeOffset (h : s.Linked t) (o : Int) (c : OffsetCause) : s.Linked (t.writeOffset o c) :=
  ite h (.clockRecord (.setTb h _) _)

theorem enterHoldover (h : s.Linked t) : s.Linked t.enterHoldover := .clockRecord (.presentRate (.setDu h _) _) _

theorem loseSelection (h : s.Linked t) : s.Linked t.loseSelection := by
  unfold State.loseSelection
  split
  · exact h.enterHoldover
  · exact h.enterHoldover
  · exact (h.clockRecord _).enterHoldover
  · exact h

theorem adoptSelection (h : s.Linked t) (n : Option Ref) : s.Linked (t.adoptSelection n) := by
  unfold State.adoptSelection
  split
  · refine setDu ?_ _
    split
    · exact h.writeOffset _ _
    · exact h
  · exact .loseSelection (.setDu h _)

theorem switchTo (h : s.Linked t) (n : Option Ref) (c : SwitchCause) : s.Linked (t.switchTo n c) :=
  .adoptSelection (.clockRecord (h.setDu { t.du with selection := n }) _) _

theorem evaluateSelection (h : s.Linked t) (c : SwitchCause) : s.Linked (t.evaluateSelection c) :=
  ite h (h.switchTo _ _)

theorem evaluateReport (h : s.Linked t) (r : Ref) (o n : QualState) (c : RefCause) :
    s.Linked (t.evaluateReport r o n c) := ite (ite (h.clockRecord _) h) (h.switchTo _ _)

theorem servo (h : s.Linked t) (e : Int) : s.Linked (t.servo e) := .presentRate (.setDu h _) _

theorem enterLocked (h : s.Linked t) (o : Mode) (m : UsedMark) : s.Linked (t.enterLocked o m) := by
  have hlocked : s.Linked (t.setDu { t.du with mode := .locked }) := h.setDu _
  unfold State.enterLocked
  cases o
  case unset | holdover => exact hlocked.clockRecord _
  all_goals exact hlocked

theorem stepBack (h : s.Linked t) (e : Int) (b a : Nat) : s.Linked (t.stepBack e b a) :=
  .markStale (.clockRecord (.stepTime h _) _)

theorem stepAndLock (h : s.Linked t) (m : UsedMark) {o : State} (ho : s.Linked o) :
    s.Linked (t.stepAndLock m o).state := by
  unfold State.stepAndLock
  split
  · exact .enterLocked (h.stepBack _ _ _) _ _
  · exact ho

theorem enterSlewing (h : s.Linked t) (e : Int) : s.Linked (t.enterSlewing e) :=
  .clockRecord (.presentRate (h.setDu { t.du with mode := .slewing, rate := -200000000, lastSlew := some e }) _) _

theorem backOrSlew (h : s.Linked t) (m : UsedMark) : s.Linked (t.backOrSlew m).state := by
  unfold State.backOrSlew
  split
  · exact h.enterSlewing _
  · exact h.stepAndLock m (h.enterSlewing _)

theorem endSlewByStep (h : s.Linked t) (e : Int) (b a : Nat) : s.Linked (t.endSlewByStep e b a) :=
  .presentRate (.setDu (.markStale (.clockRecord (.stepTime (.clockRecord h _) _) _)) _) _

theorem slewOn (h : s.Linked t) (m : UsedMark) : s.Linked (t.slewOn m).state := by
  have hstep : s.Linked (match t.askStep (-m.e) with
      | .applied b a => (⟨t.endSlewByStep m.e b a, true⟩ : Action)
      | .refused => ⟨t, false⟩).state := by
    split
    · exact h.endSlewByStep _ _ _
    · exact h
  unfold State.slewOn
  split
  · exact enterLocked (servo (clockRecord h (.slewEnd .reached m.e)) m.e) .slewing m
  · split
    · split
      · exact h
      · exact hstep
    · exact hstep

theorem actOnMark (h : s.Linked t) (m : UsedMark) : s.Linked (t.actOnMark m).state := by
  unfold State.actOnMark
  split
  · exact h.stepAndLock m h
  · split
    · exact .enterLocked (h.servo _) _ _
    · split
      · exact h.stepAndLock m h
      · exact h.backOrSlew m
  · split
    · exact .enterLocked (h.servo _) _ _
    · split
      · exact h.stepAndLock m h
      · exact h.backOrSlew m
  · exact slewOn (h.setDu _) m

theorem followOffset (h : s.Linked t) (m : MarkReport) : s.Linked (t.followOffset m) := by
  unfold State.followOffset
  split
  · exact h.writeOffset _ _
  · exact h

theorem followLeap (h : s.Linked t) (m : MarkReport) : s.Linked (t.followLeap m) := by
  unfold State.followLeap
  split
  · exact h.setDu _
  · next l _ => exact ite (.clockRecord (h.setDu { t.du with leap := some ⟨l.sign, m.ref⟩ }) _) h

theorem takeOwnReport (h : s.Linked t) (m : MarkReport) : s.Linked (t.takeOwnReport m) := by
  have hcount : s.Linked (((t.followOffset m).followLeap m).countReport m) := setDu ((h.followOffset m).followLeap m) _
  unfold State.takeOwnReport
  dsimp only
  split
  · exact setDu (hcount.actOnMark _) _
  · exact hcount

theorem clearStale (h : s.Linked t) (r : Ref) : s.Linked (t.setDu (t.du.clearStale r)) := h.setDu _ (by cases r <;> rfl)

theorem takeReport (h : s.Linked t) (m : MarkReport) : s.Linked (t.takeReport m) := by
  have hreport : s.Linked (match m.cause with
      | some c => t.evaluateReport m.ref m.before m.after c
      | none => t) := by
    split
    · exact h.evaluateReport _ _ _ _
    · exact h
  exact clearStale (ite (hreport.takeOwnReport m) hreport) _

theorem closeMark (h : s.Linked t) (r : Ref) (c : ClosedMark) : s.Linked (t.closeMark r c) :=
  takeReport (ite (h.setMon r _) (.notice (h.setMon r _) _ _)) _

theorem closeNoLabel (h : s.Linked t) (r : Ref) (p : PendingMark) : s.Linked (t.closeNoLabel r p) :=
  .closeMark (h.setMon r _) r _

theorem markEdge (h : s.Linked t) (r : Ref) : s.Linked (markEdge r t) := by
  have hcapture := h.setMon r ((t.mon r).capture t.tick)
  unfold Machine.markEdge
  refine ite ?_ h
  dsimp only
  split
  · exact setMon (hcapture.closeNoLabel r _) r _
  · exact hcapture.setMon r _

theorem messageArrived (h : s.Linked t) (r : Ref) (msg : TimeMessage) : s.Linked (t.messageArrived r msg) := by
  cases hp : (t.mon r).pendingMark with
  | none =>
    unfold State.messageArrived
    simp only [hp]
    exact h.setMon r _
  | some p =>
    rw [State.messageArrived_of_pending hp]
    exact closeMark (h.setMon r _) r _

theorem timeMessage (h : s.Linked t) (r : Ref) (bytes : List Byte) : s.Linked (timeMessage r bytes t) := by
  unfold Machine.timeMessage
  refine ite ?_ h
  split
  · exact h
  · exact h.setMon r _
  · exact h.messageArrived r _

theorem messageWaitExpiry (h : s.Linked t) (r : Ref) : s.Linked (messageWaitExpiry r t) := by
  unfold Machine.messageWaitExpiry
  split
  · exact ite (h.closeNoLabel r _) h
  · exact h

theorem missingMarkExpiry (h : s.Linked t) (r : Ref) : s.Linked (missingMarkExpiry r t) :=
  ite (.closeMark (h.setMon r _) r _) h

theorem clockSetApplied (h : s.Linked t) (v bd : Nat) (o : Int) (b a : Nat) :
    s.Linked (t.clockSetApplied v bd o b a) := by
  have hset : s.Linked (((t.stepTime ((v : Int) - t.tb.raw)).setDu { (t.stepTime ((v : Int) - t.tb.raw)).du with
      anchor := some ⟨bd, (t.stepTime ((v : Int) - t.tb.raw)).dating, .host, false⟩ }).writeOffset o .host).markStale :=
    .markStale (.writeOffset (.setDu (h.stepTime _) _) _ _)
  unfold State.clockSetApplied
  dsimp only
  refine clockRecord ?_ _
  split
  · exact hset.setDu _
  all_goals exact hset

theorem setEnable (h : s.Linked t) (r : Ref) (e : Bool) : s.Linked (t.setEnable r e) :=
  ite (h.setMon r _) (.evaluateReport (.notice (h.setMon r _) _ _) _ _ _ _)

theorem setPreferred (h : s.Linked t) (p : Ref) : s.Linked (t.setPreferred p) :=
  ite h (.evaluateSelection (h.setDu { t.du with preferred := p }) _)

theorem configureRef (h : s.Linked t) (r : Ref) (e : Bool) (c : Nat) (d : Int) (p : Ref) :
    s.Linked (t.configureRef r e c d p) :=
  .setPreferred (.setTb (.setMon (h.setEnable r e) r _) _) p

end State.Linked

end Sys2Proof.Machine
end

section
/-! What every command does to the settings: O9. -/

namespace Sys2Proof.Machine

/-! ### TLU over every command -/

/-- The link speaks of TLU and DU alone. -/
theorem State.Linked.congr {s t x y : State} (h : x.Linked y) (htlu : x.tlu = s.tlu) (hdu : x.du = s.du)
    (htlu' : y.tlu = t.tlu) (hdu' : y.du = t.du) : s.Linked t := by
  obtain ⟨hset, hwf⟩ := h
  unfold State.TwinWf at hwf
  rw [htlu, hdu, htlu', hdu'] at hwf
  exact ⟨htlu ▸ htlu' ▸ hset, hwf⟩

theorem takeRequest_linked {kind : Nat} {act : List Byte → State → Acted}
    (h : ∀ p x, State.Linked x (act p x).state) (s : State) : s.Linked (takeRequest kind act s) := by
  unfold takeRequest
  split
  · exact .refl s
  · exact (h _ s.beginService).congr rfl rfl rfl rfl

theorem secondBoundary_linked (s : State) : s.Linked (secondBoundary s) := by
  unfold secondBoundary
  split
  · exact .refl s
  · next b rest _ =>
    have hset : s.Linked { s with tb := TimeBase.activate { s.tb with boundaries := rest } } := .setTb (.refl s) _
    unfold State.reactTo
    dsimp only
    have htrace := State.Linked.setDu hset
      { s.du with
        bound := (s.du.boundAt s.tb.trace.activate.active.growth b.dating).map BoundInForce.bound
        trace := s.du.traceAt s.tb.trace.activate.active (s.du.boundAt s.tb.trace.activate.active.growth b.dating) }
    refine .of_same ?_ (State.tickReaction_same _ b) (by decide) (by decide)
    have hchanged {u : State} (hu : s.Linked u) : s.Linked (u.traceChanged s.du.trace b.dating) := by
      unfold State.traceChanged
      refine .ite hu ?_
      have htold := State.Linked.of_same (hu.clockRecordAt (.traceState s.du.trace u.du.trace u.du.bound b.dating) b.dating)
        (State.tellScheduler_same _) (by simp [allGroups]) (by simp [allGroups])
      exact .ite (htold.formTwin _) htold
    have hcount {u : State} (hu : s.Linked u) : s.Linked u.countBoundary := by
      unfold State.countBoundary
      dsimp only
      have hsubmit (x : Body) : s.Linked (u.submit x) := hu.of_same (u.submit_same x) (by decide) (by decide)
      exact .ite (.setDu (hsubmit _) _) (.setDu hu _)
    exact hcount (hchanged htrace)

theorem removeInternal_linked (s : State) (x : Internal) : s.Linked (s.removeInternal x) := by
  cases x <;> exact .of_keeps (.refl s) (.refl _) rfl

theorem handOver_linked (s : State) (x : Internal) (seq : Option Nat) (now : Nat) : s.Linked (s.handOver x seq now) := by
  have hsubmit := State.Linked.of_same (removeInternal_linked s x)
    ((s.removeInternal x).submit_same (x.body seq now)) (by decide) (by decide)
  exact hsubmit.of_same (State.afterInternal_same _ x seq now _) (by decide) (by decide)

theorem internalGrant_linked (s : State) : s.Linked (internalGrant s) := by
  unfold internalGrant
  refine .ite (.refl s) ?_
  split
  · exact .refl s
  · next x _ =>
    refine .ite (.of_same (.refl s) s.exhaust_same (by simp [allPorts]) (by simp [allPorts])) ?_
    have hgrant : s.Linked (s.beginGrant.setSa (s.beginGrant.sa.countInternal x)) := .of_keeps (.refl s) (.refl _) rfl
    exact hgrant.trans (handOver_linked _ x _ _)

theorem twinConfig_form (payload : List Byte) (s : State) (h : s.TwinWf) : (twinConfig payload s).state.TwinWf := by
  unfold twinConfig
  split
  · exact h
  · split
    · dsimp only
      exact ((State.Linked.refl _).of_same (State.configChange_same _ _ _ _ _) (by decide) (by decide)).wf h
    · exact h

/-- Every action but TWIN_CONFIG keeps the settings of TLU, and all keep the form of the attachment. -/
theorem actOf_linked {c : Instr} (hc : c ≠ .twinConfig) (s : State) : s.Linked (actOf c s) := by
  have hs := State.Linked.refl s
  cases c with
  | twinConfig => exact absurd rfl hc
  | secondBoundary => exact secondBoundary_linked s
  | markEdge r => exact hs.markEdge r
  | timeMessage r bytes => exact hs.timeMessage r bytes
  | messageWaitExpiry r => exact hs.messageWaitExpiry r
  | missingMarkExpiry r => exact hs.missingMarkExpiry r
  | offerReceived bytes => exact hs.frameCommand bytes (.offer ⟨0, 0, 0⟩)
  | acceptReceived bytes => exact hs.frameCommand bytes (.accept ⟨0, 0, 0⟩)
  | refuseReceived bytes => exact hs.frameCommand bytes (.refuse 0 0)
  | byeReceived bytes => exact hs.frameCommand bytes .bye
  | probeReceived bytes => exact hs.frameCommand bytes (.probe 0)
  | echoReceived bytes => exact hs.frameCommand bytes (.echo 0 0 0)
  | statusReceived bytes => exact hs.frameCommand bytes (.status ⟨.unset, none, .unset, none, 0⟩)
  | twinBadFrame bytes =>
    show s.Linked (twinBadFrame bytes s)
    unfold twinBadFrame
    split
    · exact hs.setTlu_of_eq ⟨rfl, rfl, rfl, rfl⟩ rfl rfl rfl rfl rfl
    · exact hs.setTlu_of_eq ⟨rfl, rfl, rfl, rfl⟩ rfl rfl rfl rfl rfl
    · exact hs
    · exact hs
  | twinFrameSend =>
    show s.Linked (twinFrameSend s)
    unfold twinFrameSend
    split
    · exact hs
    · next f rest htransmit =>
      refine hs.setTlu ⟨⟨rfl, rfl, rfl, rfl⟩, rfl, rfl, rfl, List.length_map .., fun hle => ?_⟩
      rw [htransmit] at hle
      exact (Nat.le_succ _).trans hle
  | twinByteDiscarded byte => exact .ite (hs.setTlu_of_eq ⟨rfl, rfl, rfl, rfl⟩ rfl rfl rfl rfl rfl) hs
  | offerTimerExpiry =>
    refine .ite (.enterDetached ?_ _) hs
    exact hs.setTlu_of_eq ⟨rfl, rfl, rfl, rfl⟩ rfl rfl rfl rfl rfl
  | retryTimerExpiry =>
    show s.Linked (retryTimerExpiry s)
    unfold retryTimerExpiry
    split
    · next hdue => exact .twinChanged (hs.openOffer (.inr hdue.1)) _ _ _
    · exact hs
  | probeSpacingExpiry =>
    show s.Linked (probeSpacingExpiry s)
    unfold probeSpacingExpiry
    split
    · next hdue =>
      refine hs.formProbe fun hwf => ?_
      obtain ⟨_, _, _, _, hspacing⟩ := hwf
      have hrun : s.tlu.spacingTimer.isSome = true := by
        cases ht : s.tlu.spacingTimer with
        | none => exact absurd hdue.2.1 (by rw [ht]; exact nofun)
        | some _ => rfl
      have hlt := hspacing hrun
      rw [TwinState.cycleLength_eq] at hlt
      split at hlt <;> omega
    · exact hs
  | probeTimeout =>
    show s.Linked (probeTimeout s)
    unfold probeTimeout
    split
    · exact .ite (.closeProbe (hs.setTlu (s.tlu.keeps_of_filter _ _)) _) hs
    · exact hs
  | checkTimerExpiry =>
    show s.Linked (checkTimerExpiry s)
    unfold checkTimerExpiry
    split
    · next hdue =>
      refine .formProbe (hs.setCheckTimer _) fun _ => ?_
      show s.tlu.probes.length < 8
      rw [hdue.2.2]
      decide
    · exact hs
  | statusAgeLimit => exact .ite hs.withdrawAnchor hs
  | internalGrant => exact internalGrant_linked s
  | unsequencedHandoff =>
    show s.Linked (unsequencedHandoff s)
    unfold unsequencedHandoff
    refine .ite ?_ hs
    split
    · exact hs
    · exact handOver_linked s _ _ _
  | clockSet =>
    refine takeRequest_linked (fun p x => ?_) s
    unfold clockSet
    dsimp only
    split
    · split
      · exact (State.Linked.refl x).clockSetApplied _ _ _ _ _
      · exact .refl x
    · exact .refl x
  | refConfig =>
    refine takeRequest_linked (fun p x => ?_) s
    unfold refConfig
    split
    · exact State.Linked.of_same ((State.Linked.refl x).configureRef _ _ _ _ _) (State.configChange_same _ _ _ _ _)
        (by decide) (by decide)
    · exact .refl x
  | twinStart =>
    refine takeRequest_linked (fun p x => ?_) s
    unfold twinStart
    cases hx : x.tlu.state with
    | off => exact State.Linked.twinChanged ((State.Linked.refl x).openOffer (.inl hx)) .off .start none
    | _ => exact .refl x
  | twinStop =>
    refine takeRequest_linked (fun p x => ?_) s
    unfold twinStop
    cases x.tlu.state with
    | off => exact .refl x
    | _ => exact (State.Linked.refl x).stopTwin
  | _ =>
    refine hs.of_same (actOf_same _ s) ?_ ?_ <;>
      simp [actBlocks, portBlocks, groupBlocks, allPorts, allGroups]

end Sys2Proof.Machine
end

section
/-! The ranges of the settings over every command, and O9. -/

namespace Sys2Proof.Machine

/-! ### Clamped values and fields of bytes -/

theorem leNat_lt (bytes : List Byte) : leNat bytes < 256 ^ bytes.length := by
  induction bytes with
  | nil => exact Nat.one_pos
  | cons b bs ih =>
    rw [leNat, List.length_cons, Nat.pow_succ]
    have hb : b.toNat < 256 := b.isLt
    omega

theorem field_lt (bytes : List Byte) (off len : Nat) : field bytes off len < 256 ^ len :=
  (leNat_lt _).trans_le (Nat.pow_le_pow_right (by decide) (List.length_take_le _ _))

/-- A signed byte keeps the range of a UTC offset. -/
theorem fieldInt_one_inRange (bytes : List Byte) (off : Nat) : offsetInRange (fieldInt bytes off 1) := by
  have hlen : (slice bytes off 1).length ≤ 1 := List.length_take_le _ _
  have hlt := leNat_lt (slice bytes off 1)
  unfold fieldInt leInt
  dsimp only
  rcases Nat.le_one_iff_eq_zero_or_eq_one.mp hlen with h | h <;> rw [h] at hlt ⊢
  · exact ⟨by split <;> omega, by split <;> omega⟩
  · exact ⟨by split <;> omega, by split <;> omega⟩

theorem clampQ_value (lo hi n : Nat) (h : lo ≤ hi) : lo ≤ (clampQ lo hi n).value ∧ (clampQ lo hi n).value ≤ hi :=
  ⟨le_max_left _ _, max_le h (min_le_left _ _)⟩

theorem clampServo_inRange (gp gi threshold : Nat) : (clampServo gp gi threshold).value.InRange :=
  ⟨(clampQ_value 0 1000 gp (by decide)).2, (clampQ_value 0 250 gi (by decide)).2,
    clampQ_value 10000 10000000 threshold (by decide)⟩

theorem clampTrace_inRange (growth advisory limit interval : Nat) :
    (clampTrace growth advisory limit interval).value.InRange := by
  obtain ⟨hg, hg'⟩ := clampQ_value 1 10000 growth (by decide)
  obtain ⟨hl, hl'⟩ := clampQ_value 1000 1000000 limit (by decide)
  obtain ⟨ha, _⟩ := clampQ_value 1000 1000000 advisory (by decide)
  exact ⟨hg, hg', le_min ha hl, min_le_right _ _, hl', clampQ_value 10 3600 interval (by decide)⟩

theorem clampDelay_inRange (i : Int) : delayInRange (clampDelay i).value :=
  ⟨le_max_left _ _, max_le (by decide) (min_le_left _ _)⟩

/-! ### The Time Base -/

/-- The offset and the four slots keep their ranges. -/
def TimeBase.SettingsWf (x : TimeBase) : Prop :=
  x.servo.All Servo.InRange ∧ x.trace.All Trace.InRange ∧ x.delayA.All delayInRange ∧ x.delayB.All delayInRange ∧
    offsetInRange x.utcOffset

theorem Slot.All.activate {α : Type} {p : α → Prop} {x : Slot α} (h : x.All p) : x.activate.All p := by
  unfold Slot.activate
  split
  · next v hv => exact ⟨h.2 v hv, nofun⟩
  · exact h

theorem Slot.All.stage {α : Type} {p : α → Prop} {x : Slot α} (h : x.All p) {v : α} (hv : p v) : (x.stage v).All p :=
  ⟨h.1, fun _ hw => Option.some.inj hw ▸ hv⟩

namespace TimeBase.SettingsWf

variable {x y : TimeBase}

theorem congr (h : x.SettingsWf) (k : x.SameSlots y) (hoffset : y.utcOffset = x.utcOffset) : y.SettingsWf := by
  unfold TimeBase.SettingsWf
  rw [k.servo, k.trace, k.delayA, k.delayB, hoffset]
  exact h

theorem of_driven (h : x.SettingsWf) {portOpen : Bool} (k : x.DrivenTo offsetInRange portOpen y) : y.SettingsWf := by
  obtain ⟨hservo, htrace, hA, hB, hoffset⟩ := h
  unfold TimeBase.SettingsWf
  rw [k.slots.servo, k.slots.trace, k.slots.delayA, k.slots.delayB]
  exact ⟨hservo, htrace, hA, hB, k.offset hoffset⟩

theorem activate (h : x.SettingsWf) : x.activate.SettingsWf := by
  obtain ⟨hservo, htrace, hA, hB, hoffset⟩ := h
  exact ⟨hservo.activate, htrace.activate, hA.activate, hB.activate, hoffset⟩

theorem stageDelay (h : x.SettingsWf) (r : Ref) {d : Int} (hd : delayInRange d) : (x.stageDelay r d).SettingsWf := by
  obtain ⟨hservo, htrace, hA, hB, hoffset⟩ := h
  cases r
  · exact ⟨hservo, htrace, hA.stage hd, hB, hoffset⟩
  · exact ⟨hservo, htrace, hA, hB.stage hd, hoffset⟩

end TimeBase.SettingsWf

/-! ### The monitors -/

/-- A monitor keeps the range of its ceiling, and of the offset it adopted. -/
def Monitor.Settled (m : Monitor) : Prop := 10 ≤ m.ceiling ∧ m.ceiling ≤ 1000000 ∧ m.Adopts offsetInRange

/-- Every monitor keeps them. -/
def State.MonitorsSettled (s : State) : Prop := ∀ r, (s.mon r).Settled

namespace Monitor.Settled

variable {m n : Monitor} (h : m.Settled)

include h

theorem congr (hceiling : n.ceiling = m.ceiling) (hadopted : n.adopted = m.adopted) : n.Settled := by
  obtain ⟨hlo, hhi, hadopt⟩ := h
  exact ⟨hceiling ▸ hlo, hceiling ▸ hhi, hadopt.congr hadopted⟩

theorem close (reason : Option Reason) : (m.close reason).Settled := by
  obtain ⟨hlo, hhi, hadopt⟩ := h
  have hceiling := (m.close_keeps reason).ceiling
  exact ⟨hceiling ▸ hlo, hceiling ▸ hhi, hadopt.close reason⟩

theorem judge {msg : TimeMessage} (hmsg : offsetInRange msg.utcOffset) (v : Verdict) : (m.judge msg v).Settled := by
  obtain ⟨hlo, hhi, hadopt⟩ := h
  have hceiling : (m.judge msg v).ceiling = m.ceiling := by
    obtain ⟨_, _, _, _, _, _, _, _, _, hc, _⟩ := m.judge_rest msg v
    exact hc
  exact ⟨hceiling ▸ hlo, hceiling ▸ hhi, hadopt.judge hmsg v⟩

theorem setEnable (enable : Bool) (tick : Nat) : (m.setEnable enable tick).Settled := by
  obtain ⟨hlo, hhi, hadopt⟩ := h
  have hceiling : (m.setEnable enable tick).ceiling = m.ceiling := by
    unfold Monitor.setEnable
    split
    · rfl
    · cases enable <;> rfl
  exact ⟨hceiling ▸ hlo, hceiling ▸ hhi, hadopt.setEnable enable tick⟩

end Monitor.Settled

section
variable {s : State} {r : Ref}

theorem State.MonitorsSettled.adopts (h : s.MonitorsSettled) : s.Adopts offsetInRange := fun q => (h q).2.2

theorem State.MonitorsSettled.of_mon {t : State} (h : s.MonitorsSettled) {bs : List Block} (k : s.SameBut t bs)
    (hbs : ∀ q, q ≠ r → .mon q ∉ bs) (hr : (t.mon r).Settled) : t.MonitorsSettled := fun q => by
  by_cases hq : q = r
  · exact hq ▸ hr
  · have hmon : t.mon q = s.mon q := k (.mon q) (hbs q hq)
    exact hmon ▸ h q

theorem State.MonitorsSettled.of_same {t : State} (h : s.MonitorsSettled) {bs : List Block} (k : s.SameBut t bs)
    (hbs : ∀ q, .mon q ∉ bs) : t.MonitorsSettled := fun q => by
  have hmon : t.mon q = s.mon q := k (.mon q) (hbs q)
  exact hmon ▸ h q

theorem State.closeNoLabel_mon_settled (h : (s.mon r).Settled) (p : PendingMark) :
    ((s.closeNoLabel r p).mon r).Settled := by
  rw [State.closeNoLabel, State.closeMark_mon, State.setMon_mon]
  exact Monitor.Settled.close (m := (s.mon r).dropMark) (h.congr rfl rfl) _

theorem markEdge_mon_settled (h : (s.mon r).Settled) : ((markEdge r s).mon r).Settled := by
  have hcapture : ((s.setMon r ((s.mon r).capture s.tick)).mon r).Settled := by
    rw [State.setMon_mon]
    exact h.congr rfl rfl
  have hopen {u : State} (hu : (u.mon r).Settled) (p : PendingMark) : ((u.openMark r p).mon r).Settled := by
    rw [State.openMark, State.setMon_mon]
    exact hu.congr rfl rfl
  unfold markEdge
  dsimp only
  split
  · split
    · exact hopen (State.closeNoLabel_mon_settled hcapture _) _
    · exact hopen hcapture _
  · exact h

theorem takeTimeMessage_offset {rx bytes : List Byte} {msg : TimeMessage} (h : takeTimeMessage rx bytes = .arrived msg) :
    offsetInRange msg.utcOffset := by
  unfold takeTimeMessage at h
  dsimp only at h
  split at h
  · cases h
  · split at h
    · cases h
    · split at h
      · cases h
        exact fieldInt_one_inRange _ _
      · cases h

theorem timeMessage_mon_settled (h : (s.mon r).Settled) (bytes : List Byte) :
    ((timeMessage r bytes s).mon r).Settled := by
  unfold timeMessage
  split
  · split
    · exact h
    · rw [State.setMon_mon]
      exact h.congr rfl rfl
    · next msg harrived =>
      cases hp : (s.mon r).pendingMark with
      | none =>
        unfold State.messageArrived
        simp only [hp]
        rw [State.setMon_mon]
        exact h.congr rfl rfl
      | some p =>
        rw [State.messageArrived_of_pending hp, State.closeMark_mon, State.setMon_mon]
        exact (Monitor.Settled.judge (m := (s.mon r).received) (h.congr rfl rfl) (takeTimeMessage_offset harrived) _).close _
  · exact h

theorem messageWaitExpiry_mon_settled (h : (s.mon r).Settled) : ((messageWaitExpiry r s).mon r).Settled := by
  unfold messageWaitExpiry
  split
  · split
    · exact State.closeNoLabel_mon_settled h _
    · exact h
  · exact h

theorem missingMarkExpiry_mon_settled (h : (s.mon r).Settled) : ((missingMarkExpiry r s).mon r).Settled := by
  unfold missingMarkExpiry
  split
  · rw [State.closeMark_mon, State.setMon_mon]
    exact Monitor.Settled.close (m := (s.mon r).missEdge s.tick) (h.congr rfl rfl) _
  · exact h

theorem refByteDiscarded_mon_settled (h : (s.mon r).Settled) (byte : Byte) :
    ((refByteDiscarded r byte s).mon r).Settled := by
  unfold refByteDiscarded
  dsimp only
  split
  · rw [State.setMon_mon]
    exact h.congr rfl rfl
  · exact h

theorem refConfig_settled (payload : List Byte) (h : s.MonitorsSettled) :
    (refConfig payload s).state.MonitorsSettled := by
  unfold refConfig
  split
  · next r enable preferred _ _ _ =>
    intro q
    dsimp only
    rw [show ((State.says (State.configChange _ _ _ _ _) _ _).state.mon q) = _ from
      State.configChange_same _ _ _ _ _ (.mon q) (by simp), State.configureRef_mon]
    split
    · obtain ⟨hlo, hhi⟩ := clampQ_value 10 1000000 (field payload 2 4) (by decide)
      obtain ⟨_, _, hadopt⟩ := Monitor.Settled.setEnable (h r) enable s.tick
      exact ⟨hlo, hhi, hadopt⟩
    · exact h q
  · exact h

theorem actOf_settled (c : Instr) (h : s.MonitorsSettled) : (actOf c s).MonitorsSettled := by
  cases c with
  | markEdge r => exact h.of_mon (markEdge_same s r) (fun _ => mon_not_mem_markBlocks) (markEdge_mon_settled (h r))
  | timeMessage r bytes =>
    exact h.of_mon (timeMessage_same s r bytes) (fun _ => mon_not_mem_markBlocks) (timeMessage_mon_settled (h r) bytes)
  | messageWaitExpiry r =>
    exact h.of_mon (messageWaitExpiry_same s r) (fun _ => mon_not_mem_markBlocks) (messageWaitExpiry_mon_settled (h r))
  | missingMarkExpiry r =>
    exact h.of_mon (missingMarkExpiry_same s r) (fun _ => mon_not_mem_markBlocks) (missingMarkExpiry_mon_settled (h r))
  | refByteDiscarded r byte =>
    exact h.of_mon (refByteDiscarded_same s r byte) (fun q hq => by simp [hq]) (refByteDiscarded_mon_settled (h r) byte)
  | refConfig =>
    show (takeRequest _ refConfig s).MonitorsSettled
    unfold takeRequest
    split
    · exact h
    · next q _ =>
      have hx := refConfig_settled (s := s.beginService) q.payload (fun r => by cases r <;> [exact h .a; exact h .b])
      intro r
      cases r <;> [exact hx .a; exact hx .b]
  | _ =>
    refine h.of_same (actOf_same _ s) fun q => ?_
    simp [actBlocks, boundaryBlocks, disciplineBlocks, twinBlocks, portBlocks, groupBlocks, allPorts, allGroups]

end

/-! ### The slots and the offset over every action -/

theorem TimeBase.SettingsWf.of_same {s t : State} (h : s.tb.SettingsWf) {bs : List Block} (k : s.SameBut t bs)
    (hbs : .tb ∉ bs) : t.tb.SettingsWf := by
  rw [(k .tb hbs : t.tb = s.tb)]
  exact h

theorem TimeBase.tickOnce_sameSlots (x : TimeBase) : x.SameSlots x.tickOnce := by
  unfold TimeBase.tickOnce
  rw [raiseBoundary_eq]
  unfold TimeBase.advance
  dsimp only
  split <;> exact ⟨rfl, rfl, rfl, rfl⟩

theorem TimeBase.tickOnce_utcOffset (x : TimeBase) : x.tickOnce.utcOffset = x.utcOffset := by
  unfold TimeBase.tickOnce
  rw [raiseBoundary_eq]
  unfold TimeBase.advance
  dsimp only
  split <;> rfl

theorem clockSet_offset {s : State} (payload : List Byte) : s.Driven offsetInRange (clockSet payload s).state :=
  clockSet_driven (fieldInt_one_inRange payload 12)

theorem actOf_tbSettings (c : Instr) {s : State} (hmon : s.MonitorsSettled) (h : s.tb.SettingsWf) :
    (actOf c s).tb.SettingsWf := by
  have hadopts := hmon.adopts
  cases c with
  | oscillatorTick =>
    exact h.congr s.tb.tickOnce_sameSlots s.tb.tickOnce_utcOffset
  | secondBoundary =>
    rcases secondBoundary_tb s with htb | ⟨rest, htb⟩
    · exact htb ▸ h
    · refine Eq.subst (motive := TimeBase.SettingsWf) htb.symm (TimeBase.SettingsWf.activate ?_)
      exact h.congr ⟨rfl, rfl, rfl, rfl⟩ rfl
  | markEdge r => exact h.of_driven (markEdge_driven hadopts)
  | timeMessage r bytes => exact h.of_driven (timeMessage_driven hadopts bytes fun _ => takeTimeMessage_offset)
  | messageWaitExpiry r => exact h.of_driven (messageWaitExpiry_driven hadopts)
  | missingMarkExpiry r => exact h.of_driven (missingMarkExpiry_driven hadopts)
  | stampGrant =>
    rcases stampGrant_tb s with htb | htb
    · exact htb ▸ h
    · exact htb ▸ h.congr (y := s.tb.raised) ⟨rfl, rfl, rfl, rfl⟩ rfl
  | internalGrant =>
    rcases internalGrant_tb s with htb | htb
    · exact htb ▸ h
    · exact htb ▸ h.congr (y := s.tb.raised) ⟨rfl, rfl, rfl, rfl⟩ rfl
  | clockSet =>
    refine takeRequest_tb (R := fun _ y => y.SettingsWf) h fun payload x htb _ _ => ?_
    exact (htb ▸ h : x.tb.SettingsWf).of_driven (clockSet_offset payload)
  | refConfig =>
    refine takeRequest_tb (R := fun _ y => y.SettingsWf) h fun payload x htb _ hmon => ?_
    have hx : x.tb.SettingsWf := htb ▸ h
    have hadopts' : x.Adopts offsetInRange := fun r => hmon r ▸ hadopts r
    unfold refConfig
    split
    · next r enable preferred _ _ _ =>
      obtain ⟨y, hy, hlast⟩ := State.configureRef_tb (r := r) hadopts' enable (clampCeiling (field payload 2 4)).value
        (clampDelay (fieldInt payload 6 4)).value preferred
      dsimp only
      rw [show (State.says (State.configChange _ _ _ _ _) _ _).state.tb = _ from
        State.configChange_same _ _ _ _ _ .tb (by simp)]
      exact ((hx.of_driven hy).stageDelay r (clampDelay_inRange _)).of_driven hlast
    · exact hx
  | servoConfig =>
    refine takeRequest_tb (R := fun _ y => y.SettingsWf) h fun payload x htb _ _ => ?_
    unfold servoConfig
    dsimp only
    rw [show (State.says (State.configChange _ _ _ _ _) _ _).state.tb = _ from
      State.configChange_same _ _ _ _ _ .tb (by simp), htb]
    obtain ⟨hservo, hrest⟩ := h
    exact ⟨hservo.stage (clampServo_inRange _ _ _), hrest⟩
  | traceConfig =>
    refine takeRequest_tb (R := fun _ y => y.SettingsWf) h fun payload x htb _ _ => ?_
    unfold traceConfig
    dsimp only
    rw [show (State.says (State.configChange _ _ _ _ _) _ _).state.tb = _ from
      State.configChange_same _ _ _ _ _ .tb (by simp), htb]
    obtain ⟨hservo, htrace, hrest⟩ := h
    exact ⟨hservo, htrace.stage (clampTrace_inRange _ _ _ _), hrest⟩
  | _ =>
    refine h.of_same (actOf_same _ s) ?_
    simp [actBlocks, twinBlocks, portBlocks, groupBlocks, allPorts, allGroups]

/-! ### The settings of TLU -/

/-- TLU keeps the ranges of its settings. -/
def TwinLink.SettingsWf (x : TwinLink) : Prop :=
  1000 ≤ x.limit ∧ x.limit ≤ 1000000 ∧ x.allowance ≤ 100000 ∧ 4 ≤ x.period ∧ x.period ≤ 60 ∧ x.venue ≤ 65535

theorem TwinLink.SettingsWf.congr {x y : TwinLink} (h : x.SettingsWf) (k : x.SameSettings y) : y.SettingsWf := by
  unfold TwinLink.SettingsWf
  rw [k.limit, k.allowance, k.period, k.venue]
  exact h

theorem twinConfig_settings (payload : List Byte) {s : State} (h : s.tlu.SettingsWf) :
    (twinConfig payload s).state.tlu.SettingsWf := by
  unfold twinConfig
  split
  · exact h
  · split
    · dsimp only
      rw [show (State.says (State.configChange _ _ _ _ _) _ _).state.tlu = _ from
        State.configChange_same _ _ _ _ _ .tlu (by simp)]
      obtain ⟨hl, hl'⟩ := clampQ_value 1000 1000000 (field payload 0 4) (by decide)
      obtain ⟨hp, hp'⟩ := clampQ_value 4 60 (field payload 8 1) (by decide)
      exact ⟨hl, hl', (clampQ_value 0 100000 (field payload 4 4) (by decide)).2, hp, hp',
        Nat.le_of_lt_succ (field_lt payload 9 2)⟩
    · exact h

theorem actOf_twinSettings (c : Instr) {s : State} (h : s.tlu.SettingsWf) : (actOf c s).tlu.SettingsWf := by
  by_cases hc : c = .twinConfig
  · subst hc
    show (takeRequest _ twinConfig s).tlu.SettingsWf
    unfold takeRequest
    split
    · exact h
    · exact twinConfig_settings (s := s.beginService) _ h
  · exact h.congr (actOf_linked hc s).settings

/-! ### The selectors -/

/-- The selectors keep the range of code and mask. -/
def Selectors.InRange (x : Selectors) : Prop := x.first.inRange = true ∧ x.second.inRange = true

/-- The selectors keep their range from one state to the next. -/
def State.SelectorsKept (s t : State) : Prop := s.aj.selectors.InRange → t.aj.selectors.InRange

namespace State.SelectorsKept

variable {s t u : State}

theorem of_eq (h : t.aj.selectors = s.aj.selectors) : s.SelectorsKept t := fun hs => h ▸ hs

theorem refl (s : State) : s.SelectorsKept s := id

theorem trans (h : s.SelectorsKept t) (k : t.SelectorsKept u) : s.SelectorsKept u := k ∘ h

theorem of_same {bs : List Block} (h : s.SameBut t bs) (haj : .aj ∉ bs) : s.SelectorsKept t :=
  of_eq (congrArg Journal.selectors (h .aj haj : t.aj = s.aj))

end State.SelectorsKept

theorem State.Logged.selectorsKept {s t : State} (h : s.Logged t) : s.SelectorsKept t := .of_eq h.selectors

theorem takeRequest_selectorsKept {kind : Nat} {act : List Byte → State → Acted}
    (h : ∀ p x, State.SelectorsKept x (act p x).state) (s : State) : s.SelectorsKept (takeRequest kind act s) := by
  unfold takeRequest
  split
  · exact .refl s
  · exact h _ s.beginService

theorem handOver_selectorsKept (s : State) (x : Internal) (seq : Option Nat) (now : Nat) :
    s.SelectorsKept (s.handOver x seq now) := by
  refine .of_eq ?_
  rw [State.handOver_aj, State.submit_selectors]

theorem selectConfig_selectorsKept (payload : List Byte) (s : State) :
    s.SelectorsKept (selectConfig payload s).state := by
  unfold selectConfig
  split
  · exact .refl s
  · next new _ =>
    split
    · next hnew =>
      intro _
      show (State.admin { s with aj := { s.aj with selectors := new } } _).aj.selectors.InRange
      rw [State.admin, State.submit_selectors]
      exact hnew
    · exact .refl s

theorem secondBoundary_selectorsKept (s : State) : s.SelectorsKept (secondBoundary s) := by
  unfold secondBoundary
  split
  · exact .refl s
  · next b rest _ =>
    refine State.SelectorsKept.trans (State.Logged.selectorsKept ?_)
      (.of_same (State.tickReaction_same _ b) (by decide))
    exact .countBoundary (.traceChanged (.setDu (.setTb (.setTb (.refl s) _) _) _) _ _)

theorem internalGrant_selectorsKept (s : State) : s.SelectorsKept (internalGrant s) := by
  unfold internalGrant
  split
  · exact .refl s
  · split
    · exact .refl s
    · next x hx =>
      split
      · exact (State.Logged.refl s).exhaust.selectorsKept
      · exact handOver_selectorsKept (s.beginGrant.setSa _) x _ _

theorem journalRelease_selectorsKept (payload : List Byte) (s : State) :
    s.SelectorsKept (journalRelease payload s).state := by
  refine .of_eq ?_
  show (State.gap { s with aj := s.aj.release (min (field payload 0 4) s.aj.newest) }).aj.selectors = _
  unfold State.gap
  split <;> rfl

theorem actOf_selectorsKept (c : Instr) (s : State) : s.SelectorsKept (actOf c s) := by
  cases hlog : onlyLogs c with
  | true => exact (actOf_logged hlog s).selectorsKept
  | false =>
    cases hreq : loggingRequest c with
    | some x =>
      rw [actOf_loggingRequest (kind := x.1) (act := x.2) hreq]
      exact takeRequest_selectorsKept
        (fun p y => (loggingRequest_logged (kind := x.1) (act := x.2) hreq p y).selectorsKept) s
    | none =>
      cases c with
      | secondBoundary => exact secondBoundary_selectorsKept s
      | internalGrant => exact internalGrant_selectorsKept s
      | unsequencedHandoff =>
        show s.SelectorsKept (unsequencedHandoff s)
        unfold unsequencedHandoff
        split
        · split
          · exact .refl s
          · exact handOver_selectorsKept s _ _ _
        · exact .refl s
      | journalRead => exact takeRequest_selectorsKept (fun _ _ => .of_eq rfl) s
      | journalRelease => exact takeRequest_selectorsKept journalRelease_selectorsKept s
      | selectConfig => exact takeRequest_selectorsKept selectConfig_selectorsKept s
      | settingsSaveComplete readBack =>
        show s.SelectorsKept (settingsSaveComplete readBack s)
        unfold settingsSaveComplete
        split
        · exact .refl s
        · next sv _ =>
          split
          · have hadmin : s.Logged (State.admin { s with ss := { s.ss with profile := readBack, save := none } }
                (.settingsSaved (sv.outcome readBack))) :=
              State.Logged.admin (t := { s with ss := { s.ss with profile := readBack, save := none } }) (.refl s) _
            exact hadmin.selectorsKept.trans (.of_same (State.answerInService_same _ _) (by decide))
          · exact .refl s
      | restart =>
        show s.SelectorsKept (restart s)
        unfold restart
        split
        · exact .refl s
        · have hblocks : s.SelectorsKept s.beginService.restartBlocks :=
            (State.Logged.refl s.beginService).restartBlocks.selectorsKept
          dsimp only
          generalize s.beginService.restartBlocks = u at hblocks ⊢
          exact hblocks
      | controlFrame | controlBadLength | controlByteDiscarded | answerBusyReply | unknownRequest | controlTransmitStart
      | controlFrameSent | journalMark | noticeConfig | settingsSave =>
        exact .of_same (actOf_same _ s) (by simp [actBlocks])
      | _ => first | (cases hreq; done) | cases hlog

/-! ### Start-up -/

/-- The values that start-up takes keep their ranges. -/
def Settings.InRange (x : Settings) : Prop :=
  x.servo.InRange ∧ x.trace.InRange ∧ delayInRange x.refA.delay ∧ delayInRange x.refB.delay ∧
    (10 ≤ x.refA.ceiling ∧ x.refA.ceiling ≤ 1000000) ∧ (10 ≤ x.refB.ceiling ∧ x.refB.ceiling ≤ 1000000) ∧
    (1000 ≤ x.twin.limit ∧ x.twin.limit ≤ 1000000 ∧ x.twin.allowance ≤ 100000 ∧ 4 ≤ x.twin.period ∧ x.twin.period ≤ 60 ∧
      x.venue ≤ 65535) ∧ x.selectors.InRange

theorem readRefSettings_inRange {bytes : List Byte} {off : Nat} {x : RefSettings}
    (h : readRefSettings bytes off = some x) : delayInRange x.delay ∧ 10 ≤ x.ceiling ∧ x.ceiling ≤ 1000000 := by
  unfold readRefSettings at h
  obtain ⟨enable, _, rfl⟩ := Option.map_eq_some_iff.mp h
  exact ⟨clampDelay_inRange _, clampQ_value 10 1000000 _ (by decide)⟩

theorem profileSelectors_inRange {bytes : List Byte} {x : Selectors} (h : profileSelectors bytes = some x) :
    x.InRange := by
  unfold profileSelectors at h
  split at h
  · split at h
    · next hrange =>
      cases h
      exact hrange
    · cases h
  · cases h

theorem readProfile_inRange {bytes : List Byte} {x : Settings} (h : readProfile bytes = some x) : x.InRange := by
  unfold readProfile at h
  split at h
  · next refA refB preferred start selectors enables hA hB _ _ hselectors _ =>
    cases h
    obtain ⟨hdA, hcA⟩ := readRefSettings_inRange hA
    obtain ⟨hdB, hcB⟩ := readRefSettings_inRange hB
    obtain ⟨hl, hl'⟩ := clampQ_value 1000 1000000 (field bytes 39 4) (by decide)
    obtain ⟨hp, hp'⟩ := clampQ_value 4 60 (field bytes 47 1) (by decide)
    exact ⟨clampServo_inRange _ _ _, clampTrace_inRange _ _ _ _, hdA, hdB, hcA, hcB,
      ⟨hl, hl', (clampQ_value 0 100000 (field bytes 43 4) (by decide)).2, hp, hp', Nat.le_of_lt_succ (field_lt bytes 48 2)⟩,
      profileSelectors_inRange hselectors⟩
  · cases h

theorem defaultSettings_inRange : Settings.InRange {} := by
  refine ⟨?_, ?_, ?_, ?_, ?_, ?_, ?_, rfl, rfl⟩ <;> decide

theorem loaded_inRange (stored : List Byte) : ((loadProfile stored).getD {}).InRange := by
  cases h : loadProfile stored with
  | none => exact defaultSettings_inRange
  | some x =>
    unfold loadProfile at h
    split at h
    · exact readProfile_inRange h
    · cases h

theorem startMonitor_settled {x : RefSettings} (h : 10 ≤ x.ceiling ∧ x.ceiling ≤ 1000000) :
    (startMonitor x).Settled := by
  unfold startMonitor
  split <;> exact ⟨h.1, h.2, nofun⟩

/-! ### O9 -/

/-- The settings of every block together. -/
def State.Settled (s : State) : Prop :=
  s.tb.SettingsWf ∧ s.MonitorsSettled ∧ s.tlu.SettingsWf ∧ s.aj.selectors.InRange

theorem State.settled_iff (s : State) : s.Settled ↔ s.SettingsWf := by
  constructor
  · rintro ⟨⟨h1, h2, h3, h4, h5⟩, hmon, ⟨l1, l2, l3, l4, l5, l6⟩, hsel⟩
    exact ⟨h1, h2, h3, h4, h5, hmon, l1, l2, l3, l4, l5, l6, hsel⟩
  · rintro ⟨h1, h2, h3, h4, h5, hmon, l1, l2, l3, l4, l5, l6, hsel⟩
    exact ⟨⟨h1, h2, h3, h4, h5⟩, hmon, ⟨l1, l2, l3, l4, l5, l6⟩, hsel⟩

theorem actOf_keepsSettled (c : Instr) (s : State) (h : s.Settled) : (actOf c s).Settled := by
  obtain ⟨htb, hmon, htlu, hsel⟩ := h
  exact ⟨actOf_tbSettings c hmon htb, actOf_settled c hmon, actOf_twinSettings c htlu, actOf_selectorsKept c s hsel⟩

theorem resetHeld_settled (cause : ResetCause) (s : State) : (resetHeld cause s).Settled := by
  refine ⟨?_, fun r => ?_, ?_, rfl, rfl⟩
  · refine ⟨⟨?_, nofun⟩, ⟨?_, nofun⟩, ⟨?_, nofun⟩, ⟨?_, nofun⟩, ?_⟩ <;>
      · dsimp only [resetHeld]
        decide
  · cases r <;> refine ⟨?_, ?_, nofun⟩ <;>
      · dsimp only [resetHeld, State.mon]
        decide
  · unfold TwinLink.SettingsWf
    dsimp only [resetHeld]
    decide

theorem startBlocks_settled (cause : ResetCause) (s : State) : (startBlocks cause s).Settled := by
  obtain ⟨hservo, htrace, hdA, hdB, hcA, hcB, htwin, hsel⟩ := loaded_inRange s.ss.profile
  refine ⟨⟨⟨hservo, nofun⟩, ⟨htrace, nofun⟩, ⟨hdA, nofun⟩, ⟨hdB, nofun⟩, ?_⟩, fun r => ?_, htwin, hsel⟩
  · exact (⟨by decide, by decide⟩ : offsetInRange (({} : TimeBase).utcOffset))
  · cases r <;> exact startMonitor_settled (by assumption)

/-- TLU behind the STARTUP record is in OFF or DETACHED, from which it may open an OFFER (R80). -/
theorem startUpFrom_linked (cause : ResetCause) (s : State) : (startBlocks cause s).Linked (startUpFrom cause s) := by
  have hstate : (startBlocks cause s).tlu.state = .off ∨ (startBlocks cause s).tlu.state = .detached := by
    show (if _ then TwinState.detached else .off) = .off ∨ (if _ then TwinState.detached else .off) = .detached
    split
    · exact .inr rfl
    · exact .inl rfl
  have hadmin (e : AdminEvent) : (startBlocks cause s).SameBut ((startBlocks cause s).admin e) [.aj, .clu] :=
    State.admin_same _ e
  have hnotice (e : AdminEvent) (f : List Fld) :
      (startBlocks cause s).SameBut (((startBlocks cause s).admin e).notice .startup f) [.aj, .clu] :=
    (hadmin e).trans ((State.notice_same _ _ f).mono (by decide))
  have hlinked (e : AdminEvent) (f : List Fld) :
      (startBlocks cause s).Linked (((startBlocks cause s).admin e).notice .startup f).offerAtStart := by
    have h := State.Linked.of_same (.refl _) (hnotice e f) (by decide) (by decide)
    have htlu : (((startBlocks cause s).admin e).notice .startup f).tlu = (startBlocks cause s).tlu :=
      hnotice e f .tlu (by decide)
    exact .ite (.twinChanged (h.openOffer (htlu ▸ hstate)) _ _ _) h
  exact hlinked _ _

theorem startUpFrom_settled (cause : ResetCause) (s : State) : (startUpFrom cause s).Settled := by
  obtain ⟨htb, hmon, htlu, hsel⟩ := startBlocks_settled cause s
  have k := startUpFrom_same cause s
  exact ⟨htb.of_same k (by simp), hmon.of_same k (by simp), htlu.congr (startUpFrom_linked cause s).settings,
    (startUpFrom_logged cause s).selectorsKept hsel⟩

theorem resetHeld_tb_wf (cause : ResetCause) (s : State) : (resetHeld cause s).tb.Wf := by
  dsimp only [resetHeld]
  decide

theorem startUpFrom_tb_wf (cause : ResetCause) (s : State) : (startUpFrom cause s).tb.Wf := by
  rw [show (startUpFrom cause s).tb = (startBlocks cause s).tb from startUpFrom_same cause s .tb (by simp)]
  exact (by decide : TimeBase.Wf {})

/-- Settles O9: what TB does at each action, and the settings that each action writes. -/
theorem timeBaseKeepsItsRanges : Obligations.TimeBaseKeepsItsRanges := by
  refine ⟨fun s t => step_keeps (P := fun x => x.tb.Wf) (fun _ _ h => h) (fun cause s _ => resetHeld_tb_wf cause s)
    (fun cause s _ => startUpFrom_tb_wf cause s) fun c s h => (actOf_moves c s h).1, fun s t hs hstep => ?_⟩
  exact t.settled_iff.mp (step_keeps (P := State.Settled) (fun _ _ h => h) (fun cause s _ => resetHeld_settled cause s)
    (fun cause s _ => startUpFrom_settled cause s) actOf_keepsSettled (s.settled_iff.mpr hs) hstep)

end Sys2Proof.Machine
end

section
/-! The expiries of a group and its catch-up, as the group record and GS's list see them, and O14. -/

namespace Sys2Proof.Machine

/-! ### One expiry (R120 to R122) -/

/-- The group record behind the expiry of its pending instant, `quality` being the traceability state. -/
def Group.expired (x : Group) (quality : TraceState) : Group :=
  match x.phase with
  | .scheduled => { x with phase := .call }
  | .call => { x with phase := .random }
  | .random => x.close quality
  | .dormant | .suspended | .closed | .abandoned => x

/-- The record that the expiry forms, if one is pending. -/
def Group.expiryRecords (x : Group) (g : GroupIx) (quality : TraceState) (now : Nat) : List AuctionRecord :=
  match x.phase with
  | .scheduled => [(x.expired quality).record g .callStart (x.tc.getD 0) now]
  | .call => [(x.expired quality).record g .windowStart (x.tMin.getD 0) now]
  | .random =>
    [{ (x.expired quality).record g .close (x.tEnd.getD 0) now with
        accepted := some x.accepted
        lastSeq := x.lastSeq
        closeQuality := some quality }]
  | .dormant | .suspended | .closed | .abandoned => []

/-- The group record with its pending instant taken, if it has been reached. -/
def Group.advance (x : Group) (quality : TraceState) (now : Nat) : Group :=
  if (x.reached now).isSome then x.expired quality else x

/-- The record that this forms. -/
def Group.advanceRecords (x : Group) (g : GroupIx) (quality : TraceState) (now : Nat) : List AuctionRecord :=
  if (x.reached now).isSome then x.expiryRecords g quality now else []

/-- The group record behind `n` reached expiries. -/
def Group.caught (quality : TraceState) (now : Nat) : Nat → Group → Group
  | 0, x => x
  | n + 1, x => Group.caught quality now n (x.advance quality now)

/-- The records of these expiries. -/
def Group.caughtRecords (g : GroupIx) (quality : TraceState) (now : Nat) : Nat → Group → List AuctionRecord
  | 0, _ => []
  | n + 1, x => x.advanceRecords g quality now ++ Group.caughtRecords g quality now n (x.advance quality now)

section
variable (s : State) (g : GroupIx) (x : Group) (r : AuctionRecord) (now : Nat) (notify : Bool)

@[simp] theorem State.auctionStep_group : (s.auctionStep g x r notify).group g = x := by
  unfold auctionStep
  dsimp only
  split <;> exact s.setGroup_group g x

theorem State.auctionStep_records : (s.auctionStep g x r notify).gs.records = s.gs.records ++ [r] := by
  unfold auctionStep
  dsimp only
  split <;> rfl

theorem State.takeExpiry_group : (s.takeExpiry g now notify).group g = (s.group g).expired s.du.trace := by
  unfold takeExpiry Group.expired
  dsimp only
  cases h : (s.group g).phase with
  | scheduled | call | random => exact s.auctionStep_group g _ _ _
  | _ => rfl

theorem State.takeExpiry_records :
    (s.takeExpiry g now notify).gs.records = s.gs.records ++ (s.group g).expiryRecords g s.du.trace now := by
  unfold takeExpiry Group.expiryRecords Group.expired
  dsimp only
  cases h : (s.group g).phase with
  | scheduled | call | random => exact s.auctionStep_records g _ _ _
  | _ => exact (List.append_nil _).symm

theorem State.takeReached_eq :
    s.takeReached g now notify = if ((s.group g).reached now).isSome then s.takeExpiry g now notify else s := by
  unfold takeReached
  cases (s.group g).reached now <;> rfl

theorem State.takeReached_group :
    (s.takeReached g now notify).group g = (s.group g).advance s.du.trace now := by
  rw [takeReached_eq, Group.advance]
  split
  · exact s.takeExpiry_group g now notify
  · rfl

theorem State.takeReached_records :
    (s.takeReached g now notify).gs.records = s.gs.records ++ (s.group g).advanceRecords g s.du.trace now := by
  rw [takeReached_eq, Group.advanceRecords]
  split
  · exact s.takeExpiry_records g now notify
  · exact (List.append_nil _).symm

theorem State.takeReached_trace : (s.takeReached g now notify).du.trace = s.du.trace :=
  congrArg Discipline.trace (s.takeReached_same g now notify .du (by simp))

/-- R119: what the catch-up leaves of its group. -/
theorem State.catchUp_group : (s.catchUp g now notify).group g = Group.caught s.du.trace now 3 (s.group g) := by
  simp only [catchUp, takeReached_group, takeReached_trace, Group.caught]

/-- R119: the records of the catch-up. -/
theorem State.catchUp_records :
    (s.catchUp g now notify).gs.records =
      s.gs.records ++ Group.caughtRecords g s.du.trace now 3 (s.group g) := by
  simp only [catchUp, takeReached_records, takeReached_group, takeReached_trace, Group.caughtRecords, List.append_nil,
    List.append_assoc]

end

/-! ### The expiries that are left -/

/-- The expiries a stored phase has before it (R120). -/
def Phase.left : Phase → Nat
  | .scheduled => 3
  | .call => 2
  | .random => 1
  | .dormant | .suspended | .closed | .abandoned => 0

namespace Group

variable {x : Group} {now : Nat} {quality : TraceState}

theorem reached_eq_none_of_left (h : x.phase.left = 0) : x.reached now = none := by
  unfold reached pendingInstant
  cases hp : x.phase <;> rw [hp] at h <;> first | rfl | cases h

theorem left_expired (h : x.phase.left ≠ 0) : (x.expired quality).phase.left + 1 = x.phase.left := by
  unfold expired
  cases hp : x.phase <;> rw [hp] at h <;> first | rfl | exact absurd rfl h

theorem left_pos_of_reached {i : Nat} (h : x.reached now = some i) : x.phase.left ≠ 0 := fun h0 => by
  rw [reached_eq_none_of_left h0] at h
  cases h

theorem advance_of_reached {i : Nat} (h : x.reached now = some i) : x.advance quality now = x.expired quality := by
  simp [advance, h]

theorem advance_of_none (h : x.reached now = none) : x.advance quality now = x := by
  simp [advance, h]

theorem caught_of_none (h : x.reached now = none) (n : Nat) : caught quality now n x = x := by
  induction n with
  | zero => rfl
  | succ n ih => rw [caught, advance_of_none h, ih]

theorem caughtRecords_of_none (h : x.reached now = none) (g : GroupIx) (n : Nat) :
    caughtRecords g quality now n x = [] := by
  induction n with
  | zero => rfl
  | succ n ih => rw [caughtRecords, advance_of_none h, ih, advanceRecords, h]; rfl

/-- Behind every expiry that can be left, no pending instant is reached. -/
theorem caught_reached {n : Nat} (h : x.phase.left ≤ n) : (caught quality now n x).reached now = none := by
  induction n generalizing x with
  | zero => exact reached_eq_none_of_left (Nat.le_zero.mp h)
  | succ n ih =>
    rw [caught]
    cases hr : x.reached now with
    | none => rw [advance_of_none hr, caught_of_none hr, hr]
    | some i =>
      have hleft := left_expired (quality := quality) (left_pos_of_reached hr)
      rw [advance_of_reached hr]
      exact ih (by omega)

theorem caught_succ {n : Nat} (h : x.phase.left ≤ n) : caught quality now (n + 1) x = caught quality now n x := by
  induction n generalizing x with
  | zero => exact caught_of_none (reached_eq_none_of_left (Nat.le_zero.mp h)) 1
  | succ n ih =>
    cases hr : x.reached now with
    | none => rw [caught_of_none hr, caught_of_none hr]
    | some i =>
      have hleft := left_expired (quality := quality) (left_pos_of_reached hr)
      show caught quality now (n + 1) (x.advance quality now) = caught quality now n (x.advance quality now)
      rw [advance_of_reached hr]
      exact ih (by omega)

theorem left_le (p : Phase) : p.left ≤ 3 := by cases p <;> decide

/-- The catch-up behind a reached expiry leaves what the catch-up before it does. -/
theorem caught_expired {i : Nat} (h : x.reached now = some i) :
    caught quality now 3 (x.expired quality) = caught quality now 3 x := by
  have hleft := left_expired (quality := quality) (left_pos_of_reached h)
  have hle := left_le x.phase
  calc caught quality now 3 (x.expired quality)
    _ = caught quality now 2 (x.expired quality) := caught_succ (by omega)
    _ = caught quality now 3 x := by rw [← advance_of_reached h]; rfl

end Group

/-! ### The instants in force -/

namespace Group

variable {x : Group} {now : Nat} {quality : TraceState} {tc tm te : Nat}

theorem reached_of_scheduled (hp : x.phase = .scheduled) (htc : x.tc = some tc) :
    x.reached now = if tc ≤ now then some tc else none := by
  simp only [reached, pendingInstant, hp, htc]

theorem reached_of_call (hp : x.phase = .call) (htm : x.tMin = some tm) :
    x.reached now = if tm ≤ now then some tm else none := by
  simp only [reached, pendingInstant, hp, htm]

theorem reached_of_random (hp : x.phase = .random) (hte : x.tEnd = some te) :
    x.reached now = if te ≤ now then some te else none := by
  simp only [reached, pendingInstant, hp, hte]

theorem caught_of_random (hp : x.phase = .random) (hte : x.tEnd = some te) (n : Nat) :
    caught quality now (n + 1) x = if te ≤ now then x.close quality else x := by
  have hr := reached_of_random (now := now) hp hte
  by_cases h : te ≤ now
  · rw [if_pos h] at hr ⊢
    rw [caught, advance_of_reached hr, show x.expired quality = x.close quality by simp only [expired, hp]]
    exact caught_of_none (reached_eq_none_of_left rfl) n
  · rw [if_neg h] at hr ⊢
    exact caught_of_none hr _

theorem caught_of_call (hp : x.phase = .call) (htm : x.tMin = some tm) (hte : x.tEnd = some te) (n : Nat) :
    caught quality now (n + 2) x =
      if tm ≤ now then
        if te ≤ now then { x with phase := .closed, closeQuality := some quality, revealed := x.number }
        else { x with phase := .random }
      else x := by
  have hr := reached_of_call (now := now) hp htm
  by_cases h : tm ≤ now
  · rw [if_pos h] at hr ⊢
    rw [caught, advance_of_reached hr, show x.expired quality = { x with phase := .random } by simp only [expired, hp],
      caught_of_random (x := { x with phase := .random }) rfl hte n]
    rfl
  · rw [if_neg h] at hr ⊢
    exact caught_of_none hr _

theorem caught_of_scheduled (hp : x.phase = .scheduled) (htc : x.tc = some tc) (htm : x.tMin = some tm)
    (hte : x.tEnd = some te) :
    caught quality now 3 x =
      if tc ≤ now then
        if tm ≤ now then
          if te ≤ now then { x with phase := .closed, closeQuality := some quality, revealed := x.number }
          else { x with phase := .random }
        else { x with phase := .call }
      else x := by
  have hr := reached_of_scheduled (now := now) hp htc
  by_cases h : tc ≤ now
  · rw [if_pos h] at hr ⊢
    rw [caught, advance_of_reached hr, show x.expired quality = { x with phase := .call } by simp only [expired, hp],
      caught_of_call (x := { x with phase := .call }) rfl htm hte 0]
  · rw [if_neg h] at hr ⊢
    exact caught_of_none hr _

theorem advanceRecords_of_reached {i : Nat} (h : x.reached now = some i) (g : GroupIx) :
    x.advanceRecords g quality now = x.expiryRecords g quality now := by
  simp [advanceRecords, h]

/-- Every record of a catch-up is of its group, of its auction number and of its now. -/
theorem expiryRecords_fields {g : GroupIx} {r : AuctionRecord} (h : r ∈ x.expiryRecords g quality now) :
    r.group = g ∧ r.number = x.number ∧ r.now = now := by
  unfold expiryRecords at h
  cases hp : x.phase <;> simp only [hp, expired, List.not_mem_nil, List.mem_singleton] at h
  all_goals
    rw [h]
    exact ⟨rfl, rfl, rfl⟩

theorem expired_number : (x.expired quality).number = x.number := by
  unfold expired
  cases x.phase <;> rfl

theorem caughtRecords_fields {g : GroupIx} {n : Nat} {r : AuctionRecord} (h : r ∈ caughtRecords g quality now n x) :
    r.group = g ∧ r.number = x.number ∧ r.now = now := by
  induction n generalizing x with
  | zero => cases h
  | succ n ih =>
    cases hr : x.reached now with
    | none =>
      rw [caughtRecords_of_none hr] at h
      cases h
    | some i =>
      rw [caughtRecords, advanceRecords_of_reached hr, advance_of_reached hr] at h
      rcases List.mem_append.mp h with h | h
      · exact expiryRecords_fields h
      · exact expired_number (quality := quality) (x := x) ▸ ih h

/-- The step and the instant of a record. -/
def stepOf (r : AuctionRecord) : AuctionStep × Nat := (r.step, r.instant)

theorem caughtRecords_of_random (hp : x.phase = .random) (hte : x.tEnd = some te) (g : GroupIx) (n : Nat) :
    (caughtRecords g quality now (n + 1) x).map stepOf = if te ≤ now then [(.close, te)] else [] := by
  have hr := reached_of_random (now := now) hp hte
  by_cases h : te ≤ now
  · rw [if_pos h] at hr ⊢
    have hrest : caughtRecords g quality now n (x.expired quality) = [] :=
      caughtRecords_of_none (reached_eq_none_of_left (by simp only [expired, hp]; rfl)) g n
    rw [caughtRecords, advanceRecords_of_reached hr, advance_of_reached hr, hrest]
    simp only [expiryRecords, hp, hte, List.append_nil, List.map_cons, List.map_nil]
    rfl
  · rw [if_neg h] at hr ⊢
    rw [caughtRecords_of_none hr]
    rfl

theorem caughtRecords_of_call (hp : x.phase = .call) (htm : x.tMin = some tm) (hte : x.tEnd = some te) (hle : tm ≤ te)
    (g : GroupIx) (n : Nat) :
    (caughtRecords g quality now (n + 2) x).map stepOf =
      (if tm ≤ now then [(.windowStart, tm)] else []) ++ (if te ≤ now then [(.close, te)] else []) := by
  have hr := reached_of_call (now := now) hp htm
  by_cases h : tm ≤ now
  · rw [if_pos h] at hr ⊢
    rw [caughtRecords, advanceRecords_of_reached hr, advance_of_reached hr, List.map_append,
      show x.expired quality = { x with phase := .random } by simp only [expired, hp],
      caughtRecords_of_random (x := { x with phase := .random }) rfl hte g n]
    simp only [expiryRecords, hp, htm]
    rfl
  · rw [if_neg h] at hr ⊢
    rw [caughtRecords_of_none hr, if_neg (by omega)]
    rfl

theorem caughtRecords_of_scheduled (hp : x.phase = .scheduled) (htc : x.tc = some tc) (htm : x.tMin = some tm)
    (hte : x.tEnd = some te) (hle : tc ≤ tm) (hle' : tm ≤ te) (g : GroupIx) :
    (caughtRecords g quality now 3 x).map stepOf =
      (if tc ≤ now then [(.callStart, tc)] else []) ++ (if tm ≤ now then [(.windowStart, tm)] else []) ++
        (if te ≤ now then [(.close, te)] else []) := by
  have hr := reached_of_scheduled (now := now) hp htc
  by_cases h : tc ≤ now
  · rw [if_pos h] at hr ⊢
    rw [caughtRecords, advanceRecords_of_reached hr, advance_of_reached hr, List.map_append,
      show x.expired quality = { x with phase := .call } by simp only [expired, hp],
      caughtRecords_of_call (x := { x with phase := .call }) rfl htm hte hle' g 0]
    simp only [expiryRecords, hp, htc]
    rfl
  · rw [if_neg h] at hr ⊢
    rw [caughtRecords_of_none hr, if_neg (by omega), if_neg (by omega)]
    rfl

end Group

/-! ### The catch-up (R119) -/

section
variable {s : State} {g : GroupIx} {now : Nat}

theorem State.catchUp_of_none (h : (s.group g).reached now = none) (notify : Bool) : s.catchUp g now notify = s := by
  have hstay : s.takeReached g now notify = s := by
    rw [takeReached_eq, h]
    rfl
  rw [catchUp, hstay, hstay, hstay]

/-- Settles O14: the catch-up of each stored phase. -/
theorem catchUpFollowsTheInstants : Obligations.CatchUpFollowsTheInstants := by
  intro s g now notify x y
  have hy : y = Group.caught s.du.trace now 3 x := s.catchUp_group g now notify
  refine ⟨fun tc tm te htc htm hte hle hle' => ⟨s.catchUp_same g now notify, fun hp hlt => ?_, fun hp hlt => ?_,
    fun hp hlt => ?_, fun hp hreach => ?_, fun hp hreach => ?_, fun hp hreach => ?_, fun hp => ?_⟩, fun hp => ?_⟩
  · exact State.catchUp_of_none ((Group.reached_of_scheduled hp htc).trans (if_neg (by omega))) notify
  · exact State.catchUp_of_none ((Group.reached_of_call hp htm).trans (if_neg (by omega))) notify
  · exact State.catchUp_of_none ((Group.reached_of_random hp hte).trans (if_neg (by omega))) notify
  · rw [hy, Group.caught_of_scheduled hp htc htm hte, if_pos hreach]
    by_cases hm : now < tm
    · rw [if_pos hm, if_neg (by omega)]
    · rw [if_neg hm, if_pos (by omega)]
      by_cases he : now < te
      · rw [if_pos he, if_neg (by omega)]
      · rw [if_neg he, if_pos (by omega)]
  · rw [hy, Group.caught_of_call hp htm hte 1, if_pos hreach]
    by_cases he : now < te
    · rw [if_pos he, if_neg (by omega)]
    · rw [if_neg he, if_pos (by omega)]
  · rw [hy, Group.caught_of_random hp hte 2, if_pos hreach]
    rfl
  · refine ⟨_, s.catchUp_records g now notify, fun r hr => Group.caughtRecords_fields hr, ?_⟩
    show List.map Group.stepOf (Group.caughtRecords g s.du.trace now 3 x) = _
    rcases hp with hp | hp | hp
    · rw [Group.caughtRecords_of_scheduled hp htc htm hte hle hle' g]
      simp [hp]
    · rw [Group.caughtRecords_of_call hp htm hte hle' g 1]
      simp [hp]
    · rw [Group.caughtRecords_of_random hp hte g 2]
      simp [hp]
  · refine State.catchUp_of_none (Group.reached_eq_none_of_left ?_) notify
    rcases hp with hp | hp | hp | hp <;> rw [show (s.group g).phase = _ from hp] <;> rfl

end

end Sys2Proof.Machine
end

section
/-! The order of the expiries (R123), the clock suspension (R129), O13 and O12. -/

namespace Sys2Proof.Machine

/-! ### The group whose expiry comes first -/

/-- The reached instant of `g` comes no later than that of `k`, at equal instants by index. -/
def State.NoLater (s : State) (now : Nat) (g k : GroupIx) : Prop :=
  ∀ j, (s.group k).reached now = some j → ∃ i, (s.group g).reached now = some i ∧ (i < j ∨ i = j ∧ g ≤ k)

section
variable {s : State} {now : Nat}

theorem earlier_of_none {g : GroupIx} (h : (s.group g).reached now = none) (best : Option GroupIx) :
    earlier s now best g = best := by
  simp only [earlier, h]

theorem earlier_none_of_some {g : GroupIx} {i : Nat} (h : (s.group g).reached now = some i) :
    earlier s now none g = some g := by
  simp only [earlier, h]

theorem earlier_some_of_some {g b : GroupIx} {i j : Nat} (h : (s.group g).reached now = some i)
    (hb : (s.group b).reached now = some j) : earlier s now (some b) g = if i < j then some g else some b := by
  simp only [earlier, h, hb]

theorem State.NoLater.trans {a b c : GroupIx} (h : s.NoLater now a b) (k : s.NoLater now b c) : s.NoLater now a c := by
  intro j hj
  obtain ⟨i, hi, hij⟩ := k j hj
  obtain ⟨i', hi', hii⟩ := h i hi
  refine ⟨i', hi', ?_⟩
  rcases hii with hlt | ⟨rfl, hle⟩
  · exact .inl (by omega)
  · exact hij.imp_right fun h => ⟨h.1, hle.trans h.2⟩

/-- What the search leaves: the best so far and the groups of the list, compared. -/
theorem foldl_earlier (groups : List GroupIx) (best : Option GroupIx)
    (hbest : ∀ b, best = some b → ((s.group b).reached now).isSome ∧ ∀ g ∈ groups, b < g)
    (hsorted : groups.Pairwise (· < ·)) :
    (∀ g, groups.foldl (earlier s now) best = some g → ((s.group g).reached now).isSome ∧
        (∀ b, best = some b → s.NoLater now g b) ∧ ∀ k ∈ groups, s.NoLater now g k) ∧
      (groups.foldl (earlier s now) best = none → best = none ∧ ∀ k ∈ groups, (s.group k).reached now = none) := by
  induction groups generalizing best with
  | nil =>
    refine ⟨fun g hg => ⟨(hbest g hg).1, fun b hb => ?_, nofun⟩, fun h => ⟨h, nofun⟩⟩
    obtain rfl : g = b := Option.some.inj (hg.symm.trans hb)
    exact fun j hj => ⟨j, hj, .inr ⟨rfl, le_rfl⟩⟩
  | cons x xs ih =>
    obtain ⟨hx, hxs⟩ := List.pairwise_cons.mp hsorted
    rw [List.foldl_cons]
    cases hr : (s.group x).reached now with
    | none =>
      rw [earlier_of_none hr]
      obtain ⟨hsome, hnone⟩ := ih best (fun b hb => ⟨(hbest b hb).1, fun g hg => (hbest b hb).2 g (.tail _ hg)⟩) hxs
      refine ⟨fun g hg => ?_, fun h => ⟨(hnone h).1, fun k hk => ?_⟩⟩
      · obtain ⟨h1, h2, h3⟩ := hsome g hg
        refine ⟨h1, h2, fun k hk => ?_⟩
        rcases List.mem_cons.mp hk with rfl | hk
        · intro j hj
          rw [hr] at hj
          cases hj
        · exact h3 k hk
      · rcases List.mem_cons.mp hk with rfl | hk
        · exact hr
        · exact (hnone h).2 k hk
    | some i =>
      have hcase : (best = none ∧ earlier s now best x = some x) ∨ ∃ b j, best = some b ∧
          (s.group b).reached now = some j ∧ earlier s now best x = if i < j then some x else some b := by
        cases hb : best with
        | none => exact .inl ⟨rfl, earlier_none_of_some hr⟩
        | some b =>
          obtain ⟨j, hj⟩ := Option.isSome_iff_exists.mp (hbest b hb).1
          exact .inr ⟨b, j, rfl, hj, earlier_some_of_some hr hj⟩
      have htake (best' : GroupIx) (hreach : ((s.group best').reached now).isSome) (hlt : ∀ g ∈ xs, best' < g)
          (hx' : s.NoLater now best' x) (hbest' : ∀ b, best = some b → s.NoLater now best' b)
          (heq : earlier s now best x = some best') :
          (∀ g, xs.foldl (earlier s now) (earlier s now best x) = some g → ((s.group g).reached now).isSome ∧
              (∀ b, best = some b → s.NoLater now g b) ∧ ∀ k ∈ x :: xs, s.NoLater now g k) ∧
            (xs.foldl (earlier s now) (earlier s now best x) = none →
              best = none ∧ ∀ k ∈ x :: xs, (s.group k).reached now = none) := by
        rw [heq]
        obtain ⟨hsome, hnone⟩ := ih (some best') (fun b hb => Option.some.inj hb ▸ ⟨hreach, hlt⟩) hxs
        refine ⟨fun g hg => ?_, fun h => absurd (hnone h).1 nofun⟩
        obtain ⟨h1, h2, h3⟩ := hsome g hg
        have hfirst := h2 best' rfl
        refine ⟨h1, fun b hb => hfirst.trans (hbest' b hb), fun k hk => ?_⟩
        rcases List.mem_cons.mp hk with rfl | hk
        · exact hfirst.trans hx'
        · exact h3 k hk
      have hself : s.NoLater now x x := fun j hj => ⟨j, hj, .inr ⟨rfl, le_rfl⟩⟩
      rcases hcase with ⟨hb, heq⟩ | ⟨b, j, hb, hj, heq⟩
      · exact htake x (by rw [hr]; rfl) hx hself (fun b hb' => absurd (hb.symm.trans hb') nofun) heq
      · obtain ⟨_, hblt⟩ := hbest b hb
        by_cases hlt : i < j
        · rw [if_pos hlt] at heq
          refine htake x (by rw [hr]; rfl) hx hself (fun b' hb' => ?_) heq
          obtain rfl : b = b' := Option.some.inj (hb.symm.trans hb')
          exact fun j' hj' => ⟨i, hr, .inl (Option.some.inj (hj.symm.trans hj') ▸ hlt)⟩
        · rw [if_neg hlt] at heq
          refine htake b (by rw [hj]; rfl) (fun g hg => hblt g (.tail _ hg)) (fun i' hi' => ?_) (fun b' hb' => ?_) heq
          · obtain rfl : i = i' := Option.some.inj (hr.symm.trans hi')
            have hbx : b < x := hblt x (.head _)
            exact ⟨j, hj, (Nat.lt_or_eq_of_le (Nat.not_lt.mp hlt)).imp_right fun h => ⟨h, hbx.le⟩⟩
          · obtain rfl : b = b' := Option.some.inj (hb.symm.trans hb')
            exact fun j' hj' => ⟨j', hj', .inr ⟨rfl, le_rfl⟩⟩

theorem finRange_sorted : (List.finRange 16).Pairwise (· < ·) := by decide

/-- R123: the next expiry is reached, and no other comes before it. -/
theorem State.nextExpiry_some {g : GroupIx} (h : s.nextExpiry now = some g) :
    ((s.group g).reached now).isSome ∧ ∀ k, s.NoLater now g k := by
  obtain ⟨h1, _, h3⟩ := (foldl_earlier (List.finRange 16) none nofun finRange_sorted).1 g h
  exact ⟨h1, fun k => h3 k (List.mem_finRange k)⟩

theorem State.nextExpiry_none (h : s.nextExpiry now = none) (k : GroupIx) : (s.group k).reached now = none :=
  ((foldl_earlier (List.finRange 16) none nofun finRange_sorted).2 h).2 k (List.mem_finRange k)

end

/-! ### Every reached expiry (R123) -/

/-- The expiries all groups have before them. -/
def State.expiriesLeft (s : State) : Nat := ∑ g : GroupIx, (s.group g).phase.left

/-- The instants in force of a group are in order. -/
def Group.Ordered (x : Group) : Prop :=
  x.phase = .scheduled ∨ x.phase = .call ∨ x.phase = .random →
    x.tc.getD 0 ≤ x.tMin.getD 0 ∧ x.tMin.getD 0 ≤ x.tEnd.getD 0

/-- The order of the records of an advance: by instant, at equal instants by group. -/
def AuctionRecord.Precedes (r q : AuctionRecord) : Prop :=
  r.instant < q.instant ∨ r.instant = q.instant ∧ r.group ≤ q.group

namespace Group

variable {x : Group} {now i : Nat} {quality : TraceState}

/-- The record of a reached expiry. -/
theorem expiryRecords_of_reached (h : x.reached now = some i) (g : GroupIx) :
    ∃ r, x.expiryRecords g quality now = [r] ∧ r.group = g ∧ r.now = now ∧ r.instant = i ∧ i ≤ now := by
  unfold reached at h
  split at h
  · next j hj =>
    split at h
    · next hle =>
      cases h
      unfold pendingInstant at hj
      cases hp : x.phase <;> rw [hp] at hj <;> dsimp only at hj
      case scheduled | call | random =>
        unfold expiryRecords
        simp only [hp]
        refine ⟨_, rfl, rfl, rfl, ?_, hle⟩
        show Option.getD _ 0 = i
        rw [hj]
        rfl
      all_goals cases hj
    · cases h
  · cases h

theorem Ordered.expired (h : x.Ordered) : (x.expired quality).Ordered := by
  unfold Group.expired
  unfold Ordered at h ⊢
  cases hp : x.phase with
  | scheduled => exact fun _ => h (.inl hp)
  | call => exact fun _ => h (.inr (.inl hp))
  | random => exact fun k => by rcases k with k | k | k <;> cases k
  | _ => exact fun k => by rw [hp] at k; rcases k with k | k | k <;> cases k

/-- The instant that follows a reached one comes no earlier. -/
theorem Ordered.next_ge (h : x.Ordered) (hi : x.reached now = some i) {j : Nat}
    (hj : (x.expired quality).reached now = some j) : i ≤ j := by
  have hof {y : Group} {k : Nat} (hk : y.reached now = some k) : y.pendingInstant = some k := by
    unfold reached at hk
    split at hk
    · split at hk
      · cases hk
        assumption
      · cases hk
    · cases hk
  have hi' := hof hi
  have hj' := hof hj
  unfold pendingInstant at hi' hj'
  unfold Group.expired at hj'
  cases hp : x.phase <;> simp only [hp] at hi' hj' <;> try cases hi'
  · obtain ⟨hle, _⟩ := h (.inl hp)
    simpa [hi', hj'] using hle
  · obtain ⟨_, hle⟩ := h (.inr (.inl hp))
    simpa [hi', hj'] using hle
  · cases hj'

end Group

section
variable {s : State} {g : GroupIx} {now : Nat}

theorem State.takeExpiry_other {k : GroupIx} (hk : k ≠ g) (notify : Bool) :
    (s.takeExpiry g now notify).group k = s.group k :=
  s.takeExpiry_same g now notify (.group k) (by simp [hk])

theorem State.takeExpiry_trace (notify : Bool) : (s.takeExpiry g now notify).du.trace = s.du.trace :=
  congrArg Discipline.trace (s.takeExpiry_same g now notify .du (by simp))

theorem State.expiriesLeft_takeExpiry {i : Nat} (h : (s.group g).reached now = some i) (notify : Bool) :
    (s.takeExpiry g now notify).expiriesLeft < s.expiriesLeft := by
  have hleft := Group.left_expired (quality := s.du.trace) (Group.left_pos_of_reached h)
  refine Finset.sum_lt_sum (fun k _ => ?_) ⟨g, Finset.mem_univ g, ?_⟩
  · by_cases hk : k = g
    · subst hk
      rw [State.takeExpiry_group]
      omega
    · rw [State.takeExpiry_other hk]
  · rw [State.takeExpiry_group]
    omega

/-- What an advance forms is the pending instant that comes first, and later ones. -/
def State.FirstIs (s : State) (now : Nat) (r : AuctionRecord) : Prop :=
  ∃ g i, s.nextExpiry now = some g ∧ (s.group g).reached now = some i ∧
    (i < r.instant ∨ i = r.instant ∧ g ≤ r.group)

/-- Of the two parts of an advance: the first expiry is no later than what follows it. -/
theorem State.FirstIs.after_takeExpiry {i : Nat} (hnext : s.nextExpiry now = some g)
    (hi : (s.group g).reached now = some i) (hordered : (s.group g).Ordered) {notify : Bool} {r : AuctionRecord}
    (h : (s.takeExpiry g now notify).FirstIs now r) : i < r.instant ∨ i = r.instant ∧ g ≤ r.group := by
  obtain ⟨k, j, _, hj, hjr⟩ := h
  have hij : i < j ∨ i = j ∧ g ≤ k := by
    by_cases hk : k = g
    · subst hk
      rw [State.takeExpiry_group] at hj
      have hle := hordered.next_ge hi hj
      exact (Nat.lt_or_eq_of_le hle).imp_right fun he => ⟨he, le_rfl⟩
    · rw [State.takeExpiry_other hk] at hj
      obtain ⟨i', hi', hlt⟩ := (State.nextExpiry_some hnext).2 k j hj
      obtain rfl : i = i' := Option.some.inj (hi.symm.trans hi')
      exact hlt
  rcases hij with hlt | ⟨rfl, hle⟩
  · exact .inl (by omega)
  · exact hjr.imp_right fun he => ⟨he.1, hle.trans he.2⟩

/-- R123: what an advance with enough fuel leaves of the groups. -/
theorem State.takeDue_group {fuel : Nat} (h : s.expiriesLeft ≤ fuel) (k : GroupIx) :
    (State.takeDue fuel now s).group k = Group.caught s.du.trace now 3 (s.group k) := by
  induction fuel generalizing s with
  | zero =>
    have hzero : (s.group k).phase.left = 0 :=
      Finset.sum_eq_zero_iff.mp (Nat.le_zero.mp h) k (Finset.mem_univ k)
    exact (Group.caught_of_none (Group.reached_eq_none_of_left hzero) 3).symm
  | succ fuel ih =>
    cases hnext : s.nextExpiry now with
    | none =>
      simp only [State.takeDue, hnext]
      exact (Group.caught_of_none (State.nextExpiry_none hnext k) 3).symm
    | some g =>
      obtain ⟨i, hi⟩ := Option.isSome_iff_exists.mp (State.nextExpiry_some hnext).1
      have hlt := State.expiriesLeft_takeExpiry hi true
      simp only [State.takeDue, hnext]
      rw [ih (by omega), State.takeExpiry_trace]
      by_cases hk : k = g
      · subst hk
        rw [State.takeExpiry_group, Group.caught_expired hi]
      · rw [State.takeExpiry_other hk]

/-- R123: what an advance leaves in GS's list, in the order of the instants where these are in order in each group. -/
theorem State.takeDue_records (fuel : Nat) :
    ∃ rs, (State.takeDue fuel now s).gs.records = s.gs.records ++ rs ∧ (∀ r ∈ rs, r.now = now ∧ r.instant ≤ now) ∧
      (0 < fuel → s.nextExpiry now ≠ none → rs ≠ []) ∧
      ((∀ k, (s.group k).Ordered) → rs.Pairwise AuctionRecord.Precedes ∧ ∀ r ∈ rs, s.FirstIs now r) := by
  induction fuel generalizing s with
  | zero =>
    refine ⟨[], ?_, fun _ h => absurd h List.not_mem_nil, fun h => absurd h (Nat.lt_irrefl 0), fun _ => ⟨.nil, fun _ h => absurd h List.not_mem_nil⟩⟩
    rw [State.takeDue, List.append_nil]
  | succ fuel ih =>
    cases hnext : s.nextExpiry now with
    | none =>
      refine ⟨[], ?_, fun _ h => absurd h List.not_mem_nil, fun _ h => absurd rfl h, fun _ => ⟨.nil, fun _ h => absurd h List.not_mem_nil⟩⟩
      simp only [State.takeDue, hnext, List.append_nil]
    | some g =>
      obtain ⟨i, hi⟩ := Option.isSome_iff_exists.mp (State.nextExpiry_some hnext).1
      obtain ⟨rs, hrecords, hnow, _, hordered⟩ := ih (s := s.takeExpiry g now true)
      obtain ⟨r, hr, hgroup, hrnow, hinstant, hile⟩ := Group.expiryRecords_of_reached (quality := s.du.trace) hi g
      simp only [State.takeDue, hnext]
      refine ⟨r :: rs, ?_, fun q hq => ?_, fun _ _ => List.cons_ne_nil _ _, fun hs => ?_⟩
      · rw [hrecords, State.takeExpiry_records, hr, List.append_assoc]
        rfl
      · rcases List.mem_cons.mp hq with rfl | hq
        · exact ⟨hrnow, hinstant ▸ hile⟩
        · exact hnow q hq
      · obtain ⟨hpair, hfirst⟩ := hordered fun k => by
          by_cases hk : k = g
          · subst hk
            rw [State.takeExpiry_group]
            exact (hs k).expired
          · rw [State.takeExpiry_other hk]
            exact hs k
        have hle (q : AuctionRecord) (hq : q ∈ rs) := (hfirst q hq).after_takeExpiry hnext hi (hs g)
        refine ⟨List.pairwise_cons.mpr ⟨fun q hq => ?_, hpair⟩, fun q hq => ⟨g, i, hnext, hi, ?_⟩⟩
        · unfold AuctionRecord.Precedes
          rw [hinstant, hgroup]
          exact hle q hq
        · rcases List.mem_cons.mp hq with rfl | hq
          · exact .inr ⟨hinstant.symm, hgroup.ge⟩
          · exact hle q hq

theorem State.expiriesLeft_le (s : State) : s.expiriesLeft ≤ expiryFuel := by
  calc s.expiriesLeft
    _ ≤ ∑ _g : GroupIx, 3 := Finset.sum_le_sum fun g _ => Group.left_le _
    _ = expiryFuel := by simp [expiryFuel]

/-- Settles O13: the expiries are taken in the order of their instants, until none is reached. -/
theorem expiriesTakeEveryReachedInstant : Obligations.ExpiriesTakeEveryReachedInstant := by
  intro s g c hrun hnext hc
  have hexpiry : exec c s = .next (State.takeDue expiryFuel s.dating s) := by
    have h (phase : Phase) (hp : (s.group g).phase = phase) : expiry phase s = State.takeDue expiryFuel s.dating s := by
      unfold expiry
      simp only [hnext, hp, if_true]
    rcases hc with ⟨rfl, hp⟩ | ⟨rfl, hp⟩ | ⟨rfl, hp⟩ <;>
      exact (live_of_running hrun _).trans (congrArg _ (h _ hp))
  obtain ⟨rs, hrecords, hnow, hne, hordered⟩ := State.takeDue_records (s := s) (now := s.dating) expiryFuel
  have hgroup (k : GroupIx) := State.takeDue_group (now := s.dating) s.expiriesLeft_le k
  refine ⟨_, hexpiry, s.takeDue_same _ _, fun k => ⟨?_, ?_⟩, rs, hrecords,
    hne (by decide) (by rw [hnext]; exact nofun), hnow, fun h => (hordered h).1⟩
  · rw [hgroup, State.catchUp_group]
  · rw [hgroup]
    exact Group.caught_reached (Group.left_le _)

end

end Sys2Proof.Machine
end

section
/-! What is done to every group in turn (R123, R129, R138), and O12. -/

namespace Sys2Proof.Machine

/-! ### Every group in turn -/

/-- A step that takes one group from `x` to `becomes g x`, forming `forms g x`, where `holds` is kept. -/
structure GroupStep (step : State → GroupIx → State) (holds : State → Prop) (becomes : GroupIx → Group → Group)
    (forms : GroupIx → Group → List AuctionRecord) : Prop where
  keeps : ∀ x g, holds x → holds (step x g)
  group : ∀ x g, holds x → (step x g).group g = becomes g (x.group g)
  other : ∀ x g k, k ≠ g → (step x g).group k = x.group k
  records : ∀ x g, holds x → (step x g).gs.records = x.gs.records ++ forms g (x.group g)

namespace GroupStep

variable {step : State → GroupIx → State} {holds : State → Prop} {becomes : GroupIx → Group → Group}
  {forms : GroupIx → Group → List AuctionRecord} (h : GroupStep step holds becomes forms)

include h

theorem foldl {s : State} (hs : holds s) {groups : List GroupIx} (hnodup : groups.Nodup) :
    holds (groups.foldl step s) ∧
      (∀ k, (groups.foldl step s).group k = if k ∈ groups then becomes k (s.group k) else s.group k) ∧
      (groups.foldl step s).gs.records = s.gs.records ++ groups.flatMap fun g => forms g (s.group g) := by
  induction groups generalizing s with
  | nil => exact ⟨hs, fun _ => rfl, (List.append_nil _).symm⟩
  | cons g gs ih =>
    obtain ⟨hg, hgs⟩ := List.nodup_cons.mp hnodup
    obtain ⟨hholds, hgroups, hrecords⟩ := ih (h.keeps s g hs) hgs
    refine ⟨hholds, fun k => ?_, ?_⟩
    · rw [List.foldl_cons, hgroups]
      by_cases hk : k = g
      · subst hk
        rw [if_neg hg, if_pos (.head _), h.group s k hs]
      · simp only [List.mem_cons, hk, false_or, h.other s g k hk]
    · have hrest : gs.flatMap (fun k => forms k ((step s g).group k)) = gs.flatMap fun k => forms k (s.group k) :=
        List.flatMap_congr fun k hk => by rw [h.other s g k fun he => hg (he ▸ hk)]
      rw [List.foldl_cons, hrecords, h.records s g hs, hrest, List.flatMap_cons, List.append_assoc]

theorem eachGroup {s : State} (hs : holds s) :
    holds (s.eachGroup step) ∧ (∀ k, (s.eachGroup step).group k = becomes k (s.group k)) ∧
      (s.eachGroup step).gs.records = s.gs.records ++ (List.finRange 16).flatMap fun g => forms g (s.group g) := by
  obtain ⟨hholds, hgroups, hrecords⟩ := h.foldl hs (List.nodup_finRange 16)
  exact ⟨hholds, fun k => (hgroups k).trans (if_pos (List.mem_finRange k)), hrecords⟩

end GroupStep

/-! ### The clock suspension (R129) -/

theorem EffPhase.inAuction_iff {p : EffPhase} : p.inAuction = true ↔ p = .call ∨ p = .random := by
  cases p <;> simp [inAuction]

/-- R129, for one group record. -/
def Group.clockSuspended (quality : TraceState) (now : Nat) (x : Group) : Group :=
  let y := Group.caught quality now 3 x
  if (y.effective now).inAuction then y.suspend .clock else y

/-- The SUSPEND record of the clock. -/
def Group.clockRecord (x : Group) (g : GroupIx) (now : Nat) : AuctionRecord :=
  { (x.suspend .clock).record g .suspend now now with cause := some .clock, trace := some .untraceable }

/-- The records of R129, for one group record. -/
def Group.clockRecords (quality : TraceState) (now : Nat) (g : GroupIx) (x : Group) : List AuctionRecord :=
  let y := Group.caught quality now 3 x
  Group.caughtRecords g quality now 3 x ++ if (y.effective now).inAuction then [y.clockRecord g now] else []

theorem State.suspendGroup_group (s : State) (g : GroupIx) (cause : AuctionCause) (trace : Option TraceState)
    (now : Nat) : (s.suspendGroup g cause trace now).group g = (s.group g).suspend cause := s.auctionStep_group g _ _ _

theorem State.suspendGroup_records (s : State) (g : GroupIx) (cause : AuctionCause) (trace : Option TraceState)
    (now : Nat) :
    (s.suspendGroup g cause trace now).gs.records = s.gs.records ++
      [{ ((s.group g).suspend cause).record g .suspend now now with cause := some cause, trace := trace }] :=
  s.auctionStep_records g _ _ _

theorem clockSuspend_step (quality : TraceState) (now : Nat) :
    GroupStep (clockSuspend now) (fun x => x.du.trace = quality) (fun _ => Group.clockSuspended quality now)
      (Group.clockRecords quality now) where
  keeps x g hx := (congrArg Discipline.trace (clockSuspend_same x now g .du (by simp))).trans hx
  group x g hx := by
    unfold clockSuspend Group.clockSuspended
    dsimp only
    rw [← hx, ← x.catchUp_group g now true]
    split
    · exact State.suspendGroup_group _ g _ _ _
    · rfl
  other x g k hk := clockSuspend_same x now g (.group k) (by simp [hk])
  records x g hx := by
    unfold clockSuspend Group.clockRecords
    dsimp only
    rw [← hx, ← x.catchUp_group g now true]
    split
    · rw [State.suspendGroup_records, x.catchUp_records, List.append_assoc]
      rfl
    · rw [x.catchUp_records, List.append_nil]

/-- R129: the clock suspension, of a clock in the state `quality`. -/
theorem State.clockSuspension_groups (s : State) :
    (∀ k, s.clockSuspension.group k = Group.clockSuspended s.du.trace s.dating (s.group k)) ∧
      s.clockSuspension.gs.records =
        s.gs.records ++ (List.finRange 16).flatMap fun g => Group.clockRecords s.du.trace s.dating g (s.group g) := by
  obtain ⟨_, hgroups, hrecords⟩ := (clockSuspend_step s.du.trace s.dating).eachGroup (s := s) rfl
  unfold State.clockSuspension
  exact ⟨hgroups, hrecords⟩

/-! ### The boundary (R54) -/

/-- GS is its groups, its list and its count of demands. -/
theorem State.gs_eq_of_same {s t : State} {bs : List Block} (h : s.SameBut t bs) (hgroups : ∀ g, .group g ∉ bs)
    (hrecords : .auctions ∉ bs) (hdemands : .demands ∉ bs) : t.gs = s.gs := by
  have hg : t.gs.groups = s.gs.groups := Vector.ext fun i hi => h (.group ⟨i, hi⟩) (hgroups ⟨i, hi⟩)
  have hr : t.gs.records = s.gs.records := h .auctions hrecords
  have hd : t.gs.demands = s.gs.demands := h .demands hdemands
  calc t.gs = ⟨t.gs.groups, t.gs.records, t.gs.demands⟩ := rfl
    _ = s.gs := by rw [hg, hr, hd]

/-- The state in which a boundary has been taken, and B and the traceability state evaluated. -/
def State.boundaryTraced (s : State) (b : Boundary) (rest : List Boundary) : State :=
  State.evaluateTrace { s with tb := TimeBase.activate { s.tb with boundaries := rest } } b.dating

/-- The state that the hand-offs to GS and TLU leave. -/
def State.boundaryTold (s : State) (b : Boundary) (rest : List Boundary) : State :=
  (s.boundaryTraced b rest).traceChanged s.du.trace b.dating

section
variable {s : State} {b : Boundary} {rest : List Boundary}

theorem secondBoundary_eq (h : s.tb.boundaries = b :: rest) :
    secondBoundary s = (s.boundaryTold b rest).countBoundary.tickReaction b := by
  unfold secondBoundary
  simp only [h]
  rfl

theorem State.traceChanged_trace (old : TraceState) (dating : Nat) :
    (s.traceChanged old dating).du.trace = s.du.trace := by
  unfold State.traceChanged
  split
  · rfl
  · have htold : ((s.clockRecordAt (.traceState old s.du.trace s.du.bound dating) dating).tellScheduler.tellTwin).du =
        (s.clockRecordAt (.traceState old s.du.trace s.du.bound dating) dating).du :=
      (State.tellTwin_same _ .du (by decide)).trans (State.tellScheduler_same _ .du (by simp [allGroups]))
    rw [htold, State.clockRecordAt_du]

theorem State.countBoundary_trace (s : State) : s.countBoundary.du.trace = s.du.trace := by
  unfold State.countBoundary
  dsimp only
  have hsubmit (x : Body) : (s.submit x).du = s.du := s.submit_same x .du (by decide)
  split
  · show (s.submit _).du.trace = s.du.trace
    rw [hsubmit]
  · rfl

/-- The traceability state after a boundary is that of the evaluation. -/
theorem secondBoundary_trace (h : s.tb.boundaries = b :: rest) :
    (secondBoundary s).du.trace = (s.boundaryTraced b rest).du.trace := by
  rw [secondBoundary_eq h]
  calc ((s.boundaryTold b rest).countBoundary.tickReaction b).du.trace
    _ = (s.boundaryTold b rest).countBoundary.du.trace :=
        congrArg Discipline.trace (State.tickReaction_same _ b .du (by decide))
    _ = (s.boundaryTold b rest).du.trace := State.countBoundary_trace _
    _ = (s.boundaryTraced b rest).du.trace := State.traceChanged_trace _ _

/-- What is behind the hand-offs does not reach GS. -/
theorem secondBoundary_gs (h : s.tb.boundaries = b :: rest) :
    (secondBoundary s).gs = (s.boundaryTold b rest).gs := by
  rw [secondBoundary_eq h]
  exact State.gs_eq_of_same (((State.countBoundary_same _).mono (by simp)).trans
    ((State.tickReaction_same _ b).mono (bs := [.clu]) (cs := [.du, .aj, .clu]) (by simp)))
    (by simp) (by simp) (by simp)

theorem State.boundaryTraced_same : s.SameBut (s.boundaryTraced b rest) [.tb, .du] :=
  ((s.tb_same _).mono (by decide)).trans ((State.evaluateTrace_same _ _).mono (by decide))

theorem State.boundaryTraced_dating : (s.boundaryTraced b rest).dating = s.dating := rfl

/-- A boundary that leaves the traceability state, or finds the clock traceable, tells GS nothing. -/
theorem State.boundaryTold_gs (h : (s.boundaryTraced b rest).du.trace ≠ .untraceable ∨ s.du.trace = .untraceable) :
    (s.boundaryTold b rest).gs = s.gs := by
  have htraced : (s.boundaryTraced b rest).gs = s.gs :=
    State.gs_eq_of_same State.boundaryTraced_same (by simp) (by simp) (by simp)
  unfold State.boundaryTold
  generalize s.boundaryTraced b rest = u at h htraced ⊢
  rw [← htraced]
  unfold State.traceChanged
  split
  · rfl
  · next hne =>
    have hkept : u.du.trace ≠ .untraceable := h.elim id fun hs hu => hne (hu.trans hs.symm)
    have hrecord := u.clockRecordAt_same (.traceState s.du.trace u.du.trace u.du.bound b.dating) b.dating
    have htell {v : State} (hv : v.du.trace = u.du.trace) : v.tellScheduler = v := by
      unfold State.tellScheduler
      rw [if_neg (hv ▸ hkept)]
    rw [htell (by rw [State.clockRecordAt_du])]
    exact State.gs_eq_of_same ((hrecord.mono (by simp)).trans
      ((State.tellTwin_same _).mono (bs := [.tlu]) (cs := [.du, .aj, .clu, .tlu]) (by simp))) (by simp) (by simp) (by simp)

/-- A boundary at which the clock becomes UNTRACEABLE suspends. -/
theorem State.boundaryTold_suspends (h : (s.boundaryTraced b rest).du.trace = .untraceable)
    (hs : s.du.trace ≠ .untraceable) :
    (s.boundaryTold b rest).gs.demands = s.gs.demands ∧
      (∀ k, (s.boundaryTold b rest).group k = Group.clockSuspended .untraceable s.dating (s.group k)) ∧
      (s.boundaryTold b rest).gs.records =
        s.gs.records ++ (List.finRange 16).flatMap fun g => Group.clockRecords .untraceable s.dating g (s.group g) := by
  have htraced : (s.boundaryTraced b rest).gs = s.gs :=
    State.gs_eq_of_same State.boundaryTraced_same (by simp) (by simp) (by simp)
  have hdating : (s.boundaryTraced b rest).dating = s.dating := rfl
  have hgroup (k : GroupIx) : (s.boundaryTraced b rest).group k = s.group k :=
    congrArg (fun x : Scheduler => x.groups[k]) htraced
  unfold State.boundaryTold
  generalize s.boundaryTraced b rest = u at h htraced hdating hgroup ⊢
  have hne : u.du.trace ≠ s.du.trace := fun he => hs (he.symm.trans h)
  have hrecord := u.clockRecordAt_same (.traceState s.du.trace u.du.trace u.du.bound b.dating) b.dating
  unfold State.traceChanged
  rw [if_neg hne]
  generalize hv : u.clockRecordAt (.traceState s.du.trace u.du.trace u.du.bound b.dating) b.dating = v at hrecord ⊢
  have hvtrace : v.du.trace = .untraceable := by rw [← hv, State.clockRecordAt_du, ← h]
  have hvdating : v.dating = s.dating := (congrArg TimeBase.dating (hrecord .tb (by simp) : v.tb = u.tb)).trans hdating
  have hvgs : v.gs = s.gs := (State.gs_eq_of_same hrecord (by simp) (by simp) (by simp)).trans htraced
  have htell : v.tellScheduler = v.clockSuspension := if_pos hvtrace
  obtain ⟨hgroups, hrecords⟩ := v.clockSuspension_groups
  rw [hvtrace, hvdating] at hgroups hrecords
  have hvgroup (k : GroupIx) : v.group k = s.group k := congrArg (fun x : Scheduler => x.groups[k]) hvgs
  have htwin := State.tellTwin_same v.clockSuspension
  rw [htell]
  refine ⟨?_, fun k => ?_, ?_⟩
  · exact (htwin .demands (by simp)).trans ((v.clockSuspension_same .demands (by simp [allGroups])).trans
      (congrArg Scheduler.demands hvgs))
  · rw [← hvgroup k]
    exact (htwin (.group k) (by simp)).trans (hgroups k)
  · refine (htwin .auctions (by simp)).trans ?_
    rw [hrecords, hvgs]
    simp only [hvgroup]

/-- Settles O12: the hand-off of the traceability state to GS. -/
theorem clockSuspensionAtABoundary : Obligations.ClockSuspensionAtABoundary := by
  intro s b rest hrun hb
  refine ⟨secondBoundary s, live_of_running hrun _, fun ht hs k => ?_, fun ht hs => ?_, fun h => ?_⟩
  · have htraced := (secondBoundary_trace hb).symm.trans ht
    obtain ⟨_, hgroups, _⟩ := State.boundaryTold_suspends htraced hs
    have hgroup : (secondBoundary s).group k = (s.boundaryTold b rest).group k :=
      congrArg (fun x : Scheduler => x.groups[k]) (secondBoundary_gs hb)
    rw [hgroup, hgroups, State.catchUp_group]
    dsimp only [State.setDu_du]
    rw [ht]
    unfold Group.clockSuspended
    simp only [EffPhase.inAuction_iff]
    rfl
  · have htraced := (secondBoundary_trace hb).symm.trans ht
    obtain ⟨hdemands, _, hrecords⟩ := State.boundaryTold_suspends htraced hs
    rw [secondBoundary_gs hb]
    refine ⟨hdemands, hrecords.trans (congrArg _ (List.flatMap_congr fun g _ => ?_))⟩
    have hcaught : ((s.setDu (secondBoundary s).du).catchUp g s.dating true).group g =
        Group.caught .untraceable s.dating 3 (s.group g) :=
      (State.catchUp_group _ g _ _).trans (by rw [show (s.setDu (secondBoundary s).du).du.trace = _ from ht]; rfl)
    have hformed : ((s.setDu (secondBoundary s).du).catchUp g s.dating true).gs.records =
        s.gs.records ++ Group.caughtRecords g .untraceable s.dating 3 (s.group g) :=
      (State.catchUp_records _ g _ _).trans (by rw [show (s.setDu (secondBoundary s).du).du.trace = _ from ht]; rfl)
    simp only [hcaught, hformed, List.drop_left, Group.clockRecords, EffPhase.inAuction_iff]
    rfl
  · rw [secondBoundary_gs hb]
    exact State.boundaryTold_gs (h.imp_left fun k => (secondBoundary_trace hb) ▸ k)

end

end Sys2Proof.Machine
end

section
/-! The requests of the groups (R119, R124 to R134): O50, O51 and O52. -/

namespace Sys2Proof.Machine

/-! ### What a group request acts on -/

/-- The state in which a group request acts: the front in service, its group caught up (R119). -/
def State.serving (s : State) (g : GroupIx) : State := s.beginService.catchUp g s.dating true

section
variable (s : State) (g : GroupIx)

theorem State.serving_same : s.beginService.SameBut (s.serving g) [.group g, .auctions, .clu] :=
  State.catchUp_same _ g _ _

theorem State.serving_logged : s.beginService.Logged (s.serving g) := (State.Logged.refl _).catchUp g _ _

theorem State.serving_group : (s.serving g).group g = (s.catchUp g s.dating true).group g :=
  (s.beginService.catchUp_group g _ _).trans (s.catchUp_group g _ _).symm

theorem State.serving_records : (s.serving g).gs.records = (s.catchUp g s.dating true).gs.records :=
  (s.beginService.catchUp_records g _ _).trans (s.catchUp_records g _ _).symm

theorem State.serving_demands : (s.serving g).gs.demands = s.gs.demands := s.serving_same g .demands (by simp)

theorem State.serving_du : (s.serving g).du = s.du := s.serving_same g .du (by simp)

theorem State.serving_waiting :
    (s.serving g).gs.waiting g =
      ((s.catchUp g s.dating true).gs.records.filter fun r => decide (r.group = g)).length := by
  unfold Scheduler.waiting
  rw [State.serving_records]

end

section
variable {s u : State} {kind : Nat} {q : ControlRequest} {g : GroupIx} {bs : List Block} {payload : List Byte}
  {act : List Byte → State → Acted} {forms : Group → Bool} {does : GroupIx → Nat → State → Acted}

/-- A group request that leaves `u` of what it acts on. -/
theorem groupRequest_acted (h : s.CanTake kind q) (hact : act q.payload s.beginService = ⟨u, payload⟩)
    (hsame : (s.serving g).SameBut u bs) (hbs : [.group g, .auctions, .clu] ⊆ bs) (hlog : (s.serving g).Logged u) :
    ∃ t, live s (takeRequest kind act) = .next t ∧ s.SameBut t bs ∧ t.group g = u.group g ∧ t.gs = u.gs ∧
      t.clu.notices = u.clu.notices ∧ s.Replied t q payload :=
  ⟨_, live_takeRequest_of_acted h hact,
    State.answer_same_of_acted (((s.serving_same g).mono hbs).trans hsame) (hbs (by simp)) _, rfl, rfl, rfl,
    State.answer_replied_of_logged ((s.serving_logged g).trans hlog) _⟩

/-- A group request that is refused behind the catch-up. -/
theorem groupRequest_refused (h : s.CanTake kind q) {st : Status}
    (hact : act q.payload s.beginService = (s.serving g).says st) :
    ∃ t, live s (takeRequest kind act) = .next t ∧ s.SameBut t [.group g, .auctions, .clu] ∧
      t.group g = (s.catchUp g s.dating true).group g ∧ t.gs.records = (s.catchUp g s.dating true).gs.records ∧
      s.Replied t q (replyPayload st []) := by
  obtain ⟨t, ht, hsame, hgroup, hgs, _, hreplied⟩ :=
    groupRequest_acted (g := g) h hact (State.SameBut.refl _ _) (List.Subset.refl _) (.refl _)
  exact ⟨t, ht, hsame, hgroup.trans (s.serving_group g), (congrArg Scheduler.records hgs).trans (s.serving_records g),
    hreplied⟩

/-- A group index that names no group is refused without a catch-up (R119). -/
theorem groupRequest_outOfRange (h : s.CanTake kind q) (hg : 15 < field q.payload 0 1)
    (hact : act q.payload = groupRequest forms does q.payload) :
    live s (takeRequest kind act) = .next (s.answered q [4#8]) :=
  live_takeRequest_of_says h .outOfRange [] ((congrFun hact _).trans (groupRequest_of_none (groupOf_of_gt hg) _ _ _))

variable (hg : field q.payload 0 1 = g.val)

include hg

/-- With four records of the group waiting the request is refused BUSY, where it forms one (R134). -/
theorem groupRequest_busy (hforms : forms ((s.catchUp g s.dating true).group g) = true)
    (hwait : 4 ≤ ((s.catchUp g s.dating true).gs.records.filter fun r => decide (r.group = g)).length) :
    groupRequest forms does q.payload s.beginService = (s.serving g).says .busy := by
  refine groupRequest_of_busy (groupOf_of_eq hg) ?_ ?_ does
  · exact (congrArg forms (s.serving_group g)).trans hforms
  · exact decide_eq_true ((s.serving_waiting g) ▸ hwait)

/-- Any other request acts on what the catch-up leaves. -/
theorem groupRequest_free (hfree : forms ((s.catchUp g s.dating true).group g) = false ∨
      ((s.catchUp g s.dating true).gs.records.filter fun r => decide (r.group = g)).length < 4) :
    groupRequest forms does q.payload s.beginService = does g s.dating (s.serving g) := by
  refine groupRequest_of_free (groupOf_of_eq hg) ?_ does
  refine hfree.imp (fun h => (congrArg forms (s.serving_group g)).trans h) fun h => decide_eq_false ?_
  exact Nat.not_le.mpr ((s.serving_waiting g) ▸ h)

end

/-! ### GROUP_SUSPEND, GROUP_ABANDON and GROUP_CLEAR (R128, R132, R133) -/

theorem EffPhase.inAuction_eq_false_iff {p : EffPhase} : p.inAuction = false ↔ ¬ (p = .call ∨ p = .random) := by
  rw [← EffPhase.inAuction_iff, Bool.not_eq_true]

section
variable (s : State) (g : GroupIx) (cause : AuctionCause) (now : Nat) (notify : Bool)

/-- The ABANDON record of a group record `x` (R132). -/
def Group.abandonment (x : Group) (g : GroupIx) (cause : AuctionCause) (now : Nat) : AuctionRecord :=
  { x.abandon.record g .abandon now now with
    phaseBefore := some x.phase
    accepted := some x.accepted
    lastSeq := x.lastSeq
    cause := some cause }

theorem State.abandonGroup_group : (s.abandonGroup g cause now notify).group g = (s.group g).abandon :=
  s.auctionStep_group g _ _ _

theorem State.abandonGroup_records :
    (s.abandonGroup g cause now notify).gs.records = s.gs.records ++ [(s.group g).abandonment g cause now] :=
  s.auctionStep_records g _ _ _

theorem State.suspendGroup_clu (trace : Option TraceState) :
    (s.suspendGroup g cause trace now).clu = s.clu.notice .group
      (groupNotice { ((s.group g).suspend cause).record g .suspend now now with cause := some cause, trace := trace }
        (s.group g).phase .suspended (s.group g).accepted now) := rfl

theorem State.clearGroup_group : (s.clearGroup g now notify).group g = (s.group g).clear := by
  unfold State.clearGroup
  dsimp only
  split <;> exact s.setGroup_group g _

theorem State.clearGroup_records : (s.clearGroup g now notify).gs.records = s.gs.records :=
  s.clearGroup_same g now notify .auctions (by simp)

end

section
variable {s t : State} {g : GroupIx} {now : Nat}

/-- Two states in which a catch-up of the group raises the same notices. -/
structure State.SameAuctions (s t : State) (g : GroupIx) : Prop where
  group : s.group g = t.group g
  trace : s.du.trace = t.du.trace
  notices : s.clu.SameNotices t.clu

theorem State.auctionStep_sameNotices (h : s.SameAuctions t g) (x : Group) (r : AuctionRecord) (notify : Bool) :
    (s.auctionStep g x r notify).clu.SameNotices (t.auctionStep g x r notify).clu := by
  unfold State.auctionStep
  dsimp only
  rw [h.group]
  split
  · exact h.notices.notice _ _
  · exact h.notices

theorem State.SameAuctions.takeReached (h : s.SameAuctions t g) (notify : Bool) :
    (s.takeReached g now notify).SameAuctions (t.takeReached g now notify) g := by
  refine ⟨?_, ?_, ?_⟩
  · rw [State.takeReached_group, State.takeReached_group, h.group, h.trace]
  · rw [State.takeReached_trace, State.takeReached_trace, h.trace]
  · rw [State.takeReached_eq, State.takeReached_eq, h.group]
    split
    · unfold State.takeExpiry
      dsimp only
      rw [h.group, h.trace]
      cases (t.group g).phase with
      | scheduled | call | random => exact State.auctionStep_sameNotices h _ _ _
      | _ => exact h.notices
    · exact h.notices

theorem State.serving_sameNotices (s : State) (g : GroupIx) :
    (s.serving g).clu.SameNotices (s.catchUp g s.dating true).clu := by
  have h : s.beginService.SameAuctions s g := ⟨rfl, rfl, s.beginService_sameNotices⟩
  exact (((h.takeReached true).takeReached true).takeReached true).notices

end

/-- The command takes the request to a state in which the group is `y` and `rs` has joined the list of GS behind the
records of the catch-up, answered `payload`. -/
def State.GroupGives (s : State) (q : ControlRequest) (g : GroupIx) (c : Instr) (y : Group) (rs : List AuctionRecord)
    (payload : List Byte) : Prop :=
  ∃ t, exec c s = .next t ∧ s.SameBut t [.group g, .auctions, .clu] ∧ t.group g = y ∧
    t.gs.records = (s.catchUp g s.dating true).gs.records ++ rs ∧ s.Replied t q payload

section
variable {s u : State} {kind : Nat} {q : ControlRequest} {g : GroupIx} {payload : List Byte}
  {act : List Byte → State → Acted} {c : Instr}

theorem State.groupGives_refused (h : s.CanTake kind q) (hc : exec c s = live s (takeRequest kind act)) {st : Status}
    (hact : act q.payload s.beginService = (s.serving g).says st) :
    s.GroupGives q g c ((s.catchUp g s.dating true).group g) [] (replyPayload st []) := by
  obtain ⟨t, ht, hsame, hgroup, hrecords, hreplied⟩ := groupRequest_refused h hact
  exact ⟨t, hc.trans ht, hsame, hgroup, hrecords.trans (List.append_nil _).symm, hreplied⟩

theorem State.groupGives_acted (h : s.CanTake kind q) (hc : exec c s = live s (takeRequest kind act))
    (hact : act q.payload s.beginService = ⟨u, payload⟩) (hsame : (s.serving g).SameBut u [.group g, .auctions, .clu])
    (hlog : (s.serving g).Logged u) {rs : List AuctionRecord}
    (hrecords : u.gs.records = (s.serving g).gs.records ++ rs) : s.GroupGives q g c (u.group g) rs payload := by
  obtain ⟨t, ht, hsame, hgroup, hgs, _, hreplied⟩ :=
    groupRequest_acted (g := g) h hact hsame (List.Subset.refl _) hlog
  refine ⟨t, hc.trans ht, hsame, hgroup, ?_, hreplied⟩
  rw [congrArg Scheduler.records hgs, hrecords, s.serving_records]

end

section
variable {s : State} {q : ControlRequest} {g : GroupIx} (hg : field q.payload 0 1 = g.val)

include hg

/-- What GROUP_SUSPEND does, past the test of its index. -/
theorem groupSuspend_gives (h : s.CanTake 0x13 q) :
    let x := (s.catchUp g s.dating true).group g
    let waiting := ((s.catchUp g s.dating true).gs.records.filter fun r => decide (r.group = g)).length
    let inAuction := x.effective s.dating = .call ∨ x.effective s.dating = .random
    (4 ≤ waiting → s.GroupGives q g .groupSuspend x [] [12#8]) ∧
      (waiting < 4 → x.phase = .closed → s.GroupGives q g .groupSuspend x [] [6#8]) ∧
      (waiting < 4 → x.phase ≠ .closed → ¬ inAuction → s.GroupGives q g .groupSuspend x [] [5#8]) ∧
      (waiting < 4 → x.phase ≠ .closed → inAuction →
        s.GroupGives q g .groupSuspend (x.suspend .host)
          [{ (x.suspend .host).record g .suspend s.dating s.dating with cause := some .host }]
          (replyPayload .ok [fx 2 x.number]) ∧
        ∃ t, exec .groupSuspend s = .next t ∧ t.clu.notices = ((s.catchUp g s.dating true).clu.notice .group
          (groupNotice { (x.suspend .host).record g .suspend s.dating s.dating with cause := some .host } x.phase
            .suspended x.accepted s.dating)).notices) := by
  intro x waiting inAuction
  have hx : (s.serving g).group g = x := s.serving_group g
  have hfree (hw : waiting < 4) : groupSuspend q.payload s.beginService =
      (match suspendTest x s.dating with
        | some st => (s.serving g).says st
        | none => ((s.serving g).suspendGroup g .host none s.dating).says .ok [fx 2 x.number]) := by
    rw [← hx]
    exact groupRequest_free hg (.inr hw)
  refine ⟨fun hw => State.groupGives_refused h rfl (groupRequest_busy hg rfl hw), fun hw hclosed => ?_,
    fun hw hclosed hout => ?_, fun hw hclosed hin => ?_⟩
  · refine State.groupGives_refused h rfl ((hfree hw).trans ?_) (st := .tooLate)
    simp only [suspendTest, if_pos hclosed]
  · refine State.groupGives_refused h rfl ((hfree hw).trans ?_) (st := .wrongState)
    simp only [suspendTest, if_neg hclosed, EffPhase.inAuction_eq_false_iff.mpr hout, if_true]
  · have hact : groupSuspend q.payload s.beginService =
        ⟨(s.serving g).suspendGroup g .host none s.dating, replyPayload .ok [fx 2 x.number]⟩ := by
      refine (hfree hw).trans ?_
      simp only [suspendTest, if_neg hclosed, EffPhase.inAuction_iff.mpr hin, Bool.true_eq_false, if_false]
      rfl
    have hsame := (s.serving g).suspendGroup_same g .host none s.dating
    have hlog := (State.Logged.refl (s.serving g)).suspendGroup g .host none s.dating
    constructor
    · have hgives := State.groupGives_acted (c := .groupSuspend) h rfl hact hsame hlog
        ((s.serving g).suspendGroup_records g .host none s.dating)
      rw [State.suspendGroup_group, hx] at hgives
      exact hgives
    · obtain ⟨t, ht, _, _, _, hnotices, _⟩ := groupRequest_acted (g := g) h hact hsame (List.Subset.refl _) hlog
      rw [State.suspendGroup_clu, hx] at hnotices
      exact ⟨t, ht, hnotices.trans ((s.serving_sameNotices g).notice _ _).notices⟩

/-- What GROUP_ABANDON does, past the test of its index. -/
theorem groupAbandon_gives (h : s.CanTake 0x15 q) :
    let x := (s.catchUp g s.dating true).group g
    let waiting := ((s.catchUp g s.dating true).gs.records.filter fun r => decide (r.group = g)).length
    (4 ≤ waiting → s.GroupGives q g .groupAbandon x [] [12#8]) ∧
      (waiting < 4 → x.phase = .closed → s.GroupGives q g .groupAbandon x [] [6#8]) ∧
      (waiting < 4 → x.phase = .dormant ∨ x.phase = .abandoned → s.GroupGives q g .groupAbandon x [] [5#8]) ∧
      (waiting < 4 → x.phase = .scheduled ∨ x.phase = .call ∨ x.phase = .random ∨ x.phase = .suspended →
        s.GroupGives q g .groupAbandon x.abandon [x.abandonment g .host s.dating]
          (replyPayload .ok [fx 2 x.number, fx 4 (x.draw.getD 0), fo 8 x.tEnd])) := by
  intro x waiting
  have hx : (s.serving g).group g = x := s.serving_group g
  have hfree (hw : waiting < 4) : groupAbandon q.payload s.beginService =
      (match abandonTest x with
        | some st => (s.serving g).says st
        | none => ((s.serving g).abandonGroup g .host s.dating true).says .ok
            [fx 2 x.number, fx 4 (x.draw.getD 0), fo 8 x.tEnd]) := by
    rw [← hx]
    exact groupRequest_free hg (.inr hw)
  refine ⟨fun hw => State.groupGives_refused h rfl (groupRequest_busy hg rfl hw), fun hw hclosed => ?_,
    fun hw hstate => ?_, fun hw hopen => ?_⟩
  · refine State.groupGives_refused h rfl ((hfree hw).trans ?_) (st := .tooLate)
    simp only [abandonTest, hclosed]
  · refine State.groupGives_refused h rfl ((hfree hw).trans ?_) (st := .wrongState)
    rcases hstate with hp | hp <;> simp only [abandonTest, hp]
  · have hact : groupAbandon q.payload s.beginService = ⟨(s.serving g).abandonGroup g .host s.dating true,
        replyPayload .ok [fx 2 x.number, fx 4 (x.draw.getD 0), fo 8 x.tEnd]⟩ := by
      refine (hfree hw).trans ?_
      rcases hopen with hp | hp | hp | hp <;> simp only [abandonTest, hp] <;> rfl
    have hgives := State.groupGives_acted (c := .groupAbandon) h rfl hact
      ((s.serving g).abandonGroup_same g .host s.dating true)
      ((State.Logged.refl (s.serving g)).abandonGroup g .host s.dating true)
      ((s.serving g).abandonGroup_records g .host s.dating true)
    rw [State.abandonGroup_group, hx] at hgives
    exact hgives

/-- What GROUP_CLEAR does, past the test of its index. -/
theorem groupClear_gives (h : s.CanTake 0x16 q) :
    let x := (s.catchUp g s.dating true).group g
    let waiting := ((s.catchUp g s.dating true).gs.records.filter fun r => decide (r.group = g)).length
    (x.phase = .dormant → s.GroupGives q g .groupClear x [] [0#8]) ∧
      (x.phase = .closed ∨ x.phase = .abandoned → s.GroupGives q g .groupClear x.clear [] [0#8]) ∧
      (x.phase = .scheduled → 4 ≤ waiting → s.GroupGives q g .groupClear x [] [12#8]) ∧
      (x.phase = .scheduled → waiting < 4 →
        s.GroupGives q g .groupClear x.abandon.clear [x.abandonment g .clear s.dating] [0#8]) ∧
      (x.phase = .call ∨ x.phase = .random ∨ x.phase = .suspended → s.GroupGives q g .groupClear x [] [5#8]) := by
  intro x waiting
  have hx : (s.serving g).group g = x := s.serving_group g
  have hfree (hw : x.phase ≠ .scheduled ∨ waiting < 4) : groupClear q.payload s.beginService =
      (s.serving g).clearRequest g s.dating :=
    groupRequest_free (forms := fun x => decide (x.phase = .scheduled)) hg (hw.imp_left fun hp => decide_eq_false hp)
  have hrequest {p : Phase} (hp : x.phase = p) : ((s.serving g).group g).phase = p := hx ▸ hp
  have hclear (hp : x.phase = .closed ∨ x.phase = .abandoned) : groupClear q.payload s.beginService =
      ⟨(s.serving g).clearGroup g s.dating true, [0#8]⟩ := by
    rcases hp with hp | hp
    all_goals
      refine (hfree (.inl (by rw [hp]; decide))).trans ?_
      simp only [State.clearRequest, hrequest hp]
      rfl
  refine ⟨fun hp => ?_, fun hp => ?_, fun hp hw => ?_, fun hp hw => ?_, fun hp => ?_⟩
  · refine State.groupGives_refused h rfl ((hfree (.inl (by rw [hp]; decide))).trans ?_) (st := .ok)
    simp only [State.clearRequest, hrequest hp]
  · have hgives := State.groupGives_acted (c := .groupClear) (rs := []) h rfl (hclear hp)
      (((s.serving g).clearGroup_same g s.dating true).mono (by simp))
      ((State.Logged.refl (s.serving g)).clearGroup g s.dating true)
      (((s.serving g).clearGroup_records g s.dating true).trans (List.append_nil _).symm)
    rw [State.clearGroup_group, hx] at hgives
    exact hgives
  · exact State.groupGives_refused h rfl (groupRequest_busy (forms := fun x => decide (x.phase = .scheduled)) hg
      (decide_eq_true hp) hw)
  · have hact : groupClear q.payload s.beginService =
        ⟨((s.serving g).abandonGroup g .clear s.dating true).clearGroup g s.dating true, [0#8]⟩ := by
      refine (hfree (.inr hw)).trans ?_
      simp only [State.clearRequest, hrequest hp]
      rfl
    have hgives := State.groupGives_acted (c := .groupClear) h rfl hact
      (((s.serving g).abandonGroup_same g .clear s.dating true).trans
        ((State.clearGroup_same _ g s.dating true).mono (by simp)))
      (((State.Logged.refl (s.serving g)).abandonGroup g .clear s.dating true).clearGroup g s.dating true)
      ((State.clearGroup_records _ g s.dating true).trans ((s.serving g).abandonGroup_records g .clear s.dating true))
    rw [State.clearGroup_group, State.abandonGroup_group, hx] at hgives
    exact hgives
  · refine State.groupGives_refused h rfl ((hfree (.inl ?_)).trans ?_) (st := .wrongState)
    · rcases hp with hp | hp | hp <;> rw [hp] <;> decide
    · rcases hp with hp | hp | hp <;> simp only [State.clearRequest, hrequest hp]

end

/-- Settles O52: each of the three requests on what the catch-up leaves. -/
theorem groupSuspendAbandonAndClear : Obligations.GroupSuspendAbandonAndClear := by
  intro s q
  refine ⟨fun c hc htake hg => ?_, fun g hg => ?_⟩
  · simp only [List.mem_cons, List.not_mem_nil, or_false] at hc
    rcases hc with rfl | rfl | rfl
    · exact groupRequest_outOfRange htake hg rfl
    · exact groupRequest_outOfRange htake hg rfl
    · exact groupRequest_outOfRange htake hg rfl
  intro now s1 x waiting inAuction gives suspended abandoned abandonment cleared
  refine ⟨fun h => ?_, fun h => groupAbandon_gives hg h, fun h => groupClear_gives hg h, fun h hw hp hin => ?_⟩
  · obtain ⟨hbusy, hclosed, hout, hin⟩ := groupSuspend_gives hg h
    exact ⟨hbusy, hclosed, hout, fun hw hp hi => (hin hw hp hi).1⟩
  · obtain ⟨_, _, _, hgives⟩ := groupSuspend_gives hg h
    exact (hgives hw hp hin).2

end Sys2Proof.Machine
end

section
/-! Draws and the requests that make one (R116, R117, R124 to R131): O50 and O51. -/

namespace Sys2Proof.Machine

/-! ### Draws (R117) -/

theorem drawOf_eq (s : State) (window : Nat) :
    drawOf s.drawValue window = (Config.randomValue s.gs.demands).toNat * (1000 * window + 1) / 4294967296 := rfl

/-- R117: a draw lies within its window. -/
theorem drawOf_le (s : State) (window : Nat) : drawOf s.drawValue window ≤ 1000 * window := by
  have hx : s.drawValue < 4294967296 := (Config.randomValue s.gs.demands).isLt
  refine Nat.le_of_lt_succ (Nat.div_lt_of_lt_mul ?_)
  exact Nat.mul_lt_mul_of_pos_right hx (Nat.succ_pos _)

theorem fitInstant_of_le {n : Nat} (h : n ≤ max64) : fitInstant n = n := if_pos h

theorem drawEnd_of_le {tMin draw : Nat} (h : tMin + draw * 1000000 ≤ max64) :
    drawEnd tMin draw = tMin + draw * 1000000 := fitInstant_of_le h

theorem extendedMin_of_le {now length : Nat} (h : now + length * 1000000000 ≤ max64) :
    extendedMin now length = now + length * 1000000000 := by
  unfold extendedMin nsPerSecond
  exact fitInstant_of_le h

/-! ### GROUP_SCHEDULE (R124) -/

section
variable (s : State) (g : GroupIx) (tc tm window now : Nat)

/-- The group record that a schedule opens, before a call start that has passed. -/
def State.armed : Group := (s.group g).schedule tc tm window (drawOf s.drawValue window)

theorem State.schedule_eq :
    s.schedule g tc tm window now =
      if tc ≤ now then
        (s.demand.auctionStep g (s.armed g tc tm window) ((s.armed g tc tm window).record g .armed now now)
          true).takeExpiry g now true
      else s.demand.auctionStep g (s.armed g tc tm window) ((s.armed g tc tm window).record g .armed now now) true := rfl

theorem State.schedule_group :
    (s.schedule g tc tm window now).group g =
      if tc ≤ now then { s.armed g tc tm window with phase := .call } else s.armed g tc tm window := by
  rw [State.schedule_eq]
  split
  · rw [State.takeExpiry_group, State.auctionStep_group]
    rfl
  · exact State.auctionStep_group _ g _ _ _

theorem State.schedule_records :
    ((s.schedule g tc tm window now).gs.records.map fun r => (r.group, r.step, r.instant, r.now)) =
      (s.gs.records.map fun r => (r.group, r.step, r.instant, r.now)) ++
        (g, .armed, now, now) :: (if tc ≤ now then [(g, .callStart, tc, now)] else []) := by
  rw [State.schedule_eq]
  split
  · rw [State.takeExpiry_records, State.auctionStep_records, State.auctionStep_group, List.map_append, List.map_append,
      List.append_assoc]
    rfl
  · rw [State.auctionStep_records, List.map_append]
    rfl

theorem State.schedule_demands : (s.schedule g tc tm window now).gs.demands = s.gs.demands + 1 := by
  have hstep := State.auctionStep_same s.demand g (s.armed g tc tm window)
    ((s.armed g tc tm window).record g .armed now now) true .demands (by simp)
  rw [State.schedule_eq]
  split
  · exact (State.takeExpiry_same _ g now true .demands (by simp)).trans hstep
  · exact hstep

theorem State.schedule_sameBlocks :
    s.SameBut (s.schedule g tc tm window now) [.group g, .auctions, .demands, .clu] := by
  have hstep := (s.demand_same.mono (cs := [.group g, .auctions, .demands, .clu]) (by simp)).trans
    ((State.auctionStep_same s.demand g (s.armed g tc tm window)
      ((s.armed g tc tm window).record g .armed now now) true).mono (by simp))
  rw [State.schedule_eq]
  exact State.SameBut.ite (hstep.trans ((State.takeExpiry_same _ g now true).mono (by simp))) hstep

end

section
variable {s : State} {q : ControlRequest} {g : GroupIx} (h : s.CanTake 0x11 q) (hg : field q.payload 0 1 = g.val)

include h hg

/-- Table 7-3: a refusal of GROUP_SCHEDULE. -/
theorem groupSchedule_refused
    (hw : ((s.catchUp g s.dating true).gs.records.filter fun r => decide (r.group = g)).length < 4) {st : Status}
    (htest : s.scheduleTest ((s.catchUp g s.dating true).group g) (field q.payload 1 8) (field q.payload 9 8) s.dating =
      some st) :
    ∃ t, exec .groupSchedule s = .next t ∧ s.SameBut t [.group g, .auctions, .clu] ∧
      t.group g = (s.catchUp g s.dating true).group g ∧ t.gs.records = (s.catchUp g s.dating true).gs.records ∧
      s.Replied t q (replyPayload st []) := by
  refine groupRequest_refused (kind := 0x11) (act := groupSchedule) h ((groupRequest_free hg (.inr hw)).trans ?_)
  have hserving : (s.serving g).scheduleTest ((s.serving g).group g) (field q.payload 1 8) (field q.payload 9 8) s.dating =
      some st := by
    unfold State.scheduleTest at htest ⊢
    rw [State.serving_du, State.serving_group]
    exact htest
  dsimp only
  rw [hserving]

/-- The acceptance of GROUP_SCHEDULE. -/
theorem groupSchedule_accepted
    (hw : ((s.catchUp g s.dating true).gs.records.filter fun r => decide (r.group = g)).length < 4)
    (htest : s.scheduleTest ((s.catchUp g s.dating true).group g) (field q.payload 1 8) (field q.payload 9 8) s.dating =
      none) :
    ∃ t, exec .groupSchedule s = .next t ∧ s.SameBut t [.group g, .auctions, .demands, .clu] ∧
      t.group g = ((s.serving g).schedule g (field q.payload 1 8) (field q.payload 9 8)
        (clampQ 0 600 (field q.payload 17 2)).value s.dating).group g ∧
      t.gs = ((s.serving g).schedule g (field q.payload 1 8) (field q.payload 9 8)
        (clampQ 0 600 (field q.payload 17 2)).value s.dating).gs ∧
      s.Replied t q (replyPayload (okStatus (clampQ 0 600 (field q.payload 17 2)).clamped)
        [fx 1 g.val, fx 2 (((s.catchUp g s.dating true).group g).number + 1), fx 8 (field q.payload 1 8),
         fx 8 (field q.payload 9 8), fx 2 (clampQ 0 600 (field q.payload 17 2)).value]) := by
  have hserving : (s.serving g).scheduleTest ((s.serving g).group g) (field q.payload 1 8) (field q.payload 9 8) s.dating =
      none := by
    unfold State.scheduleTest at htest ⊢
    rw [State.serving_du, State.serving_group]
    exact htest
  have hact : groupSchedule q.payload s.beginService =
      ⟨(s.serving g).schedule g (field q.payload 1 8) (field q.payload 9 8) (clampQ 0 600 (field q.payload 17 2)).value
        s.dating, replyPayload (okStatus (clampQ 0 600 (field q.payload 17 2)).clamped)
          [fx 1 g.val, fx 2 (((s.catchUp g s.dating true).group g).number + 1), fx 8 (field q.payload 1 8),
           fx 8 (field q.payload 9 8), fx 2 (clampQ 0 600 (field q.payload 17 2)).value]⟩ := by
    rw [← State.serving_group]
    refine (groupRequest_free hg (.inr hw)).trans ?_
    dsimp only
    rw [hserving]
    rfl
  obtain ⟨t, ht, hsame, hgroup, hgs, _, hreplied⟩ := groupRequest_acted (g := g) h hact
    ((s.serving g).schedule_sameBlocks g _ _ _ _) (by simp) ((State.Logged.refl (s.serving g)).schedule g _ _ _ _)
  exact ⟨t, ht, hsame, hgroup, hgs, hreplied⟩

end

theorem okStatus_decide (p : Prop) [Decidable p] : okStatus (decide p) = if p then .okClamped else .ok := by
  unfold okStatus
  by_cases h : p <;> simp [h]

/-- A catch-up does not lead to DORMANT. -/
theorem Group.caught_ne_dormant {x : Group} {quality : TraceState} {now : Nat} (h : x.phase ≠ .dormant) (n : Nat) :
    (Group.caught quality now n x).phase ≠ .dormant := by
  induction n generalizing x with
  | zero => exact h
  | succ n ih =>
    refine ih ?_
    unfold Group.advance
    split
    · unfold Group.expired
      cases hp : x.phase with
      | dormant => exact absurd hp h
      | scheduled | call | random => exact nofun
      | _ => exact h
    · exact h

/-- The catch-up that leaves a group DORMANT forms no record. -/
theorem State.catchUp_records_of_dormant {s : State} {g : GroupIx}
    (h : ((s.catchUp g s.dating true).group g).phase = .dormant) :
    (s.catchUp g s.dating true).gs.records = s.gs.records := by
  rw [State.catchUp_group] at h
  have hp : (s.group g).phase = .dormant := by_contra fun hne => Group.caught_ne_dormant hne 3 h
  rw [State.catchUp_of_none (Group.reached_eq_none_of_left (by rw [hp]; rfl))]

/-- A refusal of GROUP_SCHEDULE as the catch-up leaves the group. -/
def State.ScheduleRefused (s : State) (q : ControlRequest) (g : GroupIx) (code : Byte) : Prop :=
  ∃ t, exec .groupSchedule s = .next t ∧ s.SameBut t [.group g, .auctions, .clu] ∧
    t.group g = (s.catchUp g s.dating true).group g ∧ t.gs.records = (s.catchUp g s.dating true).gs.records ∧
    s.Replied t q [code]

/-- Settles O50: Table 7-3 entry by entry, and the acceptance. -/
theorem groupScheduleOpensAnAuction : Obligations.GroupScheduleOpensAnAuction := by
  intro s q h
  refine ⟨fun hg => groupRequest_outOfRange h hg rfl, fun g hg => ?_⟩
  intro now s1 x waiting tc tm w refused
  have hbusy (hw : 4 ≤ waiting) : s.ScheduleRefused q g 12#8 :=
    groupRequest_refused (act := groupSchedule) (st := .busy) h (groupRequest_busy (forms := alwaysForms) hg rfl hw)
  have htest {st : Status} {code : Byte} (hcode : replyPayload st [] = [code]) (hw : waiting < 4)
      (htest : s.scheduleTest x tc tm now = some st) : s.ScheduleRefused q g code := by
    unfold State.ScheduleRefused
    rw [← hcode]
    exact groupSchedule_refused h hg hw htest
  unfold State.scheduleTest at htest
  refine ⟨hbusy, fun hw hmode => htest (st := .notSet) rfl hw (if_pos hmode),
    fun hw hmode hp => htest (st := .wrongState) rfl hw ?_, fun hw hmode hp => ⟨fun hn => ?_, fun hn hle => ?_,
    fun hn hlt hle => ?_, fun hn hlt hfar => ?_, fun hn hlt hnow hfar hfits => ?_⟩⟩
  · rw [if_neg hmode, if_pos hp]
  · refine htest (st := .exhausted) rfl hw ?_
    rw [if_neg hmode, if_neg (by simp [hp]), if_pos hn]
  · refine htest (st := .outOfRange) rfl hw ?_
    rw [if_neg hmode, if_neg (by simp [hp]), if_neg hn, if_pos hle]
  · refine htest (st := .tooLate) rfl hw ?_
    rw [if_neg hmode, if_neg (by simp [hp]), if_neg hn, if_neg (by omega), if_pos hle]
  · refine htest (st := .outOfRange) rfl hw ?_
    rw [if_neg hmode, if_neg (by simp [hp]), if_neg hn, if_neg (by omega), if_neg (by omega)]
    exact if_pos hfar
  · intro draw y
    have hdraw : draw = drawOf (s.serving g).drawValue w := by
      rw [drawOf_eq, State.serving_demands]
    have hle : draw ≤ 1000 * w := hdraw ▸ drawOf_le _ _
    have hw600 : w ≤ 600 := max_le (by decide) (min_le_left _ _)
    have haccept : s.scheduleTest x tc tm now = none := by
      unfold State.scheduleTest
      rw [if_neg hmode, if_neg (by simp [hp]), if_neg hn, if_neg (by omega), if_neg (by omega), if_neg]
      exact Nat.not_lt.mpr hfar
    have harmed : (s.serving g).armed g tc tm w = y := by
      have hend : drawEnd tm draw = tm + draw * 1000000 := drawEnd_of_le (by unfold max64; omega)
      unfold State.armed Group.schedule
      rw [← hdraw, State.serving_group, hend]
    obtain ⟨t, ht, hsame, hgroup, hgs, hreplied⟩ := groupSchedule_accepted h hg hw haccept
    have hrecords := (s.serving g).schedule_records g tc tm w now
    refine ⟨hle, t, ht, hsame, ?_, ?_, ?_, ?_⟩
    · rw [hgroup, State.schedule_group]
      exact congrArg (fun z : Group => if tc ≤ now then { z with phase := .call } else z) harmed
    · rw [hgs, State.schedule_demands, State.serving_demands]
    · rw [hgs]
      refine hrecords.trans ?_
      rw [State.serving_records, State.catchUp_records_of_dormant hp]
    · rw [← okStatus_decide]
      exact hreplied

/-! ### GROUP_EXTEND and GROUP_RESUME (R126, R127, R131) -/

section
variable (s : State) (g : GroupIx) (kind : ExtKind) (step : AuctionStep) (length now : Nat)

/-- The group record that an extension or a resumption leaves. -/
def State.extended : Group :=
  (s.group g).extend kind now (extendedMin now length) (drawOf s.drawValue ((s.group g).window.getD 0))

theorem State.extendGroup_group : (s.extendGroup g kind step length now).group g = s.extended g kind length now :=
  State.auctionStep_group _ g _ _ _

theorem State.extendGroup_records :
    (s.extendGroup g kind step length now).gs.records = s.gs.records ++
      [{ (s.extended g kind length now).record g step now now with cause := (s.group g).cause }] :=
  State.auctionStep_records _ g _ _ _

theorem State.extendGroup_demands : (s.extendGroup g kind step length now).gs.demands = s.gs.demands + 1 :=
  State.auctionStep_same s.demand g _ _ true .demands (by simp)

end

/-- R127, R131: the reply of a new end. -/
theorem State.lengthen_eq {s : State} {g : GroupIx} {kind : ExtKind} {step : AuctionStep} {now : Nat}
    {n : Clamped Nat} {x : Group} {tMin draw : Nat}
    (h : s.extended g kind n.value now = { x with
      phase := .call
      tMin := some tMin
      draw := some draw
      tEnd := some (drawEnd tMin draw)
      extensions := x.extensions ++ [⟨kind, now, tMin, draw⟩]
      cause := none }) :
    s.lengthen g kind step n now = ⟨s.extendGroup g kind step n.value now,
      replyPayload (okStatus n.clamped) [fx 2 x.number, fx 8 tMin, fx 1 (x.extensions.length + 1)]⟩ := by
  unfold State.lengthen State.says extendReply
  simp only [State.extendGroup_group, h, Option.getD_some, List.length_append, List.length_singleton]

/-- The request to extend or to resume, and its test. -/
def extTest (kind : ExtKind) (x : Group) (trace : TraceState) (now : Nat) : Option Status :=
  match kind with
  | .extend => extendTest x now
  | .resume => resumeTest x trace

/-- What the two requests share: a test, then a new end. -/
theorem groupRequest_lengthen {s : State} {q : ControlRequest} {c : Instr} {kind : ExtKind} {step : AuctionStep}
    (hc : c = .groupExtend ∧ s.CanTake 0x12 q ∧ kind = .extend ∧ step = .extend ∨
      c = .groupResume ∧ s.CanTake 0x14 q ∧ kind = .resume ∧ step = .resume) :
    ∃ (code : Nat) (act : List Byte → State → Acted), s.CanTake code q ∧ exec c s = live s (takeRequest code act) ∧
      act q.payload = groupRequest alwaysForms (fun g now x =>
        match extTest kind (x.group g) x.du.trace now with
        | some st => x.says st
        | none => x.lengthen g kind step (clampQ 1 1800 (field q.payload 1 2)) now) q.payload := by
  rcases hc with ⟨rfl, h, rfl, rfl⟩ | ⟨rfl, h, rfl, rfl⟩
  · exact ⟨0x12, groupExtend, h, rfl, rfl⟩
  · exact ⟨0x14, groupResume, h, rfl, rfl⟩

/-- Settles O51: Tables 7-4 and 7-5 entry by entry, and the acceptance. -/
theorem groupExtendAndResume : Obligations.GroupExtendAndResume := by
  intro s q c kind step hc
  obtain ⟨code, act, h, hexec, hact⟩ := groupRequest_lengthen hc
  refine ⟨fun hg => hexec.trans (groupRequest_outOfRange h hg hact), fun g hg => ?_⟩
  intro now s1 x waiting inAuction e refused
  have hrefuse {st : Status} {byte : Byte} (hbyte : replyPayload st [] = [byte])
      (hdoes : act q.payload s.beginService = (s.serving g).says st) : refused byte := by
    obtain ⟨t, ht, hrest⟩ := groupRequest_refused h hdoes
    rw [hbyte] at hrest
    exact ⟨t, hexec.trans ht, hrest⟩
  have hfree (hw : waiting < 4) : act q.payload s.beginService =
      match extTest kind x s.du.trace now with
      | some st => (s.serving g).says st
      | none => (s.serving g).lengthen g kind step (clampQ 1 1800 (field q.payload 1 2)) now := by
    rw [hact]
    refine (groupRequest_free (forms := alwaysForms) hg (.inr hw)).trans ?_
    rw [State.serving_group, State.serving_du]
  have htest {st : Status} {byte : Byte} (hbyte : replyPayload st [] = [byte]) (hw : waiting < 4)
      (ht : extTest kind x s.du.trace now = some st) : refused byte := by
    refine hrefuse hbyte ((hfree hw).trans ?_)
    rw [ht]
  have hbusy (hw : 4 ≤ waiting) : refused 12#8 := by
    refine hrefuse (st := .busy) rfl ?_
    rw [hact]
    exact groupRequest_busy (forms := alwaysForms) hg rfl hw
  have hin : (x.effective now).inAuction = true ↔ inAuction := EffPhase.inAuction_iff
  have hout : (x.effective now).inAuction = false ↔ ¬ inAuction := EffPhase.inAuction_eq_false_iff
  refine ⟨hbusy, fun hw => ⟨fun hk hp => ?_, fun hk hp hno => ?_, fun hk hp => ?_, fun hk hfull => ?_,
    fun hk hp hroom htr => ?_, fun hk hroom hfits => ?_⟩⟩
  · refine htest (st := .tooLate) rfl hw ?_
    rw [hk]
    exact if_pos hp
  · refine htest (st := .wrongState) rfl hw ?_
    rw [hk]
    exact (if_neg hp).trans (if_pos (hout.mpr hno))
  · refine htest (st := .wrongState) rfl hw ?_
    rw [hk]
    exact if_pos hp
  · refine htest (st := .listFull) rfl hw ?_
    rcases hk with ⟨hk, hp, hi⟩ | ⟨hk, hp⟩ <;> rw [hk]
    · exact (if_neg hp).trans ((if_neg (by simp [hin.mpr hi])).trans (if_pos hfull))
    · exact (if_neg (by simp [hp])).trans (if_pos hfull)
  · refine htest (st := .notTraceable) rfl hw ?_
    rw [hk]
    exact (if_neg (by simp [hp])).trans ((if_neg (Nat.not_le.mpr hroom)).trans (if_pos htr))
  · intro tMin draw
    have haccept : extTest kind x s.du.trace now = none := by
      rcases hk with ⟨hk, hp, hi⟩ | ⟨hk, hp, htr⟩ <;> rw [hk]
      · exact (if_neg hp).trans ((if_neg (by simp [hin.mpr hi])).trans (if_neg (Nat.not_le.mpr hroom)))
      · exact (if_neg (by simp [hp])).trans ((if_neg (Nat.not_le.mpr hroom)).trans (if_neg htr))
    have hdraw : draw = drawOf (s.serving g).drawValue (x.window.getD 0) := by
      rw [drawOf_eq, State.serving_demands]
    have hle : draw ≤ 1000 * x.window.getD 0 := hdraw ▸ drawOf_le _ _
    have hmin : extendedMin now e = tMin := extendedMin_of_le (by unfold max64; omega)
    have hend : drawEnd tMin draw = tMin + draw * 1000000 := drawEnd_of_le (by unfold max64; omega)
    have hx : (s.serving g).group g = x := s.serving_group g
    have hextended : (s.serving g).extended g kind e now = { x with
        phase := .call
        tMin := some tMin
        draw := some draw
        tEnd := some (drawEnd tMin draw)
        extensions := x.extensions ++ [⟨kind, now, tMin, draw⟩]
        cause := none } := by
      unfold State.extended Group.extend
      rw [hx, ← hdraw, hmin]
    have hdoes : act q.payload s.beginService = ⟨(s.serving g).extendGroup g kind step e now,
        replyPayload (okStatus (clampQ 1 1800 (field q.payload 1 2)).clamped)
          [fx 2 x.number, fx 8 tMin, fx 1 (x.extensions.length + 1)]⟩ := by
      refine (hfree hw).trans ?_
      rw [haccept]
      exact State.lengthen_eq (n := clampQ 1 1800 (field q.payload 1 2)) hextended
    obtain ⟨t, ht, hsame, htgroup, hgs, _, hreplied⟩ := groupRequest_acted (g := g)
      (bs := [.group g, .auctions, .demands, .clu]) h hdoes
      (((s.serving g).extendGroup_same g kind step e now).mono (by simp)) (by simp)
      ((State.Logged.refl (s.serving g)).extendGroup g kind step e now)
    refine ⟨t, hexec.trans ht, hsame, ?_, ?_, ?_, ?_⟩
    · rw [htgroup, State.extendGroup_group, hextended, hend]
    · rw [hgs, State.extendGroup_demands, State.serving_demands]
    · rw [hgs, State.extendGroup_records, State.serving_records, hx, htgroup, State.extendGroup_group]
    · rw [← okStatus_decide]
      exact hreplied

end Sys2Proof.Machine
end

section
/-! RESTART (R138, R185): O56. -/

namespace Sys2Proof.Machine

/-! ### The groups of a RESTART (R138) -/

/-- Whether an auction of the group is open (R138). -/
def Group.isOpen (x : Group) : Bool :=
  decide (x.phase = .scheduled ∨ x.phase = .call ∨ x.phase = .random ∨ x.phase = .suspended)

/-- R138, step 3, for one group record. -/
def Group.restartAbandoned (x : Group) : Group := if x.isOpen then x.abandon else x

/-- R138, step 4, for one group record. -/
def Group.restartCleared (x : Group) : Group := if x.phase = .closed ∨ x.phase = .abandoned then x.clear else x

theorem catchUp_step (quality : TraceState) (now : Nat) :
    GroupStep (fun x g => x.catchUp g now false) (fun x => x.du.trace = quality)
      (fun _ => Group.caught quality now 3) (fun g => Group.caughtRecords g quality now 3) where
  keeps x g hx := (congrArg Discipline.trace (x.catchUp_same g now false .du (by simp))).trans hx
  group x g hx := hx ▸ x.catchUp_group g now false
  other x g k hk := x.catchUp_same g now false (.group k) (by simp [hk])
  records x g hx := hx ▸ x.catchUp_records g now false

theorem restartAbandon_eq (now : Nat) (s : State) (g : GroupIx) :
    restartAbandon now s g = if (s.group g).isOpen then s.abandonGroup g .restart now false else s := by
  unfold restartAbandon Group.isOpen
  cases (s.group g).phase <;> rfl

theorem restartAbandon_step (now : Nat) :
    GroupStep (restartAbandon now) (fun _ => True) (fun _ => Group.restartAbandoned)
      (fun g x => if x.isOpen then [x.abandonment g .restart now] else []) where
  keeps _ _ _ := trivial
  group s g _ := by
    rw [restartAbandon_eq, Group.restartAbandoned]
    split
    · exact s.abandonGroup_group g _ _ _
    · rfl
  other s g k hk := restartAbandon_same now s g (.group k) (by simp [hk])
  records s g _ := by
    rw [restartAbandon_eq]
    split
    · exact s.abandonGroup_records g _ _ _
    · exact (List.append_nil _).symm

theorem restartClear_eq (now : Nat) (s : State) (g : GroupIx) :
    restartClear now s g =
      if (s.group g).phase = .closed ∨ (s.group g).phase = .abandoned then s.clearGroup g now false else s := by
  unfold restartClear
  cases (s.group g).phase <;> rfl

theorem restartClear_step (now : Nat) :
    GroupStep (restartClear now) (fun _ => True) (fun _ => Group.restartCleared) (fun _ _ => []) where
  keeps _ _ _ := trivial
  group s g _ := by
    rw [restartClear_eq, Group.restartCleared]
    split
    · exact s.clearGroup_group g _ _
    · rfl
  other s g k hk := restartClear_same now s g (.group k) (by simp [hk])
  records s g _ := by
    rw [restartClear_eq]
    split
    · exact (s.clearGroup_records g _ _).trans (List.append_nil _).symm
    · exact (List.append_nil _).symm

theorem flatMap_ite {α β : Type} (p : α → Bool) (f : α → β) (xs : List α) :
    (xs.flatMap fun x => if p x then [f x] else []) = (xs.filter p).map f := by
  induction xs with
  | nil => rfl
  | cons x xs ih =>
    rw [List.flatMap_cons, ih, List.filter_cons]
    split <;> rfl

/-- R138: the three passes over the groups. -/
theorem State.restartGroups_groups (s : State) :
    (∀ g, s.restartGroups.group g =
        (Group.caught s.du.trace s.dating 3 (s.group g)).restartAbandoned.restartCleared) ∧
      s.restartGroups.gs.records = s.gs.records ++
        ((List.finRange 16).flatMap fun g => Group.caughtRecords g s.du.trace s.dating 3 (s.group g)) ++
        ((List.finRange 16).filter fun g => (Group.caught s.du.trace s.dating 3 (s.group g)).isOpen).map fun g =>
          (Group.caught s.du.trace s.dating 3 (s.group g)).abandonment g .restart s.dating := by
  obtain ⟨_, hcaught, hcaughtRecords⟩ := (catchUp_step s.du.trace s.dating).eachGroup (s := s) rfl
  unfold State.restartGroups
  dsimp only
  generalize (s.eachGroup fun x g => x.catchUp g s.dating false) = u at hcaught hcaughtRecords ⊢
  obtain ⟨_, habandoned, habandonedRecords⟩ := (restartAbandon_step s.dating).eachGroup (s := u) trivial
  generalize u.eachGroup (restartAbandon s.dating) = v at habandoned habandonedRecords ⊢
  obtain ⟨_, hcleared, hclearedRecords⟩ := (restartClear_step s.dating).eachGroup (s := v) trivial
  refine ⟨fun g => by rw [hcleared, habandoned, hcaught], ?_⟩
  have hnone : ((List.finRange 16).flatMap fun _ : GroupIx => ([] : List AuctionRecord)) = [] :=
    List.flatMap_eq_nil_iff.mpr fun _ _ => rfl
  rw [hclearedRecords, hnone, List.append_nil, habandonedRecords, hcaughtRecords]
  simp only [hcaught, flatMap_ite]

/-! ### What a RESTART leaves of a group -/

namespace Group

variable {x : Group} {quality : TraceState} {now : Nat}

theorem isOpen_iff : x.isOpen = true ↔
    x.phase = .scheduled ∨ x.phase = .call ∨ x.phase = .random ∨ x.phase = .suspended := decide_eq_true_iff

theorem restarted_of_open (h : x.isOpen = true) :
    x.restartAbandoned.restartCleared = { number := x.number, revealed := x.number } := by
  rw [restartAbandoned, if_pos h, restartCleared, if_pos (.inr rfl)]
  rfl

theorem restarted_of_over (h : x.phase = .closed ∨ x.phase = .abandoned) :
    x.restartAbandoned.restartCleared = { number := x.number, revealed := x.revealed } := by
  have hopen : x.isOpen = false := by
    rcases h with h | h <;> simp [isOpen, h]
  rw [restartAbandoned, hopen, if_neg (by decide), restartCleared, if_pos h]
  rfl

theorem restarted_of_dormant (h : x.phase = .dormant) : x.restartAbandoned.restartCleared = x := by
  have hopen : x.isOpen = false := by simp [isOpen, h]
  rw [restartAbandoned, hopen, if_neg (by decide), restartCleared, if_neg (by simp [h])]

/-- A catch-up leaves an open auction open, or closes it with its draws revealed. -/
theorem caught_of_open (h : x.isOpen = true) (n : Nat) :
    (caught quality now n x).number = x.number ∧
      ((caught quality now n x).isOpen = true ∨
        (caught quality now n x).phase = .closed ∧ (caught quality now n x).revealed = x.number) := by
  induction n generalizing x with
  | zero => exact ⟨rfl, .inl h⟩
  | succ n ih =>
    cases hr : x.reached now with
    | none =>
      rw [caught_of_none hr]
      exact ⟨rfl, .inl h⟩
    | some i =>
      rw [caught, advance_of_reached hr]
      cases hp : x.phase with
      | scheduled | call =>
        have hx : (x.expired quality).isOpen = true := by simp [expired, hp, isOpen]
        have hnext := ih hx
        rwa [expired_number] at hnext
      | random =>
        have hx : x.expired quality = x.close quality := by simp only [expired, hp]
        rw [hx, caught_of_none (reached_eq_none_of_left rfl)]
        exact ⟨rfl, .inr ⟨rfl, rfl⟩⟩
      | dormant | suspended | closed | abandoned =>
        exact absurd (by rw [hp]; rfl) (left_pos_of_reached hr)

/-- R138: what a RESTART leaves of the group, by its phase before. -/
theorem restarted_caught :
    (x.phase = .dormant → (caught quality now 3 x).restartAbandoned.restartCleared = x) ∧
      (x.phase = .closed ∨ x.phase = .abandoned →
        (caught quality now 3 x).restartAbandoned.restartCleared = { number := x.number, revealed := x.revealed }) ∧
      (x.isOpen = true →
        (caught quality now 3 x).restartAbandoned.restartCleared = { number := x.number, revealed := x.number }) := by
  refine ⟨fun h => ?_, fun h => ?_, fun h => ?_⟩
  · rw [caught_of_none (reached_eq_none_of_left (by rw [h]; rfl)), restarted_of_dormant h]
  · rw [caught_of_none (reached_eq_none_of_left (by rcases h with h | h <;> rw [h] <;> rfl)), restarted_of_over h]
  · obtain ⟨hnumber, hopen | ⟨hclosed, hrevealed⟩⟩ := caught_of_open (quality := quality) (now := now) h 3
    · rw [restarted_of_open hopen, hnumber]
    · rw [restarted_of_over (.inl hclosed), hnumber, hrevealed]

end Group

/-! ### The state that RESTART leaves (R185) -/

section
variable (s : State)

/-- R99: the ports of a RESTART close without records or notices. -/
theorem State.restartPorts_keeps : s.SameBut s.restartPorts allPorts := by
  have hport (x : State) (p : PortIx) : x.SameBut (restartPort x p) allPorts := by
    rw [restartPort_eq]
    exact (x.setPort_same p _).mono (by simp [allPorts])
  have hfold (ps : List PortIx) (x : State) : x.SameBut (ps.foldl restartPort x) allPorts := by
    induction ps generalizing x with
    | nil => exact State.SameBut.refl x _
    | cons p ps ih => exact (hport x p).trans (ih _)
  exact hfold _ s

theorem State.restartBlocks_gs :
    (∀ g, s.restartBlocks.group g =
        (Group.caught s.du.trace s.dating 3 (s.group g)).restartAbandoned.restartCleared) ∧
      s.restartBlocks.gs.records = s.gs.records ++
        ((List.finRange 16).flatMap fun g => Group.caughtRecords g s.du.trace s.dating 3 (s.group g)) ++
        ((List.finRange 16).filter fun g => (Group.caught s.du.trace s.dating 3 (s.group g)).isOpen).map fun g =>
          (Group.caught s.du.trace s.dating 3 (s.group g)).abandonment g .restart s.dating := by
  have hports := s.restartPorts_keeps
  unfold State.restartBlocks
  generalize s.restartPorts = u at hports ⊢
  have hgs : u.gs = s.gs := State.gs_eq_of_same hports (by simp [allPorts]) (by simp [allPorts]) (by simp [allPorts])
  have hdu : u.du = s.du := hports .du (by simp [allPorts])
  have hdating : u.dating = s.dating := congrArg TimeBase.dating (hports .tb (by simp [allPorts]) : u.tb = s.tb)
  have hgroup (g : GroupIx) : u.group g = s.group g := congrArg (fun x : Scheduler => x.groups[g]) hgs
  obtain ⟨hgroups, hrecords⟩ := u.restartGroups_groups
  simp only [hdu, hdating, hgroup, hgs] at hgroups hrecords
  exact ⟨fun g => ((State.admin_same _ _ (.group g) (by simp)).trans (hgroups g)),
    (State.admin_same _ _ .auctions (by simp)).trans hrecords⟩

theorem State.restartBlocks_aj : s.restartBlocks.aj = (s.admin .restart).aj := by
  have hports := s.restartPorts_keeps
  unfold State.restartBlocks
  generalize s.restartPorts = u at hports ⊢
  have hgroups := u.restartGroups_same
  refine State.admin_aj_congr ?_ ?_ _
  · exact (hgroups .aj (by simp [allGroups])).trans (hports .aj (by simp [allPorts]))
  · exact congrArg TimeBase.dating ((hgroups .tb (by simp [allGroups])).trans (hports .tb (by simp [allPorts])))

end

theorem ControlRequest.answerLater_eq (e : ControlRequest) :
    e.answerLater = if e.status = .waiting then { e with status := .answerBusy } else e := by
  unfold answerLater
  cases he : e.status <;> simp

/-- What a RESTART replies depends on the ports, the groups and the stored profile alone. -/
theorem State.restartReply_eq (s : State) :
    s.beginService.restartReply =
      [fx 1 ((List.finRange 8).filter fun p => decide ((s.port p).state ≠ .closed)).length,
        fx 1 ((List.finRange 8).map fun p =>
          ((s.port p).requests.filter fun e => decide (e.status = .waiting)).length).sum,
        fx 1 ((List.finRange 16).filter fun g => (Group.caught s.du.trace s.dating 3 (s.group g)).isOpen).length,
        fx 1 ((List.finRange 16).filter fun g => decide ((s.group g).phase ≠ .closed ∧
          (Group.caught s.du.trace s.dating 3 (s.group g)).phase = .closed)).length] ++
        enableFields (restartEnables s.ss.profile) := by
  have hphase (g : GroupIx) : s.beginService.phaseCaughtUp g =
      (Group.caught s.du.trace s.dating 3 (s.group g)).phase :=
    congrArg Group.phase (s.beginService.catchUp_group g _ _)
  have habandon : s.beginService.willAbandon = fun g =>
      (Group.caught s.du.trace s.dating 3 (s.group g)).isOpen := by
    funext g
    unfold State.willAbandon Group.isOpen
    rw [hphase]
    cases (Group.caught s.du.trace s.dating 3 (s.group g)).phase <;> rfl
  have hclose : s.beginService.willClose = fun g => decide ((s.group g).phase ≠ .closed ∧
      (Group.caught s.du.trace s.dating 3 (s.group g)).phase = .closed) := by
    funext g
    unfold State.willClose
    rw [hphase, Bool.decide_and]
    rfl
  unfold State.restartReply
  rw [habandon, hclose]
  rfl

theorem restart_of_canTake {s : State} {q : ControlRequest} (h : s.CanTake 0x1D q) :
    restart s =
      (s.beginService.restartBlocks.answer q (replyPayload .ok s.beginService.restartReply)).restartControl := by
  unfold restart
  rw [(State.takeableOf_of_canTake h).1]

theorem Port.shutDown_keeps (x : Port) (epoch : Nat) :
    (x.shutDown epoch).capture = x.capture ∧ (x.shutDown epoch).grantsSinceOpen = x.grantsSinceOpen := ⟨rfl, rfl⟩

/-- Settles O56: the blocks of a RESTART, and its reply. -/
theorem restartClosesPortsAndAuctions : Obligations.RestartClosesPortsAndAuctions := by
  intro s q h
  have hlogged : s.beginService.Logged s.beginService.restartBlocks := (State.Logged.refl _).restartBlocks
  have hport (p : PortIx) : s.beginService.restartBlocks.port p = (s.port p).shutDown s.epoch :=
    State.restartBlocks_port _ p
  obtain ⟨hgroups, hrecords⟩ := s.beginService.restartBlocks_gs
  have haj := (State.restartBlocks_aj s.beginService).trans
    (State.admin_aj_congr (s := s.beginService) (t := s) rfl rfl .restart)
  have hss : s.beginService.restartBlocks.ss = s.ss :=
    s.beginService.restartBlocks_same .ss (by simp [allPorts, allGroups])
  have hreply := s.restartReply_eq
  have hsame := restart_same s
  have hexec : exec .restart s = .next (restart s) := live_of_running h.1 _
  rw [restart_of_canTake h] at hexec hsame
  generalize s.beginService.restartBlocks = u at hlogged hport hgroups hrecords haj hss hsame hexec
  have hreplied := State.answer_replied_of_logged (q := q) hlogged (replyPayload .ok s.beginService.restartReply)
  obtain ⟨hqueue, hreplies, _⟩ := hreplied
  have hcaught (g : GroupIx) : (s.catchUp g s.dating false).group g = Group.caught s.du.trace s.dating 3 (s.group g) :=
    s.catchUp_group g _ _
  have hformed (g : GroupIx) : (s.catchUp g s.dating false).gs.records.drop s.gs.records.length =
      Group.caughtRecords g s.du.trace s.dating 3 (s.group g) := by
    rw [s.catchUp_records, List.drop_left]
  refine ⟨_, hexec, hsame, fun p => ?_, fun g => ?_, haj, ?_, rfl, congrArg (fun x : Store => restartEnables x.profile) hss, ?_⟩
  · have hp : ((u.answer q (replyPayload .ok s.beginService.restartReply)).restartControl).port p =
        (s.port p).shutDown s.epoch := hport p
    rw [hp]
    exact ⟨rfl, rfl, fun e he => (s.port p).shutDown_refusing s.epoch he, (s.port p).shutDown_balance s.epoch, rfl, rfl⟩
  · have hg : ((u.answer q (replyPayload .ok s.beginService.restartReply)).restartControl).group g =
        (Group.caught s.du.trace s.dating 3 (s.group g)).restartAbandoned.restartCleared := hgroups g
    rw [hg]
    obtain ⟨hdormant, hover, hopen⟩ := Group.restarted_caught (x := s.group g) (quality := s.du.trace) (now := s.dating)
    exact ⟨hdormant, hover, fun hp => hopen (Group.isOpen_iff.mpr hp)⟩
  · show ((u.answer q _).clu.queue).map ControlRequest.answerLater = _
    rw [hqueue]
    exact List.map_congr_left fun e _ => e.answerLater_eq
  · intro now caught abandoned closed
    have hc : caught = fun g => Group.caught s.du.trace s.dating 3 (s.group g) := funext hcaught
    have hopen : abandoned = (List.finRange 16).filter fun g =>
        (Group.caught s.du.trace s.dating 3 (s.group g)).isOpen := by
      simp only [abandoned, hc]
      rfl
    have hclosed : closed = (List.finRange 16).filter fun g => decide ((s.group g).phase ≠ .closed ∧
        (Group.caught s.du.trace s.dating 3 (s.group g)).phase = .closed) := by
      simp only [closed, hc]
    constructor
    · refine hrecords.trans ?_
      rw [hopen]
      have hcatches : (fun g => (s.catchUp g now false).gs.records.drop s.gs.records.length) =
          fun g => Group.caughtRecords g s.du.trace s.dating 3 (s.group g) := funext hformed
      rw [hcatches, hc]
      rfl
    · refine hreplies.trans ?_
      rw [hopen, hclosed, hreply]
      exact congrArg (fun x : Store => s.clu.replies ++ [replyFrame q (replyPayload .ok (_ ++
        enableFields (restartEnables x.profile)))]) hss.symm

end Sys2Proof.Machine
end


section
/-! An applied step and what it does to the twin (R7 to R9, R70, R73). -/

namespace Sys2Proof.Machine

/-- The Time Base after an applied step. -/
theorem TimeBase.stepBy_eq (x : TimeBase) (amount : Int) :
    x.stepBy amount = { x with
      raw := stepTarget x.raw amount
      hwm := if amount < 0 then x.dating else x.hwm
      boundaries := x.boundaries ++
        if x.raw / nsPerSecond < stepTarget x.raw amount / nsPerSecond then
          [⟨stepTarget x.raw amount / nsPerSecond,
            max (stepTarget x.raw amount) (if amount < 0 then x.dating else x.hwm)⟩]
        else [] } := by
  unfold stepBy raiseBoundary secondCount
  by_cases h : x.raw / nsPerSecond < stepTarget x.raw amount / nsPerSecond <;> simp [h, dating]

theorem TwinLink.withholdEchoes_eq (x : TwinLink) :
    x.withholdEchoes = { x with
      transmit := x.transmit.filter fun f => !f.isEcho
      counters := { x.counters with
        echoesWithheld := min 4294967295 (x.counters.echoesWithheld + (x.transmit.filter TwinFrame.isEcho).length) } } := by
  unfold withholdEchoes sat32
  rw [Nat.min_comm]
  rfl

/-- A step of TB with the echoes withheld, before a probe closes. -/
def State.stepMoved (s : State) (amount : Int) : State :=
  { s with tb := s.tb.stepBy amount, tlu := s.tlu.withholdEchoes }

theorem State.stepTime_of_no_probe {s : State} (h : s.tlu.outstanding = none) (amount : Int) :
    s.stepTime amount = s.stepMoved amount := by
  have hnone : s.tlu.withholdEchoes.outstanding = none := h
  unfold stepTime twinStepped
  simp only [State.setTlu_tlu, hnone, Option.isSome_none, Bool.false_eq_true, if_false]
  rfl

theorem State.stepTime_of_probe {s : State} {p : Probe} (h : s.tlu.outstanding = some p) (amount : Int) :
    s.stepTime amount = (s.stepMoved amount).closeProbe (.invalid .step) := by
  have hsome : s.tlu.withholdEchoes.outstanding = some p := h
  unfold stepTime twinStepped
  simp only [State.setTlu_tlu, hsome, Option.isSome_some, if_true]
  rfl

/-- Settles O23: raw time moves with its boundary, the echoes are withheld, and the probe formed last closes. -/
theorem anAppliedStepReachesTheTwin : Obligations.AnAppliedStepReachesTheTwin := by
  intro s amount raw hwm withheld moved
  have hmoved : s.stepMoved amount = moved := by
    unfold State.stepMoved
    rw [TimeBase.stepBy_eq, TwinLink.withholdEchoes_eq]
    rfl
  refine ⟨fun hnone => ?_, fun older x hp holder hout hattached => ?_⟩
  · rw [State.stepTime_of_no_probe (TwinLink.outstanding_eq_none_iff.mpr hnone), hmoved]
  · rw [State.stepTime_of_probe (TwinLink.outstanding_of_last hp holder hout), hmoved]
    exact State.closeProbe_of_last (s := moved) (TwinState.attached_iff.mp hattached) hp holder hout (by simp)

end Sys2Proof.Machine
end


section
/-! B and the traceability state at a second boundary (R53, R54). -/

namespace Sys2Proof.Machine

@[simp] theorem Slot.activate_active {α : Type} (x : Slot α) : x.activate.active = x.pending.getD x.active := by
  obtain ⟨_, pending⟩ := x
  cases pending <;> rfl

theorem Slot.activate_eq {α : Type} (x : Slot α) : x.activate = ⟨x.pending.getD x.active, none⟩ := by
  obtain ⟨_, pending⟩ := x
  cases pending <;> rfl

theorem grownBound_eq (bound instant growth dating : Nat) :
    grownBound bound instant growth dating = min 4294967295 (bound + growth * ((dating - instant) / 1000000000)) :=
  Nat.min_comm _ _

namespace Discipline

variable {x : Discipline} {a : Anchor} {growth dating : Nat} {tr : Trace}

theorem boundAt_of_unset (h : x.mode = .unset) : x.boundAt growth dating = none := by
  unfold boundAt
  rw [h]

/-- In HOLDOVER the smaller assisted bound is in force. -/
theorem boundAt_of_assisted {y : Assisted} (hmode : x.mode = .holdover) (ha : x.anchor = some a)
    (hy : x.assisted = some y)
    (hless : grownBound y.bound y.instant growth dating < grownBound a.bound a.instant growth dating) :
    x.boundAt growth dating = some ⟨grownBound y.bound y.instant growth dating, true⟩ := by
  unfold boundAt
  simp only [hmode, ha, hy, hless, if_true]

/-- Otherwise the bound of the anchor is. -/
theorem boundAt_of_anchor (hmode : x.mode ≠ .unset) (ha : x.anchor = some a)
    (hnot : x.mode = .holdover → ∀ y, x.assisted = some y →
      ¬ grownBound y.bound y.instant growth dating < grownBound a.bound a.instant growth dating) :
    x.boundAt growth dating = some ⟨grownBound a.bound a.instant growth dating, false⟩ := by
  unfold boundAt
  rw [ha]
  cases hm : x.mode with
  | unset => exact absurd hm hmode
  | locked => rfl
  | slewing => rfl
  | holdover =>
    cases hy : x.assisted with
    | none => rfl
    | some y => exact if_neg (hnot hm y hy)

/-- Table 3-4 with an anchor. -/
theorem traceAt_of_anchor (hmode : x.mode ≠ .unset) (ha : x.anchor = some a) (f : BoundInForce) :
    x.traceAt tr (some f) =
      if (f.assisted = false ∧ a.source = .host) ∨ tr.limit < f.bound ∨
          (x.trace = .untraceable ∧ ¬ (f.assisted = false ∧ a.source = .ref ∧ a.qualified = true)) then .untraceable
      else if tr.advisory < f.bound then .degraded else .traceable := by
  unfold traceAt hostInForce qualifiedInForce
  simp only [hmode, ha, if_false, Bool.and_eq_true, Bool.not_eq_true', decide_eq_true_eq, Bool.and_eq_false_iff]
  split_ifs <;> grind

end Discipline

section
variable {s : State} {b : Boundary} {rest : List Boundary}

/-- G and the thresholds in force from a boundary on. -/
def State.traceSettings (s : State) : Trace := s.tb.trace.pending.getD s.tb.trace.active

theorem State.boundaryTraced_du :
    (s.boundaryTraced b rest).du = { s.du with
      bound := (s.du.boundAt s.traceSettings.growth b.dating).map BoundInForce.bound
      trace := s.du.traceAt s.traceSettings (s.du.boundAt s.traceSettings.growth b.dating) } := by
  have hactive : (TimeBase.activate { s.tb with boundaries := rest }).trace.active = s.traceSettings :=
    Slot.activate_active s.tb.trace
  rw [← hactive]
  rfl

theorem State.traceChanged_bound (old : TraceState) (dating : Nat) :
    (s.traceChanged old dating).du.bound = s.du.bound := by
  unfold State.traceChanged
  split
  · rfl
  · have htold : ((s.clockRecordAt (.traceState old s.du.trace s.du.bound dating) dating).tellScheduler.tellTwin).du =
        (s.clockRecordAt (.traceState old s.du.trace s.du.bound dating) dating).du :=
      (State.tellTwin_same _ .du (by decide)).trans (State.tellScheduler_same _ .du (by simp [allGroups]))
    rw [htold, State.clockRecordAt_du]

theorem State.countBoundary_bound (s : State) : s.countBoundary.du.bound = s.du.bound := by
  unfold State.countBoundary
  dsimp only
  have hsubmit (x : Body) : (s.submit x).du = s.du := s.submit_same x .du (by decide)
  split
  · show (s.submit (.evidence _ _)).du.bound = _
    rw [hsubmit]
  · rfl

theorem secondBoundary_bound (h : s.tb.boundaries = b :: rest) :
    (secondBoundary s).du.bound = (s.boundaryTraced b rest).du.bound := by
  rw [secondBoundary_eq h]
  calc ((s.boundaryTold b rest).countBoundary.tickReaction b).du.bound
    _ = (s.boundaryTold b rest).countBoundary.du.bound :=
        congrArg Discipline.bound (State.tickReaction_same _ b .du (by decide))
    _ = (s.boundaryTold b rest).du.bound := State.countBoundary_bound _
    _ = (s.boundaryTraced b rest).du.bound := State.traceChanged_bound _ _

end

/-- Settles O11: the bound of the anchor or of the assisted anchor, and the first entry of Table 3-4. -/
theorem boundAndTraceabilityAtABoundary : Obligations.BoundAndTraceabilityAtABoundary := by
  intro s b rest hrun hb
  have hbound := secondBoundary_bound hb
  have htrace := secondBoundary_trace hb
  rw [State.boundaryTraced_du] at hbound htrace
  refine ⟨_, live_of_running hrun _, fun hunset => ?_, fun a hmode ha => ?_⟩
  · rw [Discipline.boundAt_of_unset hunset] at hbound htrace
    exact ⟨hbound, htrace⟩
  · intro tr hold assist byTwin
    have htr : s.traceSettings = tr := rfl
    have hhold : grownBound a.bound a.instant tr.growth b.dating = hold := grownBound_eq _ _ _ _
    have hassist : assist = s.du.assisted.map fun y => grownBound y.bound y.instant tr.growth b.dating := by
      simp only [assist, grownBound_eq]
    rw [htr] at hbound htrace
    by_cases htwin : byTwin
    · obtain ⟨hmode', x, hx, hless⟩ := id htwin
      rw [hassist] at hx
      obtain ⟨y, hy, rfl⟩ := Option.map_eq_some_iff.mp hx
      rw [Discipline.boundAt_of_assisted hmode' ha hy (hhold.symm ▸ hless)] at hbound htrace
      rw [Discipline.traceAt_of_anchor hmode ha] at htrace
      refine ⟨_, hbound, fun _ => hassist.trans hx, fun h => absurd htwin h, ?_, ?_, ?_, ?_⟩
      all_goals
        intro hcase
        refine htrace.trans ?_
        dsimp only at hcase ⊢
      · exact absurd htwin hcase.2
      · exact if_pos (by tauto)
      · exact if_pos (by tauto)
      · obtain ⟨_, hlimit, hrest⟩ := hcase
        refine if_neg ?_
        rintro (h | h | ⟨h, _⟩)
        · exact absurd h.1 (by decide)
        · exact Nat.not_lt.mpr hlimit h
        · exact hrest.elim (fun h' => h' h) fun h' => h'.1 htwin
    · have hnot : s.du.mode = .holdover → ∀ y, s.du.assisted = some y →
          ¬ grownBound y.bound y.instant tr.growth b.dating < grownBound a.bound a.instant tr.growth b.dating := by
        intro hm y hy hless
        exact htwin ⟨hm, _, by rw [hassist, hy]; rfl, hhold ▸ hless⟩
      rw [Discipline.boundAt_of_anchor hmode ha hnot, hhold] at hbound htrace
      rw [Discipline.traceAt_of_anchor hmode ha] at htrace
      refine ⟨_, hbound, fun h => absurd h htwin, fun _ => rfl, ?_, ?_, ?_, ?_⟩
      all_goals
        intro hcase
        refine htrace.trans ?_
        dsimp only at hcase ⊢
      · exact if_pos (.inl ⟨rfl, hcase.1⟩)
      · exact if_pos (.inr (.inl hcase))
      · refine if_pos (.inr (.inr ⟨hcase.1, fun h => ?_⟩))
        rcases hcase.2 with h' | h' | h'
        · exact htwin h'
        · exact h' h.2.1
        · exact absurd h.2.2 (by rw [h']; decide)
      · obtain ⟨hhost, hlimit, hrest⟩ := hcase
        refine if_neg ?_
        rintro (h | h | ⟨h, hnref⟩)
        · exact hhost ⟨h.2, htwin⟩
        · exact Nat.not_lt.mpr hlimit h
        · exact hrest.elim (fun h' => h' h) fun h' => hnref ⟨rfl, h'.2⟩

end Sys2Proof.Machine
end


section
/-! The reactions to a second boundary (R4, R6, R54, R57, R75, R129, R176). -/

namespace Sys2Proof.Machine

/-! ### What the suspension's notices depend on -/

section
variable {s t : State} {now : Nat}

theorem clockSuspend_sameAuctions (h : ∀ k, s.SameAuctions t k) (g : GroupIx) :
    ∀ k, (clockSuspend now s g).SameAuctions (clockSuspend now t g) k := by
  have hstep := clockSuspend_step t.du.trace now
  have hcaught : (s.catchUp g now true).SameAuctions (t.catchUp g now true) g :=
    (((h g).takeReached true).takeReached true).takeReached true
  have htrace : (clockSuspend now s g).du.trace = (clockSuspend now t g).du.trace :=
    (hstep.keeps s g (h g).trace).trans (hstep.keeps t g rfl).symm
  have hnotices : (clockSuspend now s g).clu.SameNotices (clockSuspend now t g).clu := by
    unfold clockSuspend
    dsimp only
    rw [hcaught.group]
    split
    · rw [State.suspendGroup_clu, State.suspendGroup_clu, hcaught.group]
      exact hcaught.notices.notice _ _
    · exact hcaught.notices
  refine fun k => ⟨?_, htrace, hnotices⟩
  by_cases hk : k = g
  · subst hk
    rw [hstep.group s k (h k).trace, hstep.group t k rfl, (h k).group]
  · rw [hstep.other s g k hk, hstep.other t g k hk, (h k).group]

theorem State.clockSuspension_sameNotices (h : ∀ k, s.SameAuctions t k) (hd : s.dating = t.dating) :
    s.clockSuspension.clu.SameNotices t.clockSuspension.clu := by
  have hfold (groups : List GroupIx) {x y : State} (hxy : ∀ k, x.SameAuctions y k) :
      ∀ k, (groups.foldl (clockSuspend t.dating) x).SameAuctions (groups.foldl (clockSuspend t.dating) y) k := by
    induction groups generalizing x y with
    | nil => exact hxy
    | cons g gs ih => exact ih (clockSuspend_sameAuctions hxy g)
  unfold State.clockSuspension
  rw [hd]
  exact (hfold (List.finRange 16) h 0).notices

end

/-! ### The traceability state told -/

theorem State.clockLost_same {s : State} : s.SameBut s.clockLost [.aj, .clu] := by
  unfold State.clockLost
  rw [← State.lose_clock_eq]
  exact .ite (s.lose_same _ _) (.refl _ _)

/-- The CLOCK record of a change of the traceability state to `new`, lost or not, with its notice. -/
def State.traceNoticed (s : State) (new : TraceState) (bound : Option Nat) (dating : Nat) : State :=
  State.notice (s.clockLost.setDu { s.du with trace := new }) .clock
    [fx 1 8, fx 1 (TraceState.toCode s.du.trace), fx 1 (TraceState.toCode new), fo 4 bound, fx 8 dating,
     fx 1 (Mode.toCode s.du.mode), fx 1 (TraceState.toCode new), fo 4 bound, fx 8 dating]

/-- What a change of the traceability state to `new` says to AJ and CLU: the TRACE_STATE record with its notice, and the
suspensions of an UNTRACEABLE clock. -/
def State.traceTold (s : State) (new : TraceState) (bound : Option Nat) (dating : Nat) : State :=
  if new = s.du.trace then s
  else if new = .untraceable then (s.traceNoticed new bound dating).clockSuspension
  else s.traceNoticed new bound dating

theorem State.traceNoticed_same {s : State} (new : TraceState) (bound : Option Nat) (dating : Nat) :
    s.SameBut (s.traceNoticed new bound dating) [.du, .aj, .clu] :=
  ((State.clockLost_same.mono (by decide)).trans ((State.setDu_same _ _).mono (by decide))).trans
    ((State.notice_same _ _ _).mono (by decide))

theorem State.traceTold_dating (s : State) (new : TraceState) (bound : Option Nat) (dating : Nat) :
    (s.traceTold new bound dating).dating = s.dating := by
  have hnoticed : (s.traceNoticed new bound dating).dating = s.dating :=
    congrArg TimeBase.dating (State.traceNoticed_same _ _ _ .tb (by decide))
  unfold State.traceTold
  split_ifs
  · rfl
  · exact (congrArg TimeBase.dating (State.clockSuspension_same _ .tb (by simp [allGroups]))).trans hnoticed
  · exact hnoticed

section
variable {s : State} {b : Boundary} {rest : List Boundary}

/-- The TRACE_STATE record of a boundary. -/
def State.traceRecord (s : State) (b : Boundary) (rest : List Boundary) : ClockRecord :=
  (s.boundaryTraced b rest).du.form
    (.traceState s.du.trace (s.boundaryTraced b rest).du.trace (s.boundaryTraced b rest).du.bound b.dating)

/-- The state with the TRACE_STATE record formed. -/
def State.traceFormed (s : State) (b : Boundary) (rest : List Boundary) : State :=
  (s.boundaryTraced b rest).clockRecordAt
    (.traceState s.du.trace (s.boundaryTraced b rest).du.trace (s.boundaryTraced b rest).du.bound b.dating) b.dating

theorem State.boundaryTold_of_same (h : (s.boundaryTraced b rest).du.trace = s.du.trace) :
    s.boundaryTold b rest = s.boundaryTraced b rest := if_pos h

theorem State.boundaryTold_of_changed (h : (s.boundaryTraced b rest).du.trace ≠ s.du.trace) :
    s.boundaryTold b rest = (s.traceFormed b rest).tellScheduler.tellTwin := if_neg h

theorem State.traceFormed_same : (s.boundaryTraced b rest).SameBut (s.traceFormed b rest) [.du, .aj, .clu] :=
  State.clockRecordAt_same _ _ _

theorem State.boundaryTold_records :
    (s.boundaryTold b rest).du =
      { (s.boundaryTraced b rest).du with
        records := s.du.records ++
          if (s.boundaryTraced b rest).du.trace = s.du.trace ∨ 32 ≤ s.du.records.length then []
          else [s.traceRecord b rest] } := by
  have hrecords : (s.boundaryTraced b rest).du.records = s.du.records := by rw [State.boundaryTraced_du]
  by_cases h : (s.boundaryTraced b rest).du.trace = s.du.trace
  · rw [State.boundaryTold_of_same h, if_pos (.inl h), List.append_nil, ← hrecords]
  · have hdu : (s.traceFormed b rest).tellScheduler.tellTwin.du = (s.traceFormed b rest).du :=
      (State.tellTwin_same _ .du (by decide)).trans (State.tellScheduler_same _ .du (by simp [allGroups]))
    rw [State.boundaryTold_of_changed h, hdu, State.traceFormed, State.clockRecordAt_du, hrecords]
    by_cases hfull : 32 ≤ s.du.records.length
    · rw [if_neg (Nat.not_lt.mpr hfull), if_pos (.inr hfull), List.append_nil]
    · rw [if_pos (Nat.not_le.mp hfull), if_neg (not_or.mpr ⟨h, hfull⟩)]
      rfl

theorem State.boundaryTold_tlu :
    (s.boundaryTold b rest).tlu =
      if (s.boundaryTraced b rest).du.trace = s.du.trace ∨ s.tlu.state.attached = false then s.tlu
      else s.tlu.joined (.status ⟨(s.boundaryTraced b rest).du.trace, (s.boundaryTraced b rest).du.bound, s.du.mode,
        s.du.selection, s.epoch⟩) := by
  have htraced : (s.boundaryTraced b rest).tlu = s.tlu := State.boundaryTraced_same .tlu (by decide)
  by_cases h : (s.boundaryTraced b rest).du.trace = s.du.trace
  · rw [State.boundaryTold_of_same h, if_pos (.inl h), htraced]
  · rw [State.boundaryTold_of_changed h]
    have htold := State.tellScheduler_same (s.traceFormed b rest)
    have htlu : (s.traceFormed b rest).tellScheduler.tlu = s.tlu :=
      (htold .tlu (by simp [allGroups])).trans ((State.traceFormed_same .tlu (by decide)).trans htraced)
    have hepoch : (s.traceFormed b rest).tellScheduler.epoch = s.epoch :=
      (htold .epoch (by simp [allGroups])).trans ((State.traceFormed_same .epoch (by decide)).trans
        (State.boundaryTraced_same .epoch (by decide)))
    have hdu : (s.traceFormed b rest).tellScheduler.du = (s.traceFormed b rest).du := htold .du (by simp [allGroups])
    have hown : (s.traceFormed b rest).tellScheduler.ownStatus = ⟨(s.boundaryTraced b rest).du.trace,
        (s.boundaryTraced b rest).du.bound, s.du.mode, s.du.selection, s.epoch⟩ := by
      unfold State.ownStatus
      rw [hdu, hepoch, State.traceFormed, State.clockRecordAt_du, State.boundaryTraced_du]
    unfold State.tellTwin
    rw [htlu]
    cases hattached : s.tlu.state.attached
    · simp [htlu]
    · simp only [h, if_true, false_or, Bool.true_eq_false, if_false]
      rw [State.formTwin_tlu, htlu, hown, TwinLink.form_eq_joined]

theorem State.traceFormed_aj : (s.traceFormed b rest).aj = s.clockLost.aj := by
  have hdu : (s.boundaryTraced b rest).du.records = s.du.records := by rw [State.boundaryTraced_du]
  have haj : (s.boundaryTraced b rest).aj = s.aj := State.boundaryTraced_same .aj (by decide)
  rw [State.traceFormed, State.clockRecordAt_aj]
  exact State.clockLost_aj_congr haj (congrArg List.length hdu)

theorem State.traceFormed_sameNotices :
    (s.traceFormed b rest).clu.SameNotices
      (s.traceNoticed (s.boundaryTraced b rest).du.trace (s.boundaryTraced b rest).du.bound b.dating).clu := by
  have hdu : (s.boundaryTraced b rest).du.records = s.du.records := by rw [State.boundaryTraced_du]
  have hmode : (s.boundaryTraced b rest).du.mode = s.du.mode := by rw [State.boundaryTraced_du]
  have haj : (s.boundaryTraced b rest).aj = s.aj := State.boundaryTraced_same .aj (by decide)
  have hclu : (s.boundaryTraced b rest).clu = s.clu := State.boundaryTraced_same .clu (by decide)
  rw [State.traceFormed, State.clockRecordAt_clu, State.traceNoticed, ← hmode]
  exact (State.clockLost_sameNotices haj (congrArg List.length hdu) rfl (hclu ▸ .refl _)).notice _ _

/-- AJ and the notices are told alike. -/
theorem State.boundaryTold_alike :
    (s.boundaryTold b rest).aj =
        (s.traceTold (s.boundaryTraced b rest).du.trace (s.boundaryTraced b rest).du.bound b.dating).aj ∧
      (s.boundaryTold b rest).clu.SameNotices
        (s.traceTold (s.boundaryTraced b rest).du.trace (s.boundaryTraced b rest).du.bound b.dating).clu := by
  have haj : (s.boundaryTraced b rest).aj = s.aj := State.boundaryTraced_same .aj (by decide)
  have hclu : (s.boundaryTraced b rest).clu = s.clu := State.boundaryTraced_same .clu (by decide)
  by_cases h : (s.boundaryTraced b rest).du.trace = s.du.trace
  · rw [State.boundaryTold_of_same h, State.traceTold, if_pos h, haj, hclu]
    exact ⟨rfl, .refl _⟩
  · have htwin := State.tellTwin_same (s.traceFormed b rest).tellScheduler
    rw [State.boundaryTold_of_changed h, State.traceTold, if_neg h, htwin .aj (by decide), htwin .clu (by decide)]
    have hformed := State.traceFormed_same (s := s) (b := b) (rest := rest)
    have htrace : (s.traceFormed b rest).du.trace = (s.boundaryTraced b rest).du.trace := by
      rw [State.traceFormed, State.clockRecordAt_du]
    have hd : (s.traceFormed b rest).dating = s.dating :=
      (congrArg TimeBase.dating (hformed .tb (by decide))).trans State.boundaryTraced_dating
    have hnoticed := s.traceNoticed_same (s.boundaryTraced b rest).du.trace (s.boundaryTraced b rest).du.bound b.dating
    have hnotices := State.traceFormed_sameNotices (s := s) (b := b) (rest := rest)
    have hnoticedAj : (s.traceNoticed (s.boundaryTraced b rest).du.trace (s.boundaryTraced b rest).du.bound
        b.dating).aj = s.clockLost.aj := rfl
    have hnoticedTrace : (s.traceNoticed (s.boundaryTraced b rest).du.trace (s.boundaryTraced b rest).du.bound
        b.dating).du.trace = (s.boundaryTraced b rest).du.trace := rfl
    have htracedGroup (k : GroupIx) : (s.boundaryTraced b rest).group k = s.group k :=
      State.boundaryTraced_same (.group k) (by simp)
    unfold State.tellScheduler
    rw [htrace]
    generalize s.traceNoticed (s.boundaryTraced b rest).du.trace (s.boundaryTraced b rest).du.bound b.dating = x
      at hnoticed hnotices hnoticedAj hnoticedTrace ⊢
    split
    · have hsuspended (y : State) : y.clockSuspension.aj = y.aj := y.clockSuspension_same .aj (by simp [allGroups])
      refine ⟨?_, State.clockSuspension_sameNotices (fun k => ⟨?_, htrace.trans hnoticedTrace.symm, hnotices⟩) ?_⟩
      · rw [hsuspended, hsuspended, State.traceFormed_aj, hnoticedAj]
      · exact ((hformed (.group k) (by simp)).trans (htracedGroup k)).trans (hnoticed (.group k) (by simp)).symm
      · exact hd.trans (congrArg TimeBase.dating (hnoticed .tb (by simp))).symm
    · exact ⟨State.traceFormed_aj.trans hnoticedAj.symm, hnotices⟩

/-! ### The boundary counted, and the TICK notice -/

/-- R57, for DU. -/
theorem State.countBoundary_du (x : State) :
    x.countBoundary.du =
      if x.tb.trace.active.interval ≤ x.du.boundaryCount + 1 then { x.du with boundaryCount := 0, stats := {} }
      else { x.du with boundaryCount := x.du.boundaryCount + 1 } := by
  have hsubmit (e : Body) : (x.submit e).du = x.du := x.submit_same e .du (by decide)
  unfold State.countBoundary
  dsimp only
  split
  · rw [State.setDu_du, hsubmit]
  · rfl

/-- R57, for AJ and the notices. -/
def State.evidenced (x : State) : State :=
  if x.tb.trace.active.interval ≤ x.du.boundaryCount + 1 then
    x.submit (.evidence x.dating (x.evidence x.tb.trace.active.interval))
  else x

theorem State.countBoundary_aj (x : State) : x.countBoundary.aj = x.evidenced.aj := by
  unfold State.countBoundary State.evidenced
  dsimp only
  split <;> rfl

theorem State.countBoundary_clu (x : State) : x.countBoundary.clu = x.evidenced.clu := by
  unfold State.countBoundary State.evidenced
  dsimp only
  split <;> rfl

theorem State.tickReaction_tick (x : State) :
    (x.tickReaction b).clu.tick = if x.clu.tick = .once then .off else x.clu.tick := by
  have hnotice : (x.notice .tick (tickNotice b x.du.trace x.du.bound)).clu.tick = x.clu.tick :=
    (x.clu.notice_noticed _ _).tick
  unfold State.tickReaction
  cases h : x.clu.tick with
  | off => exact h
  | once => rfl
  | eachSecond => exact hnotice.trans h

theorem State.tickReaction_notices (x : State) :
    (x.tickReaction b).clu.notices =
      if x.clu.tick = .off then x.clu.notices
      else (x.clu.notice .tick (tickNotice b x.du.trace x.du.bound)).notices := by
  unfold State.tickReaction
  cases x.clu.tick <;> rfl

theorem State.tickReaction_requests (x : State) : x.clu.SameRequests (x.tickReaction b).clu := by
  have hnotice := (x.clu.notice_noticed .tick (tickNotice b x.du.trace x.du.bound)).requests
  unfold State.tickReaction
  cases x.clu.tick with
  | off => exact .refl _
  | once => exact ⟨hnotice.queue, hnotice.replies, hnotice.counters, hnotice.markers⟩
  | eachSecond => exact hnotice

end

section
variable {s : State} {b : Boundary} {rest : List Boundary} (h : s.tb.boundaries = b :: rest)

include h

theorem secondBoundary_activates : (secondBoundary s).tb = TimeBase.activate { s.tb with boundaries := rest } := by
  rw [secondBoundary_eq h, State.tickReaction_same _ b .tb (by decide), State.countBoundary_same _ .tb (by decide)]
  exact State.traceChanged_same _ _ _ .tb (by simp [boundaryBlocks, allGroups])

theorem State.boundaryTold_interval :
    (s.boundaryTold b rest).tb.trace.active.interval = (secondBoundary s).tb.trace.active.interval := by
  rw [secondBoundary_eq h, State.tickReaction_same _ b .tb (by decide), State.countBoundary_same _ .tb (by decide)]

/-- DU after a boundary. -/
theorem secondBoundary_du :
    (secondBoundary s).du = { s.du with
      bound := (secondBoundary s).du.bound
      trace := (secondBoundary s).du.trace
      boundaryCount :=
        if (secondBoundary s).tb.trace.active.interval ≤ s.du.boundaryCount + 1 then 0 else s.du.boundaryCount + 1
      stats := if (secondBoundary s).tb.trace.active.interval ≤ s.du.boundaryCount + 1 then {} else s.du.stats
      records := s.du.records ++
        if (secondBoundary s).du.trace = s.du.trace ∨ 32 ≤ s.du.records.length then []
        else [⟨.traceState s.du.trace (secondBoundary s).du.trace (secondBoundary s).du.bound b.dating, s.du.mode,
          (secondBoundary s).du.bound⟩] } := by
  have hdu : (secondBoundary s).du = (s.boundaryTold b rest).countBoundary.du := by
    rw [secondBoundary_eq h]
    exact State.tickReaction_same _ b .du (by decide)
  have hcount := (s.boundaryTold b rest).countBoundary_du
  rw [State.boundaryTold_interval h, State.boundaryTold_records, ← hdu] at hcount
  rw [secondBoundary_trace h, secondBoundary_bound h]
  refine hcount.trans ?_
  rw [State.traceRecord, State.boundaryTraced_du]
  by_cases hend : (secondBoundary s).tb.trace.active.interval ≤ s.du.boundaryCount + 1 <;> simp only [hend, if_true, if_false] <;> rfl

/-- TLU after a boundary. -/
theorem secondBoundary_tlu :
    (secondBoundary s).tlu =
      if (secondBoundary s).du.trace = s.du.trace ∨ s.tlu.state.attached = false then s.tlu
      else s.tlu.joined (.status ⟨(secondBoundary s).du.trace, (secondBoundary s).du.bound, s.du.mode,
        s.du.selection, s.epoch⟩) := by
  rw [secondBoundary_trace h, secondBoundary_bound h, ← State.boundaryTold_tlu, secondBoundary_eq h,
    State.tickReaction_same _ b .tlu (by decide)]
  exact State.countBoundary_same _ .tlu (by decide)

omit h in
theorem State.boundaryCounted_logged : s.Logged (s.boundaryTold b rest).countBoundary :=
  .countBoundary (.traceChanged (.setDu (.setTb (.setTb (.refl s) _) _) _) _ _)

/-- The EVIDENCE record of the interval that a boundary ends (R57). -/
def State.evidenceAt (s t : State) : EvidenceRecord where
  stats := s.du.stats
  mean := if s.du.stats.used = 0 then none else some (Int.tdiv s.du.stats.sumE s.du.stats.used)
  rate := s.du.rate
  bound := t.du.bound
  trace := t.du.trace
  mode := s.du.mode
  contested := s.du.contested
  selection := s.du.selection
  interval := t.tb.trace.active.interval
  theta := s.tlu.agreed

/-- What a boundary that leads to `t` says to AJ and CLU before its TICK notice. -/
def State.boundarySays (s t : State) (b : Boundary) : State :=
  let told := s.traceTold t.du.trace t.du.bound b.dating
  if t.tb.trace.active.interval ≤ s.du.boundaryCount + 1 then told.submit (.evidence s.dating (s.evidenceAt t)) else told

/-- AJ and the notices before the TICK notice. -/
theorem State.boundaryCounted_alike :
    (s.boundaryTold b rest).countBoundary.aj = (s.boundarySays (secondBoundary s) b).aj ∧
      (s.boundaryTold b rest).countBoundary.clu.SameNotices (s.boundarySays (secondBoundary s) b).clu := by
  obtain ⟨haj, hnotices⟩ := State.boundaryTold_alike (s := s) (b := b) (rest := rest)
  have htlu := State.boundaryTold_tlu (s := s) (b := b) (rest := rest)
  have hdu := State.boundaryTold_records (s := s) (b := b) (rest := rest)
  have hagreed : (s.boundaryTold b rest).tlu.agreed = s.tlu.agreed := by
    rw [htlu]
    split <;> rfl
  have hdating : (s.boundaryTold b rest).dating = s.dating :=
    (congrArg TimeBase.dating (State.traceChanged_same _ _ _ .tb (by simp [boundaryBlocks, allGroups]))).trans
      State.boundaryTraced_dating
  have hcount : (s.boundaryTold b rest).du.boundaryCount = s.du.boundaryCount := by
    rw [hdu, State.boundaryTraced_du]
  have hevidence : (s.boundaryTold b rest).evidence (s.boundaryTold b rest).tb.trace.active.interval =
      s.evidenceAt (secondBoundary s) := by
    unfold State.evidence State.evidenceAt
    rw [hagreed, State.boundaryTold_interval h, hdu, secondBoundary_trace h, secondBoundary_bound h,
      State.boundaryTraced_du]
    rfl
  rw [State.countBoundary_aj, State.countBoundary_clu]
  unfold State.evidenced State.boundarySays
  rw [hevidence, State.boundaryTold_interval h, hcount, hdating, secondBoundary_trace h, secondBoundary_bound h]
  have htold : (s.boundaryTold b rest).dating =
      (s.traceTold (s.boundaryTraced b rest).du.trace (s.boundaryTraced b rest).du.bound b.dating).dating :=
    hdating.trans (State.traceTold_dating ..).symm
  dsimp only
  split
  · exact ⟨State.submit_aj_congr haj _, State.submit_sameNotices haj htold hnotices _⟩
  · exact ⟨haj, hnotices⟩

end

/-- Settles O10: each part of the state behind a boundary by its lemma. -/
theorem secondBoundaryReactions : Obligations.SecondBoundaryReactions := by
  intro s b rest hrun hb
  have hsame := secondBoundary_same s
  have htb := secondBoundary_activates hb
  have hdu := secondBoundary_du hb
  have htlu := secondBoundary_tlu hb
  have hgs := secondBoundary_gs hb
  have hclu := congrArg State.clu (secondBoundary_eq hb)
  have haj : (secondBoundary s).aj = (s.boundaryTold b rest).countBoundary.aj :=
    (congrArg State.aj (secondBoundary_eq hb)).trans (State.tickReaction_same _ b .aj (by decide))
  obtain ⟨hsaid, hnotices⟩ := State.boundaryCounted_alike hb
  obtain ⟨hrequests, _, _, _, htick, _⟩ :=
    (State.boundaryCounted_logged (s := s) (b := b) (rest := rest)).noticed
  have hnoticeTail := State.tickReaction_notices (b := b) (s.boundaryTold b rest).countBoundary
  have hcounted : (s.boundaryTold b rest).countBoundary.du = (secondBoundary s).du :=
    (State.tickReaction_same _ b .du (by decide)).symm.trans (congrArg State.du (secondBoundary_eq hb)).symm
  rw [hcounted, htick] at hnoticeTail
  have hreaction := (State.tickReaction_tick (b := b) (s.boundaryTold b rest).countBoundary).trans (by rw [htick])
  have hkept := hrequests.trans (State.tickReaction_requests (b := b) (s.boundaryTold b rest).countBoundary)
  rw [← hclu] at hnoticeTail hreaction hkept
  refine ⟨_, live_of_running hrun _, hsame, htb.trans ?_, ?_, fun hless => ?_, fun hend => ?_, fun hstay => ?_,
    hkept.queue, hkept.replies, hreaction, ?_⟩
  · simp only [TimeBase.activate, Slot.activate_eq]
  · rw [hdu]
  · have hnot := Nat.not_le.mpr hless
    rw [hdu]
    exact ⟨if_neg hnot, if_neg hnot⟩
  · rw [hdu]
    exact ⟨if_pos hend, if_pos hend⟩
  · rw [hgs, State.boundaryTold_of_same ((secondBoundary_trace hb).symm.trans hstay)]
    exact State.gs_eq_of_same State.boundaryTraced_same (by simp) (by simp) (by simp)
  · intro same full told x evidence counted
    have htold : told = s.traceTold (secondBoundary s).du.trace (secondBoundary s).du.bound b.dating := rfl
    have hcount : counted = s.boundarySays (secondBoundary s) b := rfl
    refine ⟨congrArg Discipline.records hdu, htlu, ?_, ?_⟩
    · rw [haj, hsaid, hcount]
    · rw [hnoticeTail, hcount, hnotices.notices]
      split
      · rfl
      · exact (hnotices.notice _ _).notices

end Sys2Proof.Machine
end


section
/-! What the twin does at an applied step depends on TLU, the tick, the Time Base and DU's own status alone. -/

namespace Sys2Proof.Machine

/-- Two states in which the twin acts alike. -/
structure State.TwinAlike (s t : State) : Prop where
  tlu : t.tlu = s.tlu
  tick : t.tick = s.tick
  tb : t.tb = s.tb
  own : t.ownStatus = s.ownStatus

namespace State.TwinAlike

variable {s t u : State}

theorem refl (s : State) : s.TwinAlike s := ⟨rfl, rfl, rfl, rfl⟩

theorem trans (h : s.TwinAlike t) (k : t.TwinAlike u) : s.TwinAlike u :=
  ⟨k.tlu.trans h.tlu, k.tick.trans h.tick, k.tb.trans h.tb, k.own.trans h.own⟩

theorem symm (h : s.TwinAlike t) : t.TwinAlike s := ⟨h.tlu.symm, h.tick.symm, h.tb.symm, h.own.symm⟩

/-- What both states take without TLU. -/
theorem both {x y : State} (h : s.TwinAlike t) (hs : s.TwinAlike x) (ht : t.TwinAlike y) : x.TwinAlike y :=
  (hs.symm.trans h).trans ht

theorem ite {x y : State} {c : Prop} [Decidable c] (h : s.TwinAlike t) (k : x.TwinAlike y) :
    (if c then s else x).TwinAlike (if c then t else y) := by
  split <;> assumption

/-! Actions without TLU -/

theorem notice (s : State) (c : NoticeClass) (f : List Fld) : s.TwinAlike (s.notice c f) := ⟨rfl, rfl, rfl, rfl⟩

theorem twinNotice (s : State) (o : TwinState) (c : TwinCause) (e : Option Evaluation) :
    s.TwinAlike (s.twinNotice o c e) := notice s _ _

theorem twinChanged (s : State) (o : TwinState) (c : TwinCause) (e : Option Evaluation) :
    s.TwinAlike (s.twinChanged o c e) := by
  unfold State.twinChanged
  split
  · exact .refl s
  · exact notice s _ _

theorem clockRecord (s : State) (e : ClockEvent) : s.TwinAlike (s.clockRecord e) := by
  have hsame := s.clockRecord_same e
  refine ⟨hsame .tlu (by decide), hsame .tick (by decide), hsame .tb (by decide), ?_⟩
  have hepoch : (s.clockRecord e).epoch = s.epoch := hsame .epoch (by decide)
  unfold State.ownStatus
  rw [hepoch, State.clockRecord_du]

theorem setContested (s : State) (b : Bool) : s.TwinAlike { s with du := { s.du with contested := b } } :=
  ⟨rfl, rfl, rfl, rfl⟩

theorem contest (s : State) (x : Int) (l : Nat) : s.TwinAlike (s.contest x l) := by
  unfold State.contest
  split
  · exact .refl s
  · exact (setContested s true).trans (clockRecord _ _)

theorem uncontest (s : State) (c : ContestCause) (x : Option Int) : s.TwinAlike (s.uncontest c x) := by
  unfold State.uncontest
  split
  · exact (setContested s false).trans (clockRecord _ _)
  · exact .refl s

theorem reportAgreement (s : State) (x : Int) : s.TwinAlike (s.reportAgreement x) := by
  unfold State.reportAgreement
  split
  · exact uncontest s _ _
  · exact contest s _ _
  · exact .refl s

/-! Actions on TLU -/

theorem setTlu (h : s.TwinAlike t) {x y : TwinLink} (hxy : y = x) : (s.setTlu x).TwinAlike (t.setTlu y) :=
  ⟨hxy, h.tick, h.tb, h.own⟩

theorem formTwin (h : s.TwinAlike t) {f g : TwinFrame} (hfg : g = f) : (s.formTwin f).TwinAlike (t.formTwin g) :=
  h.setTlu (by rw [h.tlu, hfg])

theorem withdrawAnchor (h : s.TwinAlike t) : s.withdrawAnchor.TwinAlike t.withdrawAnchor := by
  unfold State.withdrawAnchor
  rw [h.tlu]
  split
  · exact ⟨rfl, h.tick, h.tb, h.own⟩
  · exact h

theorem offerAnchor (h : s.TwinAlike t) (x : Int) : (s.offerAnchor x).TwinAlike (t.offerAnchor x) := by
  have hstatus : t.offerStatus = s.offerStatus := by
    unfold State.offerStatus
    rw [h.tlu, h.tick]
  unfold State.offerAnchor
  rw [hstatus]
  split
  · refine ⟨?_, h.tick, h.tb, h.own⟩
    simp only [State.dating, h.tlu, h.tick, h.tb]
  · exact h.withdrawAnchor

theorem enterDetached (h : s.TwinAlike t) (f : TwinFault) : (s.enterDetached f).TwinAlike (t.enterDetached f) := by
  have hset := h.withdrawAnchor
  refine both (setTlu hset ?_) (twinChanged ..) (twinChanged ..)
  rw [hset.tlu, hset.tick]

theorem afterEvaluation (h : s.TwinAlike t) (o : TwinState) (m : Measured) :
    (s.afterEvaluation o m).TwinAlike (t.afterEvaluation o m) := by
  have hreport : (if s.tlu.state = o then s else s.reportAgreement m.theta).TwinAlike
      (if t.tlu.state = o then t else t.reportAgreement m.theta) := by
    rw [h.tlu]
    exact .ite h (h.both (reportAgreement s _) (reportAgreement t _))
  exact .offerAnchor (.formTwin hreport (congrArg TwinFrame.status hreport.own)) _

theorem evaluateMeasurement (h : s.TwinAlike t) : s.evaluateMeasurement.TwinAlike t.evaluateMeasurement := by
  unfold State.evaluateMeasurement
  dsimp only
  rw [h.tlu]
  split
  · next m _ =>
    have hset : (s.setTlu (s.tlu.evaluated m)).TwinAlike (t.setTlu (s.tlu.evaluated m)) := h.setTlu rfl
    have heval := hset.afterEvaluation s.tlu.state m
    refine .ite (both (heval.setTlu ?_) (twinChanged ..) (twinChanged ..)) (h.enterDetached _)
    rw [heval.tlu, heval.tick]
  · exact h.enterDetached _

theorem failCheck (h : s.TwinAlike t) : s.failCheck.TwinAlike t.failCheck := by
  unfold State.failCheck
  dsimp only
  rw [h.tlu]
  have hset : (s.setTlu { s.tlu with
        probes := []
        failures := 1
        counters := { s.tlu.counters with checksFailed := bump s.tlu.counters.checksFailed } }).TwinAlike
      (t.setTlu { s.tlu with
        probes := []
        failures := 1
        counters := { s.tlu.counters with checksFailed := bump s.tlu.counters.checksFailed } }) := h.setTlu rfl
  have hnotice := hset.both (twinNotice _ s.tlu.state .checkFailed none) (twinNotice _ s.tlu.state .checkFailed none)
  exact .ite (hnotice.formTwin (congrArg TwinFrame.status hnotice.own)) (hnotice.enterDetached _)

theorem evaluateCheck (h : s.TwinAlike t) : s.evaluateCheck.TwinAlike t.evaluateCheck := by
  unfold State.evaluateCheck
  dsimp only
  rw [h.tlu]
  split
  · next m _ =>
    have hset : (s.setTlu (s.tlu.evaluated m)).TwinAlike (t.setTlu (s.tlu.evaluated m)) := h.setTlu rfl
    exact .ite ((hset.afterEvaluation s.tlu.state m).both (twinChanged ..) (twinChanged ..)) h.failCheck
  · exact h.failCheck

theorem afterClose (h : s.TwinAlike t) : s.afterClose.TwinAlike t.afterClose := by
  unfold State.afterClose
  rw [h.tlu]
  split
  · cases s.tlu.state with
    | measuring => exact h.evaluateMeasurement
    | agreed | disagree => exact h.evaluateCheck
    | off | detached | offering => exact h
  · exact h

theorem closeProbe (h : s.TwinAlike t) (o : ProbeOutcome) : (s.closeProbe o).TwinAlike (t.closeProbe o) :=
  .afterClose (h.setTlu (by rw [h.tlu]))

theorem twinStepped (h : s.TwinAlike t) : s.twinStepped.TwinAlike t.twinStepped := by
  have hset : (s.setTlu s.tlu.withholdEchoes).TwinAlike (t.setTlu t.tlu.withholdEchoes) := h.setTlu (by rw [h.tlu])
  unfold State.twinStepped
  dsimp only
  rw [hset.tlu]
  exact .ite (hset.closeProbe _) hset

theorem stepTime (h : s.TwinAlike t) (amount : Int) : (s.stepTime amount).TwinAlike (t.stepTime amount) :=
  .twinStepped ⟨h.tlu, h.tick, congrArg (·.stepBy amount) h.tb, h.own⟩

end State.TwinAlike

end Sys2Proof.Machine
end


section
/-! The actions of DU on a used mark (R43 to R48, R51). -/

namespace Sys2Proof.Machine

theorem clampRate_of_bounds {r : Int} (hlo : -200000000 ≤ r) (hhi : r ≤ 200000000) : clampRate r = r := by
  unfold clampRate clampInt
  omega

theorem clampRate_clampRate (r : Int) : clampRate (clampRate r) = clampRate r := by
  obtain ⟨hlo, hhi⟩ := clampRate_bounds r
  exact clampRate_of_bounds hlo hhi

/-! ### CLOCK records formed while the list has room -/

/-- With room in DU's list for all of them, `t` is `s` with the CLOCK records `rs` formed, as far as the list and the
journal are concerned. -/
def State.Writes (s t : State) (rs : List ClockRecord) : Prop :=
  s.du.records.length + rs.length ≤ 32 → t.aj = s.aj ∧ t.du.records = s.du.records ++ rs

namespace State.Writes

variable {s t u : State} {rs qs : List ClockRecord}

theorem of_same (haj : t.aj = s.aj) (hrecords : t.du.records = s.du.records) : s.Writes t [] := fun _ =>
  ⟨haj, hrecords.trans (List.append_nil _).symm⟩

theorem refl (s : State) : s.Writes s [] := .of_same rfl rfl

theorem trans (h : s.Writes t rs) (k : t.Writes u qs) : s.Writes u (rs ++ qs) := by
  intro hroom
  rw [List.length_append] at hroom
  obtain ⟨haj, hrecords⟩ := h (by omega)
  obtain ⟨kaj, krecords⟩ := k (by rw [hrecords, List.length_append]; omega)
  exact ⟨kaj.trans haj, by rw [krecords, hrecords, List.append_assoc]⟩

theorem clockRecord (s : State) (e : ClockEvent) : s.Writes (s.clockRecord e) [s.du.form e] := by
  intro hroom
  have hless : s.du.records.length < 32 := hroom
  refine ⟨?_, by rw [State.clockRecord_du, if_pos hless]⟩
  rw [State.clockRecord, State.clockRecordAt_aj, State.clockLost, if_neg (Nat.not_le.mpr hless)]

/-- Actions on `s` before a record that keep its list and its journal. -/
theorem then_record (h : s.Writes t []) (e : ClockEvent) : s.Writes (t.clockRecord e) [t.du.form e] :=
  h.trans (clockRecord t e)

theorem after (h : s.Writes t rs) (haj : u.aj = t.aj) (hrecords : u.du.records = t.du.records) : s.Writes u rs := by
  have := h.trans (.of_same haj hrecords)
  rwa [List.append_nil] at this

end State.Writes

/-! ### The servo update (R45) -/

section
variable (s : State) (e : Int)

/-- I after a servo update. -/
def State.servoIntegral : Int := clampRate (s.du.integral + e * s.tb.servo.active.gi)

/-- R after a servo update. -/
def State.servoRate : Int := clampRate (-(e * s.tb.servo.active.gp + s.servoIntegral e))

theorem State.servo_du : (s.servo e).du = { s.du with integral := s.servoIntegral e, rate := s.servoRate e } := rfl

theorem State.servo_tb : (s.servo e).tb = s.tb.present (s.servoRate e) := rfl

end

/-! ### LOCKED, HOLDOVER and SLEWING -/

section
variable (s : State) (e : Int) (m : UsedMark)

/-- The ACQUIRED record of an entry to LOCKED (R44). -/
def acquiredRecords (old : Mode) (m : UsedMark) (bound : Option Nat) : List ClockRecord :=
  match old with
  | .unset | .holdover => [⟨.acquired old m.ref m.e m.u m.state, .locked, bound⟩]
  | .locked | .slewing => []

theorem State.enterLocked_du (old : Mode) :
    (s.enterLocked old m).du = { s.du with mode := .locked, records := (s.enterLocked old m).du.records } := by
  unfold State.enterLocked
  cases old with
  | unset | holdover => exact State.clockRecord_logsTo _ _
  | locked | slewing => rfl

theorem State.enterLocked_keeps (old : Mode) : s.SameBut (s.enterLocked old m) [.du, .aj, .clu] := by
  unfold State.enterLocked
  cases old with
  | unset | holdover => exact ((s.setDu_same _).mono (by decide)).trans (State.clockRecord_same _ _)
  | locked | slewing => exact (s.setDu_same _).mono (by decide)

theorem State.enterLocked_writes (old : Mode) :
    s.Writes (s.enterLocked old m) (acquiredRecords old m s.du.bound) := by
  unfold State.enterLocked
  cases old with
  | unset | holdover =>
    exact State.Writes.then_record (t := s.setDu { s.du with mode := .locked }) (.of_same rfl rfl) _
  | locked | slewing => exact .of_same rfl rfl

/-! ### A step applied -/

/-- Raw time after a step of −e. -/
def State.stepRaw : Nat := stepTarget s.tb.raw (-e)

/-- The state with a step of −e applied and its STEP record formed. -/
def State.stepRecorded : State := (s.stepTime (-e)).clockRecord (.step s.tb.raw (s.stepRaw e) e)

theorem State.stepTime_tb : (s.stepTime e).tb = s.tb.stepBy e := State.twinStepped_same _ .tb (by decide)

theorem State.stepRecorded_tb : (s.stepRecorded e).tb = s.tb.stepBy (-e) :=
  (State.clockRecord_same _ _ .tb (by decide)).trans (s.stepTime_tb _)

theorem State.stepRecorded_tlu : (s.stepRecorded e).tlu = (s.stepTime (-e)).tlu :=
  State.clockRecord_same _ _ .tlu (by decide)

theorem State.stepRecorded_twinned : s.Twinned (s.stepRecorded e) := .clockRecord (.stepTime (.refl s) _) _

theorem State.stepTime_writes (h : s.tlu.outstanding = none) : s.Writes (s.stepTime (-e)) [] := by
  rw [State.stepTime_of_no_probe h]
  exact .of_same rfl rfl

theorem State.stepTime_form (x : ClockEvent) : (s.stepTime e).du.form x = s.du.form x := by
  have htwin : s.Twinned (s.stepTime e) := .stepTime (.refl s) e
  unfold Discipline.form
  rw [htwin.mode, htwin.bound]

theorem State.stepRecorded_writes (h : s.tlu.outstanding = none) :
    s.Writes (s.stepRecorded e) [s.du.form (.step s.tb.raw (s.stepRaw e) e)] := by
  rw [← s.stepTime_form (-e)]
  exact .then_record (s.stepTime_writes e h) _

theorem State.stepRecorded_pending (r : Ref) : ((s.stepRecorded e).mon r) = s.mon r :=
  (State.clockRecord_same _ _ (.mon r) (by simp)).trans (s.stepTime_same _ (.mon r) (by simp [disciplineBlocks]))

theorem State.markStale_du :
    s.markStale.du = { s.du with
      staleA := s.du.staleA || (s.mon .a).pendingMark.isSome
      staleB := s.du.staleB || (s.mon .b).pendingMark.isSome } := rfl

/-- DU after a step of −e with its record and the stale flags: but for what the twin changes, its flags alone. -/
theorem State.stepStale_du :
    (s.stepRecorded e).markStale.du = { (s.stepRecorded e).du with
      staleA := s.du.staleA || (s.mon .a).pendingMark.isSome
      staleB := s.du.staleB || (s.mon .b).pendingMark.isSome } := by
  have htwin := s.stepRecorded_twinned e
  rw [State.markStale_du, State.stepRecorded_pending, State.stepRecorded_pending, htwin.staleA, htwin.staleB]

/-- R46: the step, its record, the stale flags and LOCKED. -/
def State.stepLocked : State := (s.stepRecorded e).markStale.enterLocked s.du.mode m

theorem State.stepAndLock_of_applied (h : 0 < m.e → s.anyPortOpen = false) (orElse : State) :
    s.stepAndLock m orElse = ⟨s.stepLocked m.e m, true⟩ := by
  have hask : s.askStep (-m.e) = .applied s.tb.raw (s.stepRaw m.e) := by
    unfold State.askStep stepAnswer
    refine if_neg fun hback => ?_
    rw [h (by omega)] at hback
    exact absurd hback.2 (by decide)
  unfold State.stepAndLock
  rw [hask]
  rfl

/-! ### What a step leaves -/

/-- What every action with an applied step of −e leaves (R7, R9, R43, R46, R48). -/
structure State.Stepped (s t : State) (e : Int) : Prop where
  raw : t.tb.raw = s.stepRaw e
  hwm : t.tb.hwm = if 0 < e then s.dating else s.tb.hwm
  mode : t.du.mode = .locked
  integral : t.du.integral = s.du.integral
  tlu : t.tlu = (s.stepTime (-e)).tlu
  staleA : t.du.staleA = (s.du.staleA || s.monA.pendingMark.isSome)
  staleB : t.du.staleB = (s.du.staleB || s.monB.pendingMark.isSome)

theorem TimeBase.stepBy_raw (x : TimeBase) (a : Int) : (x.stepBy a).raw = stepTarget x.raw a := by
  rw [TimeBase.stepBy_eq]

theorem TimeBase.stepBy_hwm (x : TimeBase) (a : Int) : (x.stepBy a).hwm = if a < 0 then x.dating else x.hwm := by
  rw [TimeBase.stepBy_eq]

theorem TimeBase.stepBy_rate (x : TimeBase) (a : Int) : (x.stepBy a).rate = x.rate := by
  rw [TimeBase.stepBy_eq]

theorem TimeBase.stepBy_inc (x : TimeBase) (a : Int) : (x.stepBy a).inc = x.inc := by
  rw [TimeBase.stepBy_eq]

theorem TimeBase.stepBack_hwm (x : TimeBase) : (x.stepBy (-e)).hwm = if 0 < e then x.dating else x.hwm := by
  rw [TimeBase.stepBy_hwm]
  exact if_congr (by omega) rfl rfl

theorem State.stepLocked_tb : (s.stepLocked e m).tb = s.tb.stepBy (-e) :=
  (State.enterLocked_keeps _ m _ .tb (by decide)).trans (s.stepRecorded_tb e)

/-- DU after R46, but for its records and what the twin changes. -/
theorem State.stepLocked_du :
    (s.stepLocked e m).du = { s.du with
      mode := .locked
      contested := (s.stepLocked e m).du.contested
      assisted := (s.stepLocked e m).du.assisted
      staleA := s.du.staleA || s.monA.pendingMark.isSome
      staleB := s.du.staleB || s.monB.pendingMark.isSome
      records := (s.stepLocked e m).du.records } := by
  have htwin : s.Twinned (s.stepRecorded e) := s.stepRecorded_twinned e
  have hdu := State.enterLocked_du (s.stepRecorded e).markStale m s.du.mode
  rw [State.stepStale_du, htwin] at hdu
  rw [State.stepLocked, hdu]
  rfl

theorem State.stepLocked_stepped : s.Stepped (s.stepLocked e m) e where
  raw := by rw [s.stepLocked_tb, TimeBase.stepBy_raw]; rfl
  hwm := by rw [s.stepLocked_tb, TimeBase.stepBack_hwm]; rfl
  mode := by rw [s.stepLocked_du]
  integral := by rw [s.stepLocked_du]
  tlu := (State.enterLocked_keeps _ m _ .tlu (by decide)).trans (s.stepRecorded_tlu e)
  staleA := by rw [s.stepLocked_du]
  staleB := by rw [s.stepLocked_du]

theorem State.stepLocked_writes (h : s.tlu.outstanding = none) :
    s.Writes (s.stepLocked e m)
      (s.du.form (.step s.tb.raw (s.stepRaw e) e) :: acquiredRecords s.du.mode m s.du.bound) := by
  have hmark : s.Writes (s.stepRecorded e).markStale [s.du.form (.step s.tb.raw (s.stepRaw e) e)] :=
    (s.stepRecorded_writes e h).after rfl rfl
  have hbound : (s.stepRecorded e).markStale.du.bound = s.du.bound := by
    rw [s.stepStale_du]
    exact (s.stepRecorded_twinned e).bound
  exact hbound ▸ hmark.trans (State.enterLocked_writes _ m s.du.mode)

/-! ### The slew (R47, R48) -/

theorem State.enterSlewing_du :
    (s.enterSlewing e).du = { s.du with
      mode := .slewing, rate := -200000000, lastSlew := some e, records := (s.enterSlewing e).du.records } :=
  State.clockRecord_logsTo _ _

theorem State.enterSlewing_tb : (s.enterSlewing e).tb = s.tb.present (-200000000) :=
  State.clockRecord_same _ _ .tb (by decide)

theorem State.enterSlewing_tlu : (s.enterSlewing e).tlu = s.tlu := State.clockRecord_same _ _ .tlu (by decide)

theorem State.enterSlewing_writes :
    s.Writes (s.enterSlewing e) [⟨.slewStart e s.du.mode s.du.integral, .slewing, s.du.bound⟩] :=
  State.Writes.then_record
    (t := State.presentRate (s.setDu { s.du with mode := .slewing, rate := -200000000, lastSlew := some e }) _)
    (.of_same rfl rfl) _

/-- R48: the slew ended by a servo update. -/
def State.slewReached : State := ((s.clockRecord (.slewEnd .reached e)).servo e).enterLocked .slewing m

/-- R48: the slew ended by a step of −e. -/
def State.slewStepped : State := s.endSlewByStep e s.tb.raw (s.stepRaw e)

theorem State.slewOn_eq :
    s.slewOn m =
      if (m.e.natAbs : Int) ≤ s.tb.servo.active.threshold then ⟨s.slewReached m.e m, false⟩
      else if 0 < m.e ∧ s.anyPortOpen = true then ⟨s, false⟩
      else ⟨s.slewStepped m.e, true⟩ := by
  have hask (h : 0 < m.e → s.anyPortOpen = false) : s.askStep (-m.e) = .applied s.tb.raw (s.stepRaw m.e) := by
    unfold State.askStep stepAnswer
    refine if_neg fun hback => ?_
    rw [h (by omega)] at hback
    exact absurd hback.2 (by decide)
  unfold State.slewOn
  by_cases hth : (m.e.natAbs : Int) ≤ s.tb.servo.active.threshold
  · rw [if_pos hth, if_pos hth]
    rfl
  rw [if_neg hth, if_neg hth]
  by_cases hahead : 0 < m.e ∧ s.anyPortOpen = true
  · rw [if_pos hahead, if_pos hahead.1, if_pos hahead.2]
  rw [if_neg hahead, hask (by simpa using hahead)]
  by_cases hpos : 0 < m.e
  · rw [if_pos hpos, if_neg (by simpa [hpos] using hahead)]
    rfl
  · rw [if_neg hpos]
    rfl

/-- The state with the end of a slew recorded. -/
def State.slewEnded (why : SlewEndCause) : State := s.clockRecord (.slewEnd why e)

variable {s e} in
theorem State.slewEnded_same {why : SlewEndCause} : s.SameBut (s.slewEnded e why) [.du, .aj, .clu] := s.clockRecord_same _

variable {s e} in
theorem State.slewEnded_tb {why : SlewEndCause} : (s.slewEnded e why).tb = s.tb := State.slewEnded_same .tb (by decide)

variable {s e} in
theorem State.slewEnded_twinned {why : SlewEndCause} : s.Twinned (s.slewEnded e why) := .clockRecord (.refl s) _

theorem State.slewReached_du :
    (s.slewReached e m).du = { s.du with
      mode := .locked
      integral := s.servoIntegral e
      rate := s.servoRate e
      records := (s.slewReached e m).du.records } := by
  have hdu : (s.slewEnded e .reached).du = { s.du with records := (s.slewEnded e .reached).du.records } :=
    State.clockRecord_logsTo _ _
  have hintegral : (s.slewEnded e .reached).servoIntegral e = s.servoIntegral e := by
    unfold State.servoIntegral
    rw [hdu, State.slewEnded_tb]
  have hrate : (s.slewEnded e .reached).servoRate e = s.servoRate e := by
    unfold State.servoRate
    rw [hintegral, State.slewEnded_tb]
  have hservo := (s.slewEnded e .reached).servo_du e
  rw [hintegral, hrate, hdu] at hservo
  have hlocked := ((s.slewEnded e .reached).servo e).enterLocked_du m .slewing
  rw [hservo] at hlocked
  exact hlocked

theorem State.slewReached_tb : (s.slewReached e m).tb = s.tb.present (s.servoRate e) := by
  have hrate : (s.slewReached e m).du.rate = s.servoRate e := by rw [s.slewReached_du]
  rw [← hrate, ← State.slewEnded_tb (s := s) (e := e) (why := .reached)]
  rfl

theorem State.slewReached_tlu : (s.slewReached e m).tlu = s.tlu :=
  State.slewEnded_same (s := s) (e := e) (why := .reached) .tlu (by decide)

theorem State.slewReached_writes : s.Writes (s.slewReached e m) [s.du.form (.slewEnd .reached e)] :=
  (State.Writes.clockRecord s (.slewEnd .reached e)).after rfl rfl

/-- The state in which a step has ended the slew, before LOCKED. -/
def State.slewMoved : State := ((s.slewEnded e .step).stepRecorded e).markStale

theorem State.slewMoved_twinned : s.Twinned ((s.slewEnded e .step).stepRecorded e) :=
  (State.slewEnded_twinned (s := s)).trans (State.stepRecorded_twinned _ e)

/-- R48: R and LOCKED behind a step. -/
def State.slewLocked (r : Int) : State := (s.setDu { s.du with rate := r, mode := .locked }).presentRate r

theorem State.slewLocked_tb (r : Int) : (s.slewLocked r).tb = s.tb.present r := rfl
theorem State.slewLocked_du (r : Int) : (s.slewLocked r).du = { s.du with rate := r, mode := .locked } := rfl
theorem State.slewLocked_tlu (r : Int) : (s.slewLocked r).tlu = s.tlu := rfl
theorem State.slewLocked_aj (r : Int) : (s.slewLocked r).aj = s.aj := rfl

theorem State.slewStepped_eq :
    s.slewStepped e = (s.slewMoved e).slewLocked (clampRate (-s.du.integral)) := by
  have hraw : (s.slewEnded e .step).stepRaw e = s.stepRaw e := by
    unfold State.stepRaw
    rw [State.slewEnded_tb]
  have hmoved : s.slewMoved e = State.markStale (((s.clockRecord (.slewEnd .step e)).stepTime (-e)).clockRecord
      (.step s.tb.raw (s.stepRaw e) e)) := by
    unfold State.slewMoved State.stepRecorded
    rw [hraw, State.slewEnded_tb]
    rfl
  rw [hmoved, ← (s.slewMoved_twinned e).integral]
  unfold State.stepRecorded
  rw [hraw, State.slewEnded_tb]
  rfl

theorem State.slewMoved_du :
    (s.slewMoved e).du = { s.du with
      contested := (s.slewMoved e).du.contested
      assisted := (s.slewMoved e).du.assisted
      staleA := s.du.staleA || s.monA.pendingMark.isSome
      staleB := s.du.staleB || s.monB.pendingMark.isSome
      records := (s.slewMoved e).du.records } := by
  have hmon (r : Ref) : (s.slewEnded e .step).mon r = s.mon r := State.slewEnded_same (.mon r) (by simp)
  have hended := State.slewEnded_twinned (s := s) (e := e) (why := .step)
  have hdu := (s.slewEnded e .step).stepStale_du e
  rw [hmon, hmon, hended.staleA, hended.staleB, s.slewMoved_twinned e] at hdu
  rw [State.slewMoved, hdu]
  rfl

theorem State.slewMoved_tb : (s.slewMoved e).tb = s.tb.stepBy (-e) := by
  rw [← State.slewEnded_tb (s := s) (e := e) (why := .step)]
  exact State.stepRecorded_tb _ e

/-- The twin acts at this step as at one from the state before the slew's end was recorded. -/
theorem State.slewMoved_tlu : (s.slewMoved e).tlu = (s.stepTime (-e)).tlu := by
  have halike : (s.stepTime (-e)).TwinAlike ((s.slewEnded e .step).stepTime (-e)) := (State.TwinAlike.clockRecord s _).stepTime _
  exact (State.stepRecorded_tlu _ e).trans halike.tlu

theorem State.slewStepped_tb : (s.slewStepped e).tb = (s.tb.stepBy (-e)).present (clampRate (-s.du.integral)) := by
  rw [s.slewStepped_eq, State.slewLocked_tb, s.slewMoved_tb]

/-- DU after the end of a slew by a step, but for its records and what the twin changes. -/
theorem State.slewStepped_du :
    (s.slewStepped e).du = { s.du with
      mode := .locked
      rate := clampRate (-s.du.integral)
      contested := (s.slewStepped e).du.contested
      assisted := (s.slewStepped e).du.assisted
      staleA := s.du.staleA || s.monA.pendingMark.isSome
      staleB := s.du.staleB || s.monB.pendingMark.isSome
      records := (s.slewStepped e).du.records } := by
  rw [s.slewStepped_eq, State.slewLocked_du]
  have hdu := s.slewMoved_du e
  generalize (s.slewMoved e).du = x at hdu ⊢
  rw [hdu]

theorem State.slewStepped_stepped : s.Stepped (s.slewStepped e) e where
  raw := by rw [s.slewStepped_tb]; exact TimeBase.stepBy_raw _ _
  hwm := by rw [s.slewStepped_tb]; exact TimeBase.stepBack_hwm _ _
  mode := by rw [s.slewStepped_du]
  integral := by rw [s.slewStepped_du]
  tlu := by
    rw [s.slewStepped_eq, State.slewLocked_tlu]
    exact s.slewMoved_tlu e
  staleA := by rw [s.slewStepped_du]
  staleB := by rw [s.slewStepped_du]

theorem State.slewStepped_writes (h : s.tlu.outstanding = none) :
    s.Writes (s.slewStepped e) [s.du.form (.slewEnd .step e), s.du.form (.step s.tb.raw (s.stepRaw e) e)] := by
  have hnone : (s.slewEnded e .step).tlu.outstanding = none :=
    (congrArg TwinLink.outstanding (State.slewEnded_same .tlu (by decide))).trans h
  have hrecord := (State.slewEnded s e .step).stepRecorded_writes e hnone
  have hform (x : ClockEvent) : (s.slewEnded e .step).du.form x = s.du.form x := by
    unfold Discipline.form
    rw [State.slewEnded_twinned.mode, State.slewEnded_twinned.bound]
  have hraw : (s.slewEnded e .step).stepRaw e = s.stepRaw e := by
    unfold State.stepRaw
    rw [State.slewEnded_tb]
  rw [hform, hraw, State.slewEnded_tb] at hrecord
  have hall := (State.Writes.clockRecord s (.slewEnd .step e)).trans hrecord
  rw [s.slewStepped_eq]
  exact (hall.after (u := s.slewMoved e) rfl rfl).after (State.slewLocked_aj ..) rfl

end

end Sys2Proof.Machine
end


section
/-! Table 3-3: what DU does with a used mark in each mode. -/

namespace Sys2Proof.Machine

section
variable (s : State) (m : UsedMark)

/-- The mark is ahead and a port is open for the clock: TB refuses the step back (R7, R9). -/
def State.refusesStep : Prop := 0 < m.e ∧ s.anyPortOpen = true

theorem State.stepAndLock_of_refused {s : State} {m : UsedMark} (h : s.refusesStep m) (orElse : State) :
    s.stepAndLock m orElse = ⟨orElse, false⟩ := by
  have hask : s.askStep (-m.e) = .refused := if_pos ⟨by have := h.1; omega, h.2⟩
  unfold State.stepAndLock
  rw [hask]

theorem State.not_refusesStep {s : State} {m : UsedMark} (h : ¬ s.refusesStep m) : 0 < m.e → s.anyPortOpen = false := by
  intro hpos
  simpa using fun hopen => h ⟨hpos, hopen⟩

/-- R45 in LOCKED and HOLDOVER. -/
def State.servoLocked : State := (s.servo m.e).enterLocked s.du.mode m

/-- The state in which a mark of a slew is acted on. -/
def State.slewNoted : State := s.setDu { s.du with lastSlew := some m.e }

section
variable {s m}

theorem State.actOnMark_of_unset (h : s.du.mode = .unset) (hstep : ¬ s.refusesStep m) :
    s.actOnMark m = ⟨s.stepLocked m.e m, true⟩ := by
  unfold State.actOnMark
  rw [h]
  exact s.stepAndLock_of_applied m (State.not_refusesStep hstep) s

theorem State.actOnMark_of_unset_refused (h : s.du.mode = .unset) (hstep : s.refusesStep m) :
    s.actOnMark m = ⟨s, false⟩ := by
  unfold State.actOnMark
  rw [h]
  exact State.stepAndLock_of_refused hstep s

theorem State.actOnMark_of_disciplined (h : s.du.mode = .locked ∨ s.du.mode = .holdover) :
    s.actOnMark m =
      if (m.e.natAbs : Int) ≤ s.tb.servo.active.threshold then ⟨s.servoLocked m, false⟩
      else if m.e < 0 then s.stepAndLock m s
      else s.backOrSlew m := by
  unfold State.actOnMark
  rcases h with h | h <;> rw [h] <;> unfold State.servoLocked <;> rw [h]

theorem State.actOnMark_servo (h : s.du.mode = .locked ∨ s.du.mode = .holdover)
    (hth : (m.e.natAbs : Int) ≤ s.tb.servo.active.threshold) : s.actOnMark m = ⟨s.servoLocked m, false⟩ := by
  rw [State.actOnMark_of_disciplined h, if_pos hth]

theorem State.actOnMark_step (h : s.du.mode = .locked ∨ s.du.mode = .holdover)
    (hth : ¬ (m.e.natAbs : Int) ≤ s.tb.servo.active.threshold) (hstep : ¬ s.refusesStep m) :
    s.actOnMark m = ⟨s.stepLocked m.e m, true⟩ := by
  have happlied := s.stepAndLock_of_applied m (State.not_refusesStep hstep)
  rw [State.actOnMark_of_disciplined h, if_neg hth]
  by_cases hneg : m.e < 0
  · rw [if_pos hneg, happlied]
  · have hclosed := State.not_refusesStep hstep (by omega)
    rw [if_neg hneg, State.backOrSlew, hclosed, happlied]
    rfl

theorem State.actOnMark_slew (h : s.du.mode = .locked ∨ s.du.mode = .holdover)
    (hth : ¬ (m.e.natAbs : Int) ≤ s.tb.servo.active.threshold) (hstep : s.refusesStep m) :
    s.actOnMark m = ⟨s.enterSlewing m.e, false⟩ := by
  rw [State.actOnMark_of_disciplined h, if_neg hth, if_neg (by have := hstep.1; omega), State.backOrSlew, if_pos hstep.2]

theorem State.actOnMark_of_slewing (h : s.du.mode = .slewing) :
    s.actOnMark m =
      if (m.e.natAbs : Int) ≤ s.tb.servo.active.threshold then ⟨(s.slewNoted m).slewReached m.e m, false⟩
      else if 0 < m.e ∧ s.anyPortOpen = true then ⟨s.slewNoted m, false⟩
      else ⟨(s.slewNoted m).slewStepped m.e, true⟩ := by
  unfold State.actOnMark
  rw [h]
  exact (s.slewNoted m).slewOn_eq m

end

theorem State.servoLocked_du :
    (s.servoLocked m).du = { s.du with
      mode := .locked
      integral := s.servoIntegral m.e
      rate := s.servoRate m.e
      records := (s.servoLocked m).du.records } :=
  State.enterLocked_du (s.servo m.e) m s.du.mode

theorem State.servoLocked_tb : (s.servoLocked m).tb = s.tb.present (s.servoRate m.e) :=
  State.enterLocked_keeps _ m _ .tb (by decide)

theorem State.servoLocked_tlu : (s.servoLocked m).tlu = s.tlu := State.enterLocked_keeps _ m _ .tlu (by decide)

theorem State.servoLocked_writes : s.Writes (s.servoLocked m) (acquiredRecords s.du.mode m s.du.bound) :=
  (State.Writes.of_same (t := s.servo m.e) rfl rfl).trans (State.enterLocked_writes (s.servo m.e) m s.du.mode)

/-- The seven outcomes of Table 3-3. -/
theorem State.actOnMark_cases {P : Action → Prop}
    (refused : s.du.mode = .unset → s.refusesStep m → P ⟨s, false⟩)
    (servo : s.du.mode = .locked ∨ s.du.mode = .holdover → P ⟨s.servoLocked m, false⟩)
    (step : s.du.mode ≠ .slewing → P ⟨s.stepLocked m.e m, true⟩)
    (slew : s.du.mode = .locked ∨ s.du.mode = .holdover → s.refusesStep m → P ⟨s.enterSlewing m.e, false⟩)
    (reached : s.du.mode = .slewing → P ⟨(s.slewNoted m).slewReached m.e m, false⟩)
    (noted : s.du.mode = .slewing → P ⟨s.slewNoted m, false⟩)
    (stepped : s.du.mode = .slewing → P ⟨(s.slewNoted m).slewStepped m.e, true⟩) : P (s.actOnMark m) := by
  have hdisciplined (h : s.du.mode = .locked ∨ s.du.mode = .holdover) : P (s.actOnMark m) := by
    by_cases hth : (m.e.natAbs : Int) ≤ s.tb.servo.active.threshold
    · rw [State.actOnMark_servo h hth]
      exact servo h
    by_cases hstep : s.refusesStep m
    · rw [State.actOnMark_slew h hth hstep]
      exact slew h hstep
    · rw [State.actOnMark_step h hth hstep]
      exact step (by rcases h with h | h <;> rw [h] <;> decide)
  cases hm : s.du.mode with
  | unset =>
    by_cases hstep : s.refusesStep m
    · rw [State.actOnMark_of_unset_refused hm hstep]
      exact refused hm hstep
    · rw [State.actOnMark_of_unset hm hstep]
      exact step (by rw [hm]; decide)
  | locked => exact hdisciplined (.inl hm)
  | holdover => exact hdisciplined (.inr hm)
  | slewing =>
    rw [State.actOnMark_of_slewing hm]
    split_ifs
    · exact reached hm
    · exact noted hm
    · exact stepped hm

/-- An action leaves the selection and the anchor. -/
theorem State.actOnMark_keeps :
    (s.actOnMark m).state.du.selection = s.du.selection ∧ (s.actOnMark m).state.du.anchor = s.du.anchor := by
  refine s.actOnMark_cases m (P := fun a => a.state.du.selection = s.du.selection ∧ a.state.du.anchor = s.du.anchor)
    ?_ ?_ ?_ ?_ ?_ ?_ ?_
  · exact fun _ _ => ⟨rfl, rfl⟩
  · intro _
    rw [s.servoLocked_du]
    exact ⟨rfl, rfl⟩
  · intro _
    rw [s.stepLocked_du]
    exact ⟨rfl, rfl⟩
  · intro _ _
    rw [s.enterSlewing_du]
    exact ⟨rfl, rfl⟩
  · intro _
    rw [(s.slewNoted m).slewReached_du]
    exact ⟨rfl, rfl⟩
  · exact fun _ => ⟨rfl, rfl⟩
  · intro _
    rw [(s.slewNoted m).slewStepped_du]
    exact ⟨rfl, rfl⟩

/-- What a slew stepped leaves, as seen from before the mark was noted. -/
theorem State.Stepped.of_slewNoted {t : State} {e : Int} (h : (s.slewNoted m).Stepped t e) : s.Stepped t e := by
  have halike : s.TwinAlike (s.slewNoted m) := ⟨rfl, rfl, rfl, rfl⟩
  exact ⟨h.raw, h.hwm, h.mode, h.integral, h.tlu.trans (halike.stepTime (-e)).tlu, h.staleA, h.staleB⟩

theorem acquiredRecords_eq {old : Mode} (h : old ≠ .slewing) (bound : Option Nat) :
    acquiredRecords old m bound =
      (if old = .locked then [] else [(ClockEvent.acquired old m.ref m.e m.u m.state, Mode.locked)]).map
        fun x => ⟨x.1, x.2, bound⟩ := by
  cases old with
  | slewing => exact absurd rfl h
  | _ => rfl

end

/-- Settles O22: each mode's outcome by its lemma. -/
theorem theActionOnAUsedMark : Obligations.TheActionOnAUsedMark := by
  intro s m a th target steps keepsRate servo noProbe writes step acquired
  have hsteps {t : State} (h : a = ⟨t, true⟩) (ht : s.Stepped t m.e) : steps := by
    show a.stepped = true ∧ _
    rw [h]
    exact ⟨rfl, ht.raw, ht.hwm, ht.mode, ht.integral, ht.tlu, ht.staleA, ht.staleB⟩
  have hservoed {t : State} (h : a = ⟨t, false⟩) (htb : t.tb = s.tb.present (s.servoRate m.e)) (htlu : t.tlu = s.tlu)
      (hdu : t.du.mode = .locked ∧ t.du.integral = s.servoIntegral m.e ∧ t.du.rate = s.servoRate m.e) : servo := by
    show a.stepped = false ∧ _
    rw [h]
    obtain ⟨hmode, hintegral, hrate⟩ := hdu
    have hraw : t.tb.raw = s.tb.raw := by rw [htb]; rfl
    have hhwm : t.tb.hwm = s.tb.hwm := by rw [htb]; rfl
    have htaken : t.tb.rate = t.du.rate := by
      rw [htb, hrate]
      exact clampRate_clampRate _
    exact ⟨rfl, hraw, hhwm, hmode, hintegral, hrate, htaken, htlu⟩
  have hwrites {t : State} {b : Bool} {es : List (ClockEvent × Mode)} (h : a = ⟨t, b⟩)
      (ht : s.Writes t (es.map fun x => ⟨x.1, x.2, s.du.bound⟩)) : writes es := by
    simp only [writes, h]
    intro hroom
    exact ht (by rwa [List.length_map])
  have houtstanding (h : noProbe) : s.tlu.outstanding = none := TwinLink.outstanding_eq_none_iff.mpr h
  have hlocked (h : a = ⟨s.stepLocked m.e m, true⟩) (hm : s.du.mode ≠ .slewing) :
      steps ∧ keepsRate ∧ (noProbe → writes ((step, s.du.mode) :: acquired)) := by
    refine ⟨hsteps h (s.stepLocked_stepped m.e m), ?_, fun hprobe => hwrites h ?_⟩
    · simp only [keepsRate, h, s.stepLocked_tb, TimeBase.stepBy_rate, TimeBase.stepBy_inc, and_self, and_true]
      rw [s.stepLocked_du]
    · have := s.stepLocked_writes m.e m (houtstanding hprobe)
      rwa [acquiredRecords_eq m hm] at this
  have hkeeps := s.actOnMark_keeps m
  refine ⟨s.actOnMark_same m, hkeeps.1, hkeeps.2, fun hm hopen => ?_, fun hm => ⟨fun hth => ?_, fun hfar => ?_, fun hfar hopen => ?_⟩,
    fun hm => ?_⟩
  · have hstep : ¬ s.refusesStep m := fun h => hopen.elim (fun hc => absurd (hc.symm.trans h.2) (by decide))
      fun hle => absurd h.1 (by omega)
    have := hlocked (State.actOnMark_of_unset hm hstep) (by rw [hm]; decide)
    rwa [hm] at this
  · have ha : a = ⟨s.servoLocked m, false⟩ := State.actOnMark_servo hm hth
    refine ⟨hservoed ha (s.servoLocked_tb m) (s.servoLocked_tlu m) ?_, hwrites ha ?_⟩
    · rw [s.servoLocked_du]
      exact ⟨rfl, rfl, rfl⟩
    · have := s.servoLocked_writes m
      rwa [acquiredRecords_eq m (by rcases hm with hm | hm <;> rw [hm] <;> decide)] at this
  · have hth : ¬ (m.e.natAbs : Int) ≤ s.tb.servo.active.threshold := by
      have hnonneg : (0 : Int) ≤ th := Int.natCast_nonneg _
      change m.e < -th ∨ th < m.e ∧ _ at hfar
      change ¬ (m.e.natAbs : Int) ≤ th
      omega
    have hstep : ¬ s.refusesStep m := fun h => hfar.elim (fun hlt => by
      have hnonneg : (0 : Int) ≤ th := Int.natCast_nonneg _
      have := h.1
      omega) fun hc => absurd (hc.2.symm.trans h.2) (by decide)
    exact hlocked (State.actOnMark_step hm hth hstep) (by rcases hm with hm | hm <;> rw [hm] <;> decide)
  · have hnonneg : (0 : Int) ≤ th := Int.natCast_nonneg _
    have hth : ¬ (m.e.natAbs : Int) ≤ th := by omega
    have ha : a = ⟨s.enterSlewing m.e, false⟩ := State.actOnMark_slew hm hth ⟨by omega, hopen⟩
    refine ⟨congrArg Action.stepped ha, ?_, ?_, ?_, ?_, ?_, ?_, ?_, ?_, hwrites ha (s.enterSlewing_writes m.e)⟩
    all_goals rw [ha]
    · rw [s.enterSlewing_tb]
      rfl
    · rw [s.enterSlewing_tb]
      rfl
    · rw [s.enterSlewing_du]
    · rw [s.enterSlewing_du]
    · rw [s.enterSlewing_du]
    · rw [s.enterSlewing_tb]
      exact clampRate_of_bounds (by decide) (by decide)
    · rw [s.enterSlewing_du]
    · exact s.enterSlewing_tlu m.e
  · have hslew := State.actOnMark_of_slewing (m := m) hm
    have hnonneg : (0 : Int) ≤ th := Int.natCast_nonneg _
    have hform (x : ClockEvent) : (s.slewNoted m).du.form x = ⟨x, .slewing, s.du.bound⟩ := by
      rw [← hm]
      rfl
    have hwritten {t : State} {rs : List ClockRecord} (h : (s.slewNoted m).Writes t rs) : s.Writes t rs :=
      (State.Writes.of_same (s := s) (t := s.slewNoted m) rfl rfl).trans h
    refine ⟨?_, fun hth => ?_, fun hfar hopen => ?_, fun hfar => ?_⟩
    · show (s.actOnMark m).state.du.lastSlew = _
      rw [hslew]
      split_ifs
      · rw [(s.slewNoted m).slewReached_du]
        rfl
      · rfl
      · rw [(s.slewNoted m).slewStepped_du]
        rfl
    · have ha : a = ⟨(s.slewNoted m).slewReached m.e m, false⟩ := hslew.trans (if_pos hth)
      refine ⟨hservoed ha ((s.slewNoted m).slewReached_tb m.e m) ((s.slewNoted m).slewReached_tlu m.e m) ?_, hwrites ha ?_⟩
      · rw [(s.slewNoted m).slewReached_du]
        exact ⟨rfl, rfl, rfl⟩
      · have := hwritten ((s.slewNoted m).slewReached_writes m.e m)
        rwa [hform] at this
    · have hth : ¬ (m.e.natAbs : Int) ≤ th := by omega
      have ha : a = ⟨s.slewNoted m, false⟩ := hslew.trans ((if_neg hth).trans (if_pos ⟨by omega, hopen⟩))
      exact ⟨congrArg Action.stepped ha, congrArg Action.state ha⟩
    · have hth : ¬ (m.e.natAbs : Int) ≤ th := by
        rcases hfar with hlt | hlt
        · omega
        · have := hlt.1
          omega
      have hstep : ¬ (0 < m.e ∧ s.anyPortOpen = true) := fun h => hfar.elim (fun hlt => by
        have := h.1
        omega) fun hc => absurd (hc.2.symm.trans h.2) (by decide)
      have ha : a = ⟨(s.slewNoted m).slewStepped m.e, true⟩ := hslew.trans ((if_neg hth).trans (if_neg hstep))
      have hrate : a.state.du.rate = clampRate (-s.du.integral) := by
        rw [ha, (s.slewNoted m).slewStepped_du]
        rfl
      refine ⟨hsteps ha (State.Stepped.of_slewNoted s m ((s.slewNoted m).slewStepped_stepped m.e)), hrate, ?_,
        fun hprobe => hwrites ha ?_⟩
      · rw [hrate, ha, (s.slewNoted m).slewStepped_tb]
        exact clampRate_clampRate _
      · have := hwritten ((s.slewNoted m).slewStepped_writes m.e (houtstanding hprobe))
        rwa [hform, hform] at this

end Sys2Proof.Machine
end


section
/-! The selection of the disciplining reference (R39 to R41): what a switch leaves. -/

namespace Sys2Proof.Machine

/-! ### What an evaluation of the selection can change -/

/-- The Time Base but for the rate with its increment word and the UTC offset. -/
def TimeBase.Ruled (x y : TimeBase) : Prop := y = { x with rate := y.rate, inc := y.inc, utcOffset := y.utcOffset }

/-- DU but for its mode, selection, rate, leap memory and records. -/
def Discipline.SelectsTo (x y : Discipline) : Prop :=
  y = { x with mode := y.mode, selection := y.selection, rate := y.rate, leap := y.leap, records := y.records }

/-- `t` is reached from `s` by an evaluation of the selection. -/
structure State.Selecting (s t : State) : Prop where
  same : s.SameBut t [.tb, .du, .aj, .clu]
  tb : s.tb.Ruled t.tb
  du : s.du.SelectsTo t.du

namespace State.Selecting

variable {s t u : State}

theorem refl (s : State) : s.Selecting s := ⟨.refl s _, rfl, rfl⟩

theorem trans (h : s.Selecting t) (k : t.Selecting u) : s.Selecting u := by
  refine ⟨h.same.trans k.same, ?_, ?_⟩
  · have ht := h.tb
    have kt := k.tb
    unfold TimeBase.Ruled at ht kt ⊢
    rw [kt, ht]
  · have hd := h.du
    have kd := k.du
    unfold Discipline.SelectsTo at hd kd ⊢
    rw [kd, hd]

theorem ite {c : Prop} [Decidable c] (h : s.Selecting t) (k : s.Selecting u) : s.Selecting (if c then t else u) := by
  split <;> assumption

theorem setDu (h : s.Selecting t) {x : Discipline} (hx : t.du.SelectsTo x) : s.Selecting (t.setDu x) :=
  h.trans ⟨(t.setDu_same x).mono (by decide), rfl, hx⟩

theorem clockRecord (h : s.Selecting t) (e : ClockEvent) : s.Selecting (t.clockRecord e) := by
  have hsame := t.clockRecord_same e
  have htb : (t.clockRecord e).tb = t.tb := hsame .tb (by decide)
  refine h.trans ⟨hsame.mono (by decide), ?_, ?_⟩
  · rw [htb]
    rfl
  · have hdu := t.clockRecord_logsTo e
    unfold Discipline.LogsTo at hdu
    unfold Discipline.SelectsTo
    rw [hdu]

theorem presentRate (h : s.Selecting t) (r : Int) : s.Selecting (t.presentRate r) :=
  h.trans ⟨(t.presentRate_same r).mono (by decide), rfl, rfl⟩

theorem writeOffset (h : s.Selecting t) (o : Int) (c : OffsetCause) : s.Selecting (t.writeOffset o c) := by
  have hset : t.Selecting { t with tb := { t.tb with utcOffset := o } } := ⟨(t.tb_same _).mono (by decide), rfl, rfl⟩
  exact ite h (clockRecord (h.trans hset) _)

theorem enterHoldover (h : s.Selecting t) : s.Selecting t.enterHoldover :=
  .clockRecord (.presentRate (.setDu h (by rfl)) _) _

theorem loseSelection (h : s.Selecting t) : s.Selecting t.loseSelection := by
  unfold State.loseSelection
  split
  · exact h.enterHoldover
  · exact h.enterHoldover
  · exact .enterHoldover (.clockRecord h _)
  · exact h

theorem adoptSelection (h : s.Selecting t) (new : Option Ref) : s.Selecting (t.adoptSelection new) := by
  cases new with
  | none => exact .loseSelection (.setDu h (by rfl))
  | some r =>
    refine setDu ?_ (by rfl)
    split
    · exact h.writeOffset _ _
    · exact h

theorem switchTo (h : s.Selecting t) (new : Option Ref) (cause : SwitchCause) : s.Selecting (t.switchTo new cause) :=
  .adoptSelection (.clockRecord (.setDu h (by rfl)) _) new

theorem evaluateReport (h : s.Selecting t) (r : Ref) (before after : QualState) (cause : RefCause) :
    s.Selecting (t.evaluateReport r before after cause) :=
  .ite (.ite (h.clockRecord _) h) (h.switchTo _ _)

theorem evaluateSelection (h : s.Selecting t) (cause : SwitchCause) : s.Selecting (t.evaluateSelection cause) :=
  .ite h (h.switchTo _ _)

theorem dating (h : s.Selecting t) : t.dating = s.dating := by
  have htb := h.tb
  unfold TimeBase.Ruled at htb
  unfold State.dating TimeBase.dating
  rw [htb]

theorem cableDelay (h : s.Selecting t) (r : Ref) : t.tb.cableDelay r = s.tb.cableDelay r := by
  have htb := h.tb
  unfold TimeBase.Ruled at htb
  cases r <;> unfold TimeBase.cableDelay <;> rw [htb]

theorem stale (h : s.Selecting t) (r : Ref) : t.du.stale r = s.du.stale r := by
  have hdu := h.du
  unfold Discipline.SelectsTo at hdu
  cases r <;> unfold Discipline.stale <;> rw [hdu]

theorem stats (h : s.Selecting t) : t.du.stats = s.du.stats := by
  have hdu := h.du
  unfold Discipline.SelectsTo at hdu
  rw [hdu]

end State.Selecting

/-! ### A switch (R40, R41) -/

section
variable (s : State) (new : Option Ref) (cause : SwitchCause)

/-- The switch with its record, before what follows it. -/
def State.switched : State :=
  (s.setDu { s.du with selection := new }).clockRecord
    (.refSwitch s.du.selection new (s.du.selection.map fun r => (s.mon r).state) (new.map fun r => (s.mon r).state) cause)

theorem State.switchTo_eq : s.switchTo new cause = (s.switched new cause).adoptSelection new := rfl

theorem State.switched_tb : (s.switched new cause).tb = s.tb := State.clockRecord_same _ _ .tb (by decide)

theorem State.switched_mon (r : Ref) : (s.switched new cause).mon r = s.mon r :=
  State.clockRecord_same _ _ (.mon r) (by simp)

theorem State.switched_du :
    (s.switched new cause).du = { s.du with selection := new, records := (s.switched new cause).du.records } :=
  State.clockRecord_logsTo _ _

/-- R41: HOLDOVER from a mode with an integral. -/
def State.held (mode : Mode) (integral : Int) : State :=
  ((s.setDu { s.du with mode := .holdover, rate := clampRate (-integral) }).presentRate
    (clampRate (-integral))).clockRecord (.holdoverStart mode integral (clampRate (-integral)))

theorem State.enterHoldover_eq : s.enterHoldover = s.held s.du.mode s.du.integral := rfl

/-- The switch to no selection, the leap memory cleared. -/
def State.unselected : State := (s.switched none cause).setDu { (s.switched none cause).du with leap := none }

theorem State.unselected_du :
    (s.unselected cause).du =
      { s.du with selection := none, leap := none, records := (s.unselected cause).du.records } := by
  rw [State.unselected, State.setDu_du, State.switched_du]

theorem State.switchTo_some (r : Ref) :
    s.switchTo (some r) cause =
      let offset := (s.mon r).adopted.getD s.tb.utcOffset
      let x := if offset = s.tb.utcOffset then s.switched (some r) cause
        else State.clockRecord { s.switched (some r) cause with tb := { s.tb with utcOffset := offset } }
          (.offsetChange s.tb.utcOffset offset .switch)
      x.setDu { x.du with leap := (s.mon r).leap.map fun l => ⟨l.sign, r⟩ } := by
  have htb := s.switched_tb (some r) cause
  have hmon := s.switched_mon (some r) cause r
  have hwrite (o : Int) : (s.switched (some r) cause).writeOffset o .switch =
      if o = s.tb.utcOffset then s.switched (some r) cause
      else State.clockRecord { s.switched (some r) cause with tb := { s.tb with utcOffset := o } }
        (.offsetChange s.tb.utcOffset o .switch) := by
    unfold State.writeOffset
    rw [htb]
    exact if_congr eq_comm rfl rfl
  have hleap {x : State} (hx : x.mon r = s.mon r) : x.leapOf r = (s.mon r).leap.map fun l => ⟨l.sign, r⟩ := by
    unfold State.leapOf
    rw [hx]
  rw [State.switchTo_eq]
  unfold State.adoptSelection
  dsimp only
  rw [hmon]
  cases hadopted : (s.mon r).adopted with
  | none =>
    dsimp only
    rw [hleap hmon, Option.getD_none, if_pos rfl]
  | some o =>
    dsimp only
    rw [hleap ((State.Selecting.writeOffset (.refl _) _ _).same (.mon r) (by simp) |>.trans hmon), hwrite,
      Option.getD_some]

theorem State.switchTo_none_of_unset (h : s.du.mode = .unset) : s.switchTo none cause = s.unselected cause := by
  have hmode : (s.unselected cause).du.mode = .unset := by rw [State.unselected_du]; exact h
  show (s.unselected cause).loseSelection = _
  unfold State.loseSelection
  rw [hmode]

theorem State.switchTo_none_of_slewing (h : s.du.mode = .slewing) :
    s.switchTo none cause =
      ((s.unselected cause).clockRecord (.slewEnd .loss (s.du.lastSlew.getD 0))).held s.du.mode s.du.integral := by
  have hdu := s.unselected_du cause
  have hmode : (s.unselected cause).du.mode = .slewing := by rw [hdu]; exact h
  have hlast : (s.unselected cause).du.lastSlew = s.du.lastSlew := by rw [hdu]
  have hrecord : ((s.unselected cause).clockRecord (.slewEnd .loss (s.du.lastSlew.getD 0))).du.mode = s.du.mode ∧
      ((s.unselected cause).clockRecord (.slewEnd .loss (s.du.lastSlew.getD 0))).du.integral = s.du.integral := by
    rw [State.clockRecord_du, hdu]
    exact ⟨rfl, rfl⟩
  show (s.unselected cause).loseSelection = _
  unfold State.loseSelection
  rw [hmode, hlast]
  dsimp only
  rw [State.enterHoldover_eq, hrecord.1, hrecord.2]

theorem State.switchTo_none_of_disciplined (h : s.du.mode = .locked ∨ s.du.mode = .holdover) :
    s.switchTo none cause = (s.unselected cause).held s.du.mode s.du.integral := by
  have hdu := s.unselected_du cause
  have hmode : (s.unselected cause).du.mode = s.du.mode := by rw [hdu]
  have hintegral : (s.unselected cause).du.integral = s.du.integral := by rw [hdu]
  have henter := (s.unselected cause).enterHoldover_eq
  rw [hmode, hintegral] at henter
  show (s.unselected cause).loseSelection = _
  unfold State.loseSelection
  rw [hmode]
  rcases h with h | h <;> rw [h] <;> exact henter.trans (by rw [h])

/-! ### What HOLDOVER leaves -/

theorem State.held_du (mode : Mode) (integral : Int) :
    (s.held mode integral).du = { s.du with
      mode := .holdover, rate := clampRate (-integral), records := (s.held mode integral).du.records } :=
  State.clockRecord_logsTo _ _

theorem State.held_tb (mode : Mode) (integral : Int) : (s.held mode integral).tb = s.tb.present (clampRate (-integral)) :=
  State.clockRecord_same _ _ .tb (by decide)

end

end Sys2Proof.Machine
end


section
/-! CLOCK records counted: what a bounded number of them does to AJ and to the notice list. -/

namespace Sys2Proof.Machine

theorem Control.notice_prefix (c : Control) (cls : NoticeClass) (fields : List Fld) :
    c.notices <+: (c.notice cls fields).notices := by
  cases ha : c.enables.admits cls with
  | false => rw [Control.notice_of_off ha]
  | true =>
    rcases Nat.lt_or_ge c.notices.length 16 with hroom | hfull
    · rw [Control.notice_of_room ha hroom]
      exact List.prefix_append _ _
    · rw [Control.notice_of_full ha hfull]

/-- The journal but for its tally and its counts of lost records. -/
def Journal.LosesTo (x y : Journal) : Prop := y = { x with tally := y.tally, lost := y.lost }

/-- `t` is reached from `s` by at most `n` CLOCK records and by notices, as far as AJ, the notice list and DU's list are
concerned. -/
structure State.Clocked (n : Nat) (s t : State) : Prop where
  loses : s.aj.LosesTo t.aj
  count : t.du.records.length ≤ s.du.records.length + n
  kept : s.du.records.length + n ≤ 32 → t.aj = s.aj
  notices : s.clu.notices <+: t.clu.notices

namespace State.Clocked

variable {n k : Nat} {s t u : State}

theorem refl (s : State) : s.Clocked 0 s := ⟨rfl, le_rfl, fun _ => rfl, List.prefix_refl _⟩

theorem trans (h : s.Clocked n t) (j : t.Clocked k u) : s.Clocked (n + k) u := by
  refine ⟨?_, ?_, fun hroom => ?_, h.notices.trans j.notices⟩
  · have ht := h.loses
    have hu := j.loses
    unfold Journal.LosesTo at ht hu ⊢
    rw [hu, ht]
  · have := h.count
    have := j.count
    omega
  · have := h.count
    rw [j.kept (by omega), h.kept (by omega)]

theorem mono (h : s.Clocked n t) (hle : n ≤ k) : s.Clocked k t :=
  ⟨h.loses, h.count.trans (by omega), fun hroom => h.kept (by omega), h.notices⟩

theorem ite {c : Prop} [Decidable c] (h : s.Clocked n t) (j : s.Clocked n u) : s.Clocked n (if c then t else u) := by
  split <;> assumption

/-- What leaves AJ, CLU and DU's list. -/
theorem of_eq (h : s.Clocked n t) (haj : u.aj = t.aj) (hclu : u.clu = t.clu) (hdu : u.du.records = t.du.records) :
    s.Clocked n u :=
  ⟨haj ▸ h.loses, hdu ▸ h.count, haj ▸ h.kept, hclu ▸ h.notices⟩

theorem notice (h : s.Clocked n t) (cls : NoticeClass) (f : List Fld) : s.Clocked n (t.notice cls f) :=
  ⟨h.loses, h.count, h.kept, h.notices.trans (t.clu.notice_prefix cls f)⟩

theorem clockLost_notices (t : State) : t.clu.notices <+: t.clockLost.clu.notices := by
  unfold State.clockLost
  split
  · rw [← State.lose_clock_eq]
    unfold State.lose
    dsimp only
    split
    · exact t.clu.notice_prefix _ _
    · exact List.prefix_refl _
  · exact List.prefix_refl _

theorem clockRecord (h : s.Clocked n t) (e : ClockEvent) : s.Clocked (n + 1) (t.clockRecord e) := by
  refine h.trans ⟨?_, ?_, fun hroom => ?_, ?_⟩
  · rw [State.clockRecord, State.clockRecordAt_aj, State.clockLost]
    split <;> rfl
  · rw [State.clockRecord_du]
    dsimp only
    split
    · simp
    · omega
  · exact (State.Writes.clockRecord t e hroom).1
  · rw [State.clockRecord, State.clockRecordAt_clu]
    exact (clockLost_notices t).trans (Control.notice_prefix _ _ _)

theorem setDu (h : s.Clocked n t) (x : Discipline) (hx : x.records = t.du.records := by rfl) : s.Clocked n (t.setDu x) :=
  h.of_eq rfl rfl hx

theorem presentRate (h : s.Clocked n t) (r : Int) : s.Clocked n (t.presentRate r) := h.of_eq rfl rfl rfl

theorem setTb (h : s.Clocked n t) (x : TimeBase) : s.Clocked n { t with tb := x } := h.of_eq rfl rfl rfl

theorem setMon (h : s.Clocked n t) (r : Ref) (x : Monitor) : s.Clocked n (t.setMon r x) := by
  cases r <;> exact h.of_eq rfl rfl rfl

theorem writeOffset (h : s.Clocked n t) (o : Int) (c : OffsetCause) : s.Clocked (n + 1) (t.writeOffset o c) :=
  .ite (h.mono (by omega)) (.clockRecord (.setTb h _) _)

theorem enterHoldover (h : s.Clocked n t) : s.Clocked (n + 1) t.enterHoldover :=
  .clockRecord (.presentRate (.setDu h _) _) _

theorem loseSelection (h : s.Clocked n t) : s.Clocked (n + 2) t.loseSelection := by
  unfold State.loseSelection
  split
  · exact h.enterHoldover.mono (by omega)
  · exact h.enterHoldover.mono (by omega)
  · exact .enterHoldover (.clockRecord h _)
  · exact h.mono (by omega)

theorem adoptSelection (h : s.Clocked n t) (new : Option Ref) : s.Clocked (n + 2) (t.adoptSelection new) := by
  cases new with
  | none => exact .loseSelection (.setDu h _)
  | some r =>
    refine setDu (mono (n := n + 1) ?_ (by omega)) _
    split
    · exact h.writeOffset _ _
    · exact h.mono (by omega)

theorem switchTo (h : s.Clocked n t) (new : Option Ref) (cause : SwitchCause) : s.Clocked (n + 3) (t.switchTo new cause) :=
  mono (n := n + 1 + 2) (.adoptSelection (.clockRecord (.setDu h _) _) new) (by omega)

theorem evaluateReport (h : s.Clocked n t) (r : Ref) (before after : QualState) (cause : RefCause) :
    s.Clocked (n + 3) (t.evaluateReport r before after cause) :=
  .ite (.ite (mono (h.clockRecord _) (by omega)) (h.mono (by omega))) (h.switchTo _ _)

theorem evaluateSelection (h : s.Clocked n t) (cause : SwitchCause) : s.Clocked (n + 3) (t.evaluateSelection cause) :=
  .ite (h.mono (by omega)) (h.switchTo _ _)

theorem setEnable (h : s.Clocked n t) (r : Ref) (enable : Bool) : s.Clocked (n + 3) (t.setEnable r enable) :=
  .ite (.mono (.setMon h _ _) (by omega)) (.evaluateReport (.notice (.setMon h _ _) _ _) _ _ _ _)

theorem setPreferred (h : s.Clocked n t) (p : Ref) : s.Clocked (n + 3) (t.setPreferred p) :=
  .ite (h.mono (by omega)) (.evaluateSelection (.setDu h _) _)

end State.Clocked

/-! ### REF_CONFIG (R32, R170) -/

section
variable (s : State) (r : Ref) (enable : Bool) (ceiling : Nat) (delay : Int) (p : Ref)

/-- REF_CONFIG before its preference: the enable, the ceiling and the delay. -/
def State.refTaken : State :=
  { (s.setEnable r enable).setMon r { (s.setEnable r enable).mon r with ceiling := ceiling } with
    tb := (s.setEnable r enable).tb.stageDelay r delay }

theorem State.configureRef_eq :
    s.configureRef r enable ceiling delay p = (s.refTaken r enable ceiling delay).setPreferred p := by
  have htb : ((s.setEnable r enable).setMon r { (s.setEnable r enable).mon r with ceiling := ceiling }).tb =
      (s.setEnable r enable).tb := State.setMon_same _ _ _ .tb (by simp)
  unfold State.configureRef State.refTaken
  dsimp only
  rw [htb]

/-- The monitor of the request after its enable. -/
theorem State.setEnable_changes (hch : enable ≠ (s.mon r).enabled) :
    s.setEnable r enable =
      ((s.setMon r ((s.mon r).setEnable enable s.tick)).refChanged r (s.mon r).state
        (if enable then .enable else .disable)).evaluateReport r (s.mon r).state
          (if enable then .candidate else .disabled) (if enable then .enable else .disable) := by
  have hstate : ((s.mon r).setEnable enable s.tick).state = if enable then .candidate else .disabled := by
    unfold Monitor.setEnable
    rw [if_neg (Ne.symm hch)]
    cases enable <;> rfl
  have hne : ¬ (if enable then QualState.candidate else .disabled) = (s.mon r).state := by
    intro heq
    apply hch
    unfold Monitor.enabled
    rw [← heq]
    cases enable <;> rfl
  unfold State.setEnable
  dsimp only
  rw [State.setMon_mon, hstate, if_neg hne]

end

end Sys2Proof.Machine
end


section
/-! Losing the last usable reference (R32, R39, R41). -/

namespace Sys2Proof.Machine

theorem otherRef_eq {r q : Ref} (h : q ≠ r) : q = otherRef r := by
  cases r <;> cases q <;> first | rfl | exact absurd rfl h

theorem selectFrom_of_none_usable {st : Ref → QualState} (h : ∀ q, st q ≠ .qualified ∧ st q ≠ .watch)
    (current : Option Ref) (preferred : Ref) : selectFrom current preferred st = none := by
  unfold selectFrom
  rw [if_neg (h _).1, if_neg (h _).1]
  cases current with
  | none => simp only [(h _).2, if_false]
  | some r => simp only [(h _).2, if_false]

section
variable (s : State) (cause : SwitchCause)

/-- R41: what a switch to no selection leaves in UNSET. -/
theorem State.switchTo_none_du_of_unset (h : s.du.mode = .unset) :
    (s.switchTo none cause).du =
        { s.du with selection := none, leap := none, records := (s.switchTo none cause).du.records } ∧
      (s.switchTo none cause).tb = s.tb := by
  rw [s.switchTo_none_of_unset cause h]
  exact ⟨s.unselected_du cause, s.switched_tb none cause⟩

/-- R41: and in the other modes, which it ends. -/
theorem State.switchTo_none_du (h : s.du.mode ≠ .unset) :
    (s.switchTo none cause).du = { s.du with
        mode := .holdover
        selection := none
        rate := clampRate (-s.du.integral)
        leap := none
        records := (s.switchTo none cause).du.records } ∧
      (s.switchTo none cause).tb = s.tb.present (clampRate (-s.du.integral)) := by
  have hdu := s.unselected_du cause
  have htb : (s.unselected cause).tb = s.tb := s.switched_tb none cause
  by_cases hslew : s.du.mode = .slewing
  · rw [s.switchTo_none_of_slewing cause hslew, State.held_du, State.held_tb, State.clockRecord_du, hdu,
      (s.unselected cause).clockRecord_same _ .tb (by decide), htb]
    exact ⟨rfl, rfl⟩
  · have hmode : s.du.mode = .locked ∨ s.du.mode = .holdover := by
      cases hm : s.du.mode <;> simp_all
    rw [s.switchTo_none_of_disciplined cause hmode, State.held_du, State.held_tb, hdu, htb]
    exact ⟨rfl, rfl⟩

end

section
variable {s : State} {r : Ref}

/-- A preference taken where no reference is usable and none is selected. -/
theorem State.setPreferred_of_none {p : Ref} (hsel : s.du.selection = none)
    (hst : ∀ q, (s.mon q).state ≠ .qualified ∧ (s.mon q).state ≠ .watch) :
    s.setPreferred p = s.setDu { s.du with preferred := p } := by
  unfold State.setPreferred
  split
  · next h =>
    subst h
    rfl
  · have hselected : (s.setDu { s.du with preferred := p }).selected = none := by
      unfold State.selected
      refine selectFrom_of_none_usable (fun q => ?_) _ _
      cases q
      · exact hst .a
      · exact hst .b
    unfold State.evaluateSelection
    rw [hselected]
    exact if_pos hsel.symm

/-- The last usable reference disabled. -/
theorem State.setEnable_last (hsel : s.du.selection = some r) (hen : (s.mon r).state ≠ .disabled)
    (hother : ∀ q, q ≠ r → (s.mon q).state ≠ .qualified ∧ (s.mon q).state ≠ .watch) :
    ∃ u : State, u.du = s.du ∧ u.tb = s.tb ∧
      s.setEnable r false = u.switchTo none (.report r .disable) := by
  have hch : false ≠ (s.mon r).enabled := by simp [Monitor.enabled, hen]
  have hmon (q : Ref) : (s.setMon r ((s.mon r).setEnable false s.tick)).mon q =
      if q = r then (s.mon r).setEnable false s.tick else s.mon q := by
    split
    · next h => rw [h, State.setMon_mon]
    · next h => exact s.setMon_mon_other _ _ _ h
  have hstate : ((s.mon r).setEnable false s.tick).state = .disabled := by
    unfold Monitor.setEnable
    rw [if_neg (Ne.symm hch)]
    rfl
  refine ⟨(s.setMon r ((s.mon r).setEnable false s.tick)).refChanged r (s.mon r).state .disable, ?_, ?_, ?_⟩
  · exact s.setMon_same r ((s.mon r).setEnable false s.tick) .du (by simp)
  · exact s.setMon_same r ((s.mon r).setEnable false s.tick) .tb (by simp)
  rw [State.setEnable_changes s r false hch]
  simp only [Bool.false_eq_true, if_false]
  have hdu : ((s.setMon r ((s.mon r).setEnable false s.tick)).refChanged r (s.mon r).state .disable).du = s.du :=
    s.setMon_same r ((s.mon r).setEnable false s.tick) .du (by simp)
  have hselected : ((s.setMon r ((s.mon r).setEnable false s.tick)).refChanged r (s.mon r).state .disable).selected =
      none := by
    unfold State.selected
    refine selectFrom_of_none_usable (fun q => ?_) _ _
    have hq := hmon q
    change (((s.setMon r ((s.mon r).setEnable false s.tick)).refChanged r (s.mon r).state .disable).mon q) = _ at hq
    rw [hq]
    split
    · rw [hstate]
      exact ⟨by decide, by decide⟩
    · next h => exact hother q h
  unfold State.evaluateReport
  rw [hselected, hdu, hsel, if_neg (by simp)]

end

/-! ### REF_CONFIG taken -/

namespace TimeBase

variable (x : TimeBase) (r : Ref) (d : Int)

theorem stageDelay_raw : (x.stageDelay r d).raw = x.raw := by cases r <;> rfl
theorem stageDelay_hwm : (x.stageDelay r d).hwm = x.hwm := by cases r <;> rfl
theorem stageDelay_utcOffset : (x.stageDelay r d).utcOffset = x.utcOffset := by cases r <;> rfl
theorem stageDelay_rate : (x.stageDelay r d).rate = x.rate := by cases r <;> rfl
theorem stageDelay_inc : (x.stageDelay r d).inc = x.inc := by cases r <;> rfl

/-- R2: the increment word of a rate word presented. -/
theorem present_inc : ((x.present d).inc : Int) = 34359738368 + rateDelta (clampRate d) := by
  obtain ⟨hlo, hhi⟩ := clampRate_bounds d
  obtain ⟨hdlo, _⟩ := rateDelta_bounds hlo hhi
  exact Int.toNat_of_nonneg (show 0 ≤ 34359738368 + rateDelta (clampRate d) by omega)

end TimeBase

theorem State.refTaken_du (s : State) (r : Ref) (enable : Bool) (ceiling : Nat) (delay : Int) :
    (s.refTaken r enable ceiling delay).du = (s.setEnable r enable).du := by
  cases r <;> rfl

theorem State.switchTo_none_selection (s : State) (cause : SwitchCause) : (s.switchTo none cause).du.selection = none := by
  by_cases h : s.du.mode = .unset
  · rw [(s.switchTo_none_du_of_unset cause h).1]
  · rw [(s.switchTo_none_du cause h).1]

theorem refOfCode_of_eq {n : Nat} {r : Ref} (h : n = match r with | .a => 1 | .b => 2) : refOfCode n = some r := by
  subst h
  cases r <;> rfl

/-- The clamped ceiling and delay of a REF_CONFIG. -/
def refCeiling (payload : List Byte) : Clamped Nat := clampCeiling (field payload 2 4)
def refDelay (payload : List Byte) : Clamped Int := clampDelay (fieldInt payload 6 4)

/-- Whether a REF_CONFIG is clamped. -/
def refClamped (payload : List Byte) : Bool := (refCeiling payload).clamped || (refDelay payload).clamped

/-- The values of a REF_CONFIG as taken. -/
def refTakenFields (r : Ref) (enable : Bool) (preferred : Ref) (payload : List Byte) : List Fld :=
  [fx 1 (Ref.toCode r), fx 1 (boolCode enable), fx 4 (refCeiling payload).value, fs 4 (refDelay payload).value,
    fx 1 (Ref.toCode preferred)]

/-- REF_CONFIG acted on, before its record. -/
def State.refConfigured (s : State) (r : Ref) (enable : Bool) (preferred : Ref) (payload : List Byte) : State :=
  s.configureRef r enable (refCeiling payload).value (refDelay payload).value preferred

/-- REF_CONFIG acted on, with its record. -/
def State.refRecorded (s : State) (r : Ref) (enable : Bool) (preferred : Ref) (payload : List Byte) : State :=
  (s.refConfigured r enable preferred payload).configChange 0x09#8 (refClamped payload) true
    (fieldBytes (refTakenFields r enable preferred payload))

section
variable {s : State} {q : ControlRequest} {r preferred : Ref} {enable : Bool}

theorem refConfig_of_fields (href : field q.payload 0 1 = match r with | .a => 1 | .b => 2)
    (henable : field q.payload 1 1 = if enable then 1 else 0)
    (hpreferred : field q.payload 10 1 = match preferred with | .a => 1 | .b => 2) :
    refConfig q.payload s =
      (s.refRecorded r enable preferred q.payload).says (okStatus (refClamped q.payload))
        [fx 1 (QualState.toCode ((s.refRecorded r enable preferred q.payload).mon r).state),
         fx 4 ((s.refRecorded r enable preferred q.payload).mon r).ceiling, fs 4 (refDelay q.payload).value,
         fx 1 (Ref.toCode (s.refRecorded r enable preferred q.payload).du.preferred),
         fx 1 (refCode (s.refRecorded r enable preferred q.payload).du.selection)] := by
  have hbool : boolOfCode (field q.payload 1 1) = some enable := by
    rw [henable]
    cases enable <;> rfl
  unfold refConfig
  rw [refOfCode_of_eq href, refOfCode_of_eq hpreferred, hbool]
  rfl

theorem State.refRecorded_same (s : State) (r : Ref) (enable : Bool) (preferred : Ref) (payload : List Byte) :
    (s.refConfigured r enable preferred payload).SameBut (s.refRecorded r enable preferred payload) [.aj, .clu] :=
  State.configChange_same _ _ _ _ _

theorem State.refConfigured_mon (x : Ref) (payload : List Byte) :
    (s.refConfigured r enable preferred payload).mon x =
      if x = r then { (s.mon r).setEnable enable s.tick with ceiling := (refCeiling payload).value } else s.mon x :=
  State.configureRef_mon ..

end

/-- Settles O24: the disable switches to no selection, and the preference finds none. -/
theorem losingTheLastReferenceEntersHoldover : Obligations.LosingTheLastReferenceEntersHoldover := by
  intro s q r other preferred h hother href henable hpreferred hsel hen hq hw
  have hrest (x : Ref) (hx : x ≠ r) : (s.mon x).state ≠ .qualified ∧ (s.mon x).state ≠ .watch := by
    rw [otherRef_eq hx, ← otherRef_eq hother]
    exact ⟨hq, hw⟩
  obtain ⟨u, hudu, hutb, hlast⟩ := State.setEnable_last (s := s.beginService) hsel hen hrest
  obtain ⟨v, hv⟩ : ∃ v, v = s.beginService.refTaken r false (refCeiling q.payload).value (refDelay q.payload).value :=
    ⟨_, rfl⟩
  have hconf : s.beginService.refConfigured r false preferred q.payload = v.setPreferred preferred :=
    hv ▸ State.configureRef_eq ..
  have hmon (x : Ref) := State.refConfigured_mon (s := s.beginService) (r := r) (enable := false)
    (preferred := preferred) x q.payload
  have hvdu : v.du = (s.beginService.setEnable r false).du := by
    rw [hv]
    exact State.refTaken_du ..
  have hvtb : v.tb = (s.beginService.setEnable r false).tb.stageDelay r (refDelay q.payload).value := by
    rw [hv]
    rfl
  have hvmon (x : Ref) : v.mon x = (s.beginService.refConfigured r false preferred q.payload).mon x := by
    rw [hconf]
    exact (State.setPreferred_same v preferred (.mon x) (by simp [disciplineBlocks])).symm
  have hdisabled : ((s.mon r).setEnable false s.tick).state = .disabled := by
    unfold Monitor.setEnable
    rw [if_neg (by simp [Monitor.enabled, hen])]
    rfl
  have hvsel : v.du.selection = none := by
    rw [hvdu, hlast]
    exact State.switchTo_none_selection ..
  have hvst (x : Ref) : (v.mon x).state ≠ .qualified ∧ (v.mon x).state ≠ .watch := by
    rw [hvmon, hmon]
    split
    · show ((s.mon r).setEnable false s.tick).state ≠ _ ∧ ((s.mon r).setEnable false s.tick).state ≠ _
      rw [hdisabled]
      exact ⟨by decide, by decide⟩
    · next hx => exact hrest x hx
  rw [State.setPreferred_of_none hvsel hvst] at hconf
  refine ⟨_, live_takeRequest_of_acted h (refConfig_of_fields href (enable := false) henable hpreferred), ?_⟩
  have hrecorded := s.beginService.refRecorded_same r false preferred q.payload
  rw [hconf] at hrecorded
  generalize s.beginService.refRecorded r false preferred q.payload = w at hrecorded ⊢
  have hwdu : w.du = { v.du with preferred := preferred } := hrecorded .du (by decide)
  have hwtb : w.tb = v.tb := hrecorded .tb (by decide)
  have hwmon (x : Ref) : w.mon x = v.mon x := hrecorded (.mon x) (by simp)
  have hstaged : w.tb = (u.switchTo none (.report r .disable)).tb.stageDelay r (refDelay q.payload).value := by
    rw [hwtb, hvtb, hlast]
  rw [hvdu, hlast] at hwdu
  refine ⟨?_, ?_, ?_⟩
  · show (w.mon r).state = _
    rw [hwmon, hvmon, hmon, if_pos rfl]
    exact hdisabled
  · show w.mon other = _
    rw [hwmon, hvmon, hmon, if_neg hother]
    rfl
  show w.du.selection = none ∧ w.du.leap = none ∧ w.du.integral = s.du.integral ∧ w.du.anchor = s.du.anchor ∧
    w.tb.raw = s.tb.raw ∧ w.tb.hwm = s.tb.hwm ∧ w.tb.utcOffset = s.tb.utcOffset ∧
    (s.du.mode = .unset → w.du.mode = .unset ∧ w.du.rate = s.du.rate ∧ w.tb.rate = s.tb.rate) ∧
    (s.du.mode ≠ .unset → w.du.mode = .holdover ∧ w.du.rate = clampRate (-s.du.integral) ∧ w.tb.rate = w.du.rate ∧
      (w.tb.inc : Int) = 34359738368 + rateDelta w.du.rate)
  by_cases hm : s.du.mode = .unset
  · obtain ⟨hdu, htb⟩ := u.switchTo_none_du_of_unset (.report r .disable) (hudu ▸ hm)
    rw [hdu, hudu] at hwdu
    rw [htb, hutb] at hstaged
    rw [hwdu, hstaged, TimeBase.stageDelay_raw, TimeBase.stageDelay_hwm, TimeBase.stageDelay_utcOffset,
      TimeBase.stageDelay_rate]
    exact ⟨rfl, rfl, rfl, rfl, rfl, rfl, rfl, fun _ => ⟨hm, rfl, rfl⟩, fun hne => absurd hm hne⟩
  · obtain ⟨hdu, htb⟩ := u.switchTo_none_du (.report r .disable) (hudu ▸ hm)
    rw [hdu, hudu] at hwdu
    rw [htb, hutb, hudu] at hstaged
    rw [hwdu, hstaged, TimeBase.stageDelay_raw, TimeBase.stageDelay_hwm, TimeBase.stageDelay_utcOffset,
      TimeBase.stageDelay_rate, TimeBase.stageDelay_inc]
    refine ⟨rfl, rfl, rfl, rfl, rfl, rfl, rfl, fun h => absurd h hm, fun _ => ⟨rfl, rfl, clampRate_clampRate _, ?_⟩⟩
    exact (s.tb.present_inc _).trans (by rw [clampRate_clampRate])

end Sys2Proof.Machine
end


section
/-! REF_CONFIG, SELECT_CONFIG and NOTICE_CONFIG (R32, R34, R35, R148, R170, R175). -/

namespace Sys2Proof.Machine

/-! ### The notices of a submission -/

theorem Control.levelNotices_prefix (c : Control) (old new : Journal) (dating : Nat) :
    c.notices <+: (c.levelNotices old new dating).notices := by
  have hite (x : Control) (p : Prop) [Decidable p] (cls : NoticeClass) (f : List Fld) :
      x.notices <+: (if p then x.notice cls f else x).notices := by
    split
    · exact x.notice_prefix cls f
    · exact List.prefix_refl _
  exact (hite c _ _ _).trans (hite _ _ _ _)

theorem State.submit_notices_prefix (s : State) (b : Body) : s.clu.notices <+: (s.submit b).clu.notices := by
  unfold State.submit
  split
  · exact s.clu.levelNotices_prefix _ _ _
  · exact List.prefix_refl _
  · unfold State.lose
    dsimp only
    split
    · exact s.clu.notice_prefix _ _
    · exact List.prefix_refl _

/-! ### The enable -/

theorem State.Selecting.notice {s t : State} (h : s.Selecting t) (cls : NoticeClass) (f : List Fld) :
    s.Selecting (t.notice cls f) :=
  h.trans ⟨(t.notice_same cls f).mono (by decide), rfl, rfl⟩

section
variable (s : State) (r : Ref) (enable : Bool)

/-- The monitor with the enable of REF_CONFIG. -/
def State.enabledMon : State := s.setMon r ((s.mon r).setEnable enable s.tick)

theorem State.enabledMon_mon : (s.enabledMon r enable).mon r = (s.mon r).setEnable enable s.tick := s.setMon_mon r _

theorem State.enabledMon_same : s.SameBut (s.enabledMon r enable) [.mon r] := s.setMon_same r _

theorem State.setEnable_selecting : (s.enabledMon r enable).Selecting (s.setEnable r enable) :=
  .ite (.refl _) (.evaluateReport (.notice (.refl _) _ _) _ _ _ _)

theorem Monitor.setEnable_of_same {m : Monitor} (h : enable = decide (m.state ≠ .disabled)) (tick : Nat) :
    m.setEnable enable tick = m := if_pos h.symm

theorem Monitor.setEnable_of_changed {m : Monitor} (h : enable = decide (m.state = .disabled)) (tick : Nat) :
    m.setEnable enable tick =
      { state := if enable then .candidate else .disabled
        ceiling := m.ceiling
        missingTimer := if enable then some (tick + 137500000) else none
        counters := { m.counters with stateChanges := bump m.counters.stateChanges } } := by
  have hne : ¬ m.enabled = enable := by
    rw [h, Monitor.enabled]
    by_cases hd : m.state = .disabled <;> simp [hd]
  unfold Monitor.setEnable
  rw [if_neg hne]
  cases enable <;> rfl

/-- The notices of a change of the enable. -/
theorem State.setEnable_notices (hch : enable = decide ((s.mon r).state = .disabled)) :
    (s.clu.notice .ref (refNotice r (s.mon r).state (if enable then .candidate else .disabled) 0
      (if enable then .enable else .disable) s.dating)).notices <+: (s.setEnable r enable).clu.notices := by
  have hne : enable ≠ (s.mon r).enabled := by
    rw [hch, Monitor.enabled]
    by_cases hd : (s.mon r).state = .disabled <;> simp [hd]
  have hnotices := (State.Clocked.evaluateReport (.refl ((s.setMon r ((s.mon r).setEnable enable s.tick)).refChanged r
    (s.mon r).state (if enable then .enable else .disable))) r (s.mon r).state (if enable then .candidate else .disabled)
    (if enable then .enable else .disable)).notices
  rw [← s.setEnable_changes r enable hne] at hnotices
  unfold State.refChanged at hnotices
  have hclu : (s.setMon r ((s.mon r).setEnable enable s.tick)).clu = s.clu := s.setMon_same r _ .clu (by simp)
  have hd : (s.setMon r ((s.mon r).setEnable enable s.tick)).dating = s.dating :=
    congrArg TimeBase.dating (s.setMon_same r ((s.mon r).setEnable enable s.tick) .tb (by simp))
  have hmon : (s.setMon r ((s.mon r).setEnable enable s.tick)).mon r = (s.mon r).setEnable enable s.tick :=
    s.setMon_mon r _
  generalize s.setMon r ((s.mon r).setEnable enable s.tick) = x at hnotices hclu hd hmon
  rw [hmon, Monitor.setEnable_of_changed enable hch, hd] at hnotices
  rw [← hclu]
  exact hnotices

end

/-! ### REF_CONFIG, its parts -/

section
variable {s : State} {r preferred : Ref} {enable : Bool} {payload : List Byte}

theorem State.refTaken_tb (ceiling : Nat) (delay : Int) :
    (s.refTaken r enable ceiling delay).tb = (s.setEnable r enable).tb.stageDelay r delay := rfl

theorem State.setPreferred_selecting (s : State) (p : Ref) :
    (s.setDu { s.du with preferred := p }).Selecting (s.setPreferred p) := by
  unfold State.setPreferred
  split
  · next h =>
    subst h
    exact .refl _
  · exact .evaluateSelection (.refl _) _

/-- The preference, raw time, the high-water mark and the delays of a REF_CONFIG. -/
theorem State.refConfigured_taken :
    (s.refConfigured r enable preferred payload).du.preferred = preferred ∧
      (s.refConfigured r enable preferred payload).tb.raw = s.tb.raw ∧
      (s.refConfigured r enable preferred payload).tb.hwm = s.tb.hwm ∧
      (s.refConfigured r enable preferred payload).tb.delayA = (s.tb.stageDelay r (refDelay payload).value).delayA ∧
      (s.refConfigured r enable preferred payload).tb.delayB = (s.tb.stageDelay r (refDelay payload).value).delayB := by
  obtain ⟨_, hetb, _⟩ := s.setEnable_selecting r enable
  have hmtb : (s.enabledMon r enable).tb = s.tb := s.enabledMon_same r enable .tb (by simp)
  obtain ⟨_, hptb, hpdu⟩ :=
    (s.refTaken r enable (refCeiling payload).value (refDelay payload).value).setPreferred_selecting preferred
  rw [← State.configureRef_eq] at hptb hpdu
  change State.du (s.refConfigured r enable preferred payload) = _ at hpdu
  change State.tb (s.refConfigured r enable preferred payload) = _ at hptb
  rw [hpdu, hptb]
  unfold TimeBase.Ruled at hetb
  rw [hmtb] at hetb
  rw [State.setDu_tb, State.refTaken_tb, hetb]
  cases r <;> exact ⟨rfl, rfl, rfl, rfl, rfl⟩

theorem State.refConfigured_clocked :
    s.Clocked 6 (s.refConfigured r enable preferred payload) := by
  unfold State.refConfigured
  rw [State.configureRef_eq]
  exact .setPreferred (.setTb (.setMon (.setEnable (.refl s) _ _) _ _) _) _

theorem State.refTaken_clocked (ceiling : Nat) (delay : Int) :
    (s.setEnable r enable).Clocked 3 ((s.refTaken r enable ceiling delay).setPreferred preferred) :=
  .setPreferred (.setTb (.setMon (.refl _) _ _) _) _

theorem refTakenFields_bytes :
    fieldBytes (refTakenFields r enable preferred payload) =
      [if r = .a then 1#8 else 2#8, if enable then 1#8 else 0#8] ++ leBytes 4 (refCeiling payload).value ++
        leSigned 4 (refDelay payload).value ++ [if preferred = .a then 1#8 else 2#8] := by
  cases r <;> cases enable <;> cases preferred <;> rfl

theorem refClamped_eq : refClamped payload = decide (max 10 (min 1000000 (field payload 2 4)) ≠ field payload 2 4 ∨
    max (-100000) (min 100000 (fieldInt payload 6 4)) ≠ fieldInt payload 6 4) := by
  rw [Bool.decide_or]
  rfl

end

/-! ### The three requests -/

theorem tickModeOfCode_of_gt {n : Nat} (h : 2 < n) : tickModeOfCode n = none := by
  obtain ⟨k, rfl⟩ := Nat.exists_eq_add_of_le' (show 3 ≤ n from h)
  rfl

section
variable {s : State} {q : ControlRequest}

theorem refConfig_of_unnamed (h : refOfCode (field q.payload 0 1) = none ∨ 1 < field q.payload 1 1 ∨
    refOfCode (field q.payload 10 1) = none) : refConfig q.payload s = s.says .outOfRange := by
  unfold refConfig
  rcases h with h | h | h
  · rw [h]
  · rw [boolOfCode_of_gt h]
    split
    · next hnone _ => exact absurd hnone (by simp)
    · rfl
  · rw [h]
    split
    · next hnone => exact absurd hnone (by simp)
    · rfl

/-- REF_CONFIG taken (R32, R35, R170). -/
theorem refConfig_taken (h : s.CanTake 0x09 q) {r preferred : Ref} {enable : Bool}
    (href : field q.payload 0 1 = match r with | .a => 1 | .b => 2)
    (henable : field q.payload 1 1 = if enable then 1 else 0)
    (hpreferred : field q.payload 10 1 = match preferred with | .a => 1 | .b => 2) :
    ∃ t, exec .refConfig s = .next t ∧ s.SameBut t [.mon r, .tb, .tlu, .du, .aj, .clu] ∧
      t.tb = (s.beginService.refConfigured r enable preferred q.payload).tb ∧
      t.du = (s.beginService.refConfigured r enable preferred q.payload).du ∧
      t.mon r = { (s.mon r).setEnable enable s.tick with ceiling := (refCeiling q.payload).value } ∧
      t.aj = (s.beginService.refRecorded r enable preferred q.payload).aj ∧
      (s.beginService.refConfigured r enable preferred q.payload).clu.notices <+: t.clu.notices ∧
      s.Replied t q (replyPayload (okStatus (refClamped q.payload))
        [fx 1 (QualState.toCode (t.mon r).state), fx 4 (refCeiling q.payload).value, fs 4 (refDelay q.payload).value,
         fx 1 (Ref.toCode preferred), fx 1 (refCode t.du.selection)]) := by
  have hact := refConfig_of_fields (s := s.beginService) (q := q) href henable hpreferred
  have hrecorded := s.beginService.refRecorded_same r enable preferred q.payload
  have hmon (x : Ref) := State.refConfigured_mon (s := s.beginService) (r := r) (enable := enable)
    (preferred := preferred) x q.payload
  obtain ⟨hpref, _⟩ := State.refConfigured_taken (s := s.beginService) (r := r) (enable := enable)
    (preferred := preferred) (payload := q.payload)
  have hnotices : (s.beginService.refConfigured r enable preferred q.payload).clu.notices <+:
      (s.beginService.refRecorded r enable preferred q.payload).clu.notices := State.submit_notices_prefix _ _
  have hlogged : s.beginService.Logged (s.beginService.refRecorded r enable preferred q.payload) :=
    .configChange (.configureRef (.refl _) _ _ _ _ _) _ _ _ _
  have hframe : s.beginService.SameBut (s.beginService.refRecorded r enable preferred q.payload) refConfigBlocks :=
    (State.configureRef_same _ _ _ _ _ _).trans (hrecorded.mono (by decide))
  generalize s.beginService.refRecorded r enable preferred q.payload = w at hact hrecorded hnotices hlogged hframe ⊢
  have hwmon (x : Ref) := (hrecorded (.mon x) (by simp)).trans (hmon x)
  have hwr : w.mon r = { (s.mon r).setEnable enable s.tick with ceiling := (refCeiling q.payload).value } :=
    (hwmon r).trans (if_pos rfl)
  have hceiling : (w.mon r).ceiling = (refCeiling q.payload).value := by rw [hwr]
  have hwpref : w.du.preferred = preferred := (congrArg Discipline.preferred (hrecorded .du (by decide))).trans hpref
  rw [hceiling, hwpref] at hact
  have hsame : s.beginService.SameBut w [.mon r, .tb, .tlu, .du, .aj, .clu] := by
    intro b hb
    by_cases hmem : b ∈ refConfigBlocks
    · obtain ⟨x, rfl, hx⟩ : ∃ x, b = .mon x ∧ x ≠ r := by
        cases b with
        | mon x => exact ⟨x, rfl, fun he => hb (by simp [he])⟩
        | _ => simp [refConfigBlocks, disciplineBlocks] at hmem hb
      exact (hwmon x).trans (if_neg hx)
    · exact hframe b hmem
  exact ⟨_, live_takeRequest_of_acted h hact, State.answer_same_of_acted hsame (by simp) _,
    hrecorded .tb (by decide), hrecorded .du (by decide), hwr, rfl, hnotices, State.answer_replied_of_logged hlogged _⟩

end

/-- Settles O48: REF_CONFIG by its parts; the other two requests write one block each. -/
theorem refSelectAndNoticeConfig : Obligations.RefSelectAndNoticeConfig := by
  intro s q
  refine ⟨fun h => ⟨fun hnone => live_takeRequest_of_says h .outOfRange [] (refConfig_of_unnamed hnone),
    fun r preferred enable href henable hpreferred => ?_⟩, fun h => ⟨fun hnone => ?_, fun x hx => ⟨fun hout => ?_,
      fun h1 h2 h3 h4 => ?_⟩⟩, fun h => ⟨fun hnone => ?_, fun e mode he hmode => ?_⟩⟩
  · obtain ⟨t, hexec, hsame, htb, hdu, hmon, haj, hnotices, hreplied⟩ := refConfig_taken h href henable hpreferred
    obtain ⟨hpref, hraw, hhwm, hdelayA, hdelayB⟩ := State.refConfigured_taken (s := s.beginService) (r := r)
      (enable := enable) (preferred := preferred) (payload := q.payload)
    have hclocked := State.refConfigured_clocked (s := s.beginService) (r := r) (enable := enable)
      (preferred := preferred) (payload := q.payload)
    rw [refClamped_eq, okStatus_decide] at hreplied
    have hstate (hch : enable = decide ((s.mon r).state = .disabled)) :
        (t.mon r).state = if enable then .candidate else .disabled := by
      rw [hmon, Monitor.setEnable_of_changed enable hch]
    refine ⟨t, hexec, hsame, ?_, hdu ▸ hpref, htb ▸ hraw, htb ▸ hhwm, ?_, fun hk => ?_,
      fun hch => ⟨?_, fun hen hroom => ?_⟩⟩
    · intro ceiling delay clamped
      refine ⟨hreplied, (s.beginService.refConfigured r enable preferred q.payload).aj, hclocked.loses, fun hroom => ?_, ?_⟩
      · refine hclocked.kept ?_
        show s.du.records.length + 6 ≤ 32
        omega
      refine haj.trans ?_
      unfold State.refRecorded
      rw [refTakenFields_bytes, refClamped_eq]
      exact State.admin_aj_congr (s := s.beginService.refConfigured r enable preferred q.payload)
        (t := { s with aj := (s.beginService.refConfigured r enable preferred q.payload).aj }) rfl
        (congrArg₂ max hraw hhwm) _
    · rw [htb]
      cases r
      · exact hdelayA
      · exact hdelayB
    · rw [hmon, Monitor.setEnable_of_same enable hk]
      rfl
    · rw [hmon, Monitor.setEnable_of_changed enable hch]
      rfl
    · have hfirst := State.setEnable_notices (s := s.beginService) r enable hch
      have hthen := (State.refTaken_clocked (s := s.beginService) (r := r) (preferred := preferred) (enable := enable)
        (refCeiling q.payload).value (refDelay q.payload).value).notices
      rw [← State.configureRef_eq] at hthen
      rw [Control.notice_of_room (show s.beginService.clu.enables.admits .ref = true from hen) hroom] at hfirst
      rw [hstate hch]
      have hall := (hfirst.trans hthen).trans hnotices
      cases r <;> exact hall
  · refine live_takeRequest_of_says h .outOfRange [] ?_
    unfold selectConfig
    rw [hnone]
  · refine live_takeRequest_of_says h .outOfRange [] ?_
    unfold selectConfig
    rw [hx]
    refine if_neg fun hin => ?_
    obtain ⟨hfirst, hsecond⟩ := hin
    simp only [Selector.inRange, Bool.and_eq_true, decide_eq_true_eq] at hfirst hsecond
    omega
  · have hin : x.first.inRange = true ∧ x.second.inRange = true := by
      simp only [Selector.inRange, Bool.and_eq_true, decide_eq_true_eq]
      exact ⟨⟨h1, h2⟩, h3, h4⟩
    have hact : selectConfig q.payload s.beginService =
        (State.admin { s.beginService with aj := { s.aj with selectors := x } }
          (.selectorChange s.aj.selectors x)).says .ok := by
      unfold selectConfig
      rw [hx]
      exact if_pos hin
    have haj : s.beginService.SameBut { s.beginService with aj := { s.aj with selectors := x } } [.aj] := by
      intro b hb
      cases b with
      | mon r => cases r <;> rfl
      | aj => exact absurd hb (by decide)
      | _ => rfl
    have hadmin := State.Logged.admin (.refl { s.beginService with aj := { s.aj with selectors := x } })
      (.selectorChange s.aj.selectors x)
    exact ⟨_, live_takeRequest_of_acted h hact,
      State.answer_same_of_acted ((haj.mono (by decide)).trans (State.admin_same _ _)) (by decide) _,
      State.answer_replied_of_sameRequests hadmin.noticed.requests _, hadmin.selectors,
      State.admin_aj_congr (s := { s.beginService with aj := { s.aj with selectors := x } })
        (t := { s with aj := { s.aj with selectors := x } }) rfl rfl _⟩
  · refine live_takeRequest_of_says h .outOfRange [] ?_
    unfold noticeConfig
    rcases hnone with hnone | hnone
    · rw [hnone]
    · rw [tickModeOfCode_of_gt hnone]
      split
      · next hsome => exact absurd hsome (by simp)
      · rfl
  · have hmodeOf : tickModeOfCode (field q.payload 7 1) = some mode := by
      rw [hmode]
      cases mode <;> rfl
    have hact : noticeConfig q.payload s.beginService =
        (s.beginService.setClu { s.beginService.clu with enables := e, tick := mode }).says .ok
          (enableFields e ++ [fx 1 (TickMode.toCode mode), fx 4 s.clu.noticesLost]) := by
      unfold noticeConfig
      rw [he, hmodeOf]
      rfl
    have hanswer := State.beginService_answer (s := { s with clu := { s.clu with enables := e, tick := mode } })
      (kind := 0x1B) (q := q) h
    refine ⟨_, (live_takeRequest_of_acted h hact).trans (congrArg _ (hanswer _)), fun b hb => ?_, rfl, ?_⟩
    · cases b with
      | mon r => cases r <;> rfl
      | clu => exact absurd hb (by decide)
      | _ => rfl
    · cases mode <;> exact ⟨rfl, rfl, rfl⟩

end Sys2Proof.Machine
end


section
/-! A mark report at DU (R33, R34, R39 to R43, R50, R51, R56). -/

namespace Sys2Proof.Machine

/-! ### The report of a completed mark -/

section
variable (s : State) (r : Ref) (msg : TimeMessage) (p : PendingMark)

/-- The monitor that has judged the message, before its step. -/
def State.judgedMon : Monitor := (s.mon r).received.judge msg p.verdict

/-- The reason of the mark. -/
def State.reasonOf : Option Reason := markReason (s.mon r) msg p.verdict

/-- The monitor after the mark. -/
def State.closedMon : Monitor := (s.judgedMon r msg p).close (s.reasonOf r msg p)

/-- The state with the monitor stepped and a change of its state noticed. -/
def State.markSeen : State :=
  if (s.closedMon r msg p).state = (s.mon r).state then s.setMon r (s.closedMon r msg p)
  else (s.setMon r (s.closedMon r msg p)).refChanged r (s.mon r).state (changeCause (s.mon r).state (s.reasonOf r msg p))

/-- The report DU takes. -/
def State.completedReport : MarkReport :=
  markReport r (s.judgedMon r msg p) (s.closedMon r msg p) (completedMark (s.mon r).received msg p)

variable {s r msg p}

theorem State.judgedMon_state : (s.judgedMon r msg p).state = (s.mon r).state :=
  ((s.mon r).received.judge_rest msg p.verdict).1

theorem State.messageArrived_eq (hp : (s.mon r).pendingMark = some p) :
    s.messageArrived r msg = (s.markSeen r msg p).takeReport (s.completedReport r msg p) := by
  have hbefore : (s.setMon r (s.judgedMon r msg p)).mon r = s.judgedMon r msg p := s.setMon_mon r _
  have hset : (s.setMon r (s.judgedMon r msg p)).setMon r (s.closedMon r msg p) = s.setMon r (s.closedMon r msg p) :=
    s.setMon_setMon r _ _
  rw [State.messageArrived_of_pending hp]
  show (s.setMon r (s.judgedMon r msg p)).closeMark r (completedMark (s.mon r).received msg p) = _
  unfold State.closeMark
  rw [hbefore]
  show State.takeReport (if (s.closedMon r msg p).state = (s.judgedMon r msg p).state then
      (s.setMon r (s.judgedMon r msg p)).setMon r (s.closedMon r msg p)
    else ((s.setMon r (s.judgedMon r msg p)).setMon r (s.closedMon r msg p)).refChanged r (s.judgedMon r msg p).state
      (changeCause (s.judgedMon r msg p).state (s.reasonOf r msg p))) _ = _
  rw [hset, State.judgedMon_state]
  rfl

end

/-! ### The report of the disciplining reference -/

/-- The state in which DU has evaluated its selection at a report (R39, R40). -/
def State.reportEvaluated (s : State) (m : MarkReport) : State :=
  match m.cause with
  | some c => s.evaluateReport m.ref m.before m.after c
  | none => s

/-- The state in which DU has followed the offset and the leap memory, and counted the report (R50, R56). -/
def State.followed (s : State) (m : MarkReport) : State := ((s.followOffset m).followLeap m).countReport m

section
variable {s : State} {m : MarkReport}

theorem State.reportEvaluated_selecting : s.Selecting (s.reportEvaluated m) := by
  unfold State.reportEvaluated
  split
  · exact .evaluateReport (.refl s) _ _ _ _
  · exact .refl s

theorem State.takeReport_eq :
    s.takeReport m = State.setDu
      (if (s.reportEvaluated m).du.selection = some m.ref then (s.reportEvaluated m).takeOwnReport m
        else s.reportEvaluated m)
      (Discipline.clearStale (State.du (if (s.reportEvaluated m).du.selection = some m.ref then
        (s.reportEvaluated m).takeOwnReport m else s.reportEvaluated m)) m.ref) := rfl

theorem State.takeReport_of_other (h : (s.reportEvaluated m).du.selection ≠ some m.ref) :
    s.takeReport m = (s.reportEvaluated m).setDu ((s.reportEvaluated m).du.clearStale m.ref) := by
  rw [State.takeReport_eq, if_neg h]

theorem State.takeReport_of_own (h : (s.reportEvaluated m).du.selection = some m.ref) :
    s.takeReport m = ((s.reportEvaluated m).takeOwnReport m).setDu
      (((s.reportEvaluated m).takeOwnReport m).du.clearStale m.ref) := by
  rw [State.takeReport_eq, if_pos h]

theorem State.takeOwnReport_of_used {u : UsedMark} (h : (s.followed m).usedMark m = some u) :
    s.takeOwnReport m = State.anchorMark ((s.followed m).actOnMark u) u s.dating := by
  unfold State.takeOwnReport
  dsimp only
  rw [show (((s.followOffset m).followLeap m).countReport m).usedMark m = some u from h]
  rfl

theorem State.takeOwnReport_of_unused (h : (s.followed m).usedMark m = none) : s.takeOwnReport m = s.followed m := by
  unfold State.takeOwnReport
  dsimp only
  rw [show (((s.followOffset m).followLeap m).countReport m).usedMark m = none from h]
  rfl

/-! ### The offset and the leap memory followed (R50) -/

theorem State.writeOffset_tb (s : State) (o : Int) (c : OffsetCause) :
    (s.writeOffset o c).tb = { s.tb with utcOffset := o } := by
  unfold State.writeOffset
  split
  · next h => rw [← h]
  · exact State.clockRecord_same _ _ .tb (by decide)

theorem State.writeOffset_writes (s : State) (o : Int) (c : OffsetCause) :
    s.Writes (s.writeOffset o c) (if s.tb.utcOffset = o then [] else [s.du.form (.offsetChange s.tb.utcOffset o c)]) := by
  unfold State.writeOffset
  split
  · exact .refl s
  · exact State.Writes.then_record (t := { s with tb := { s.tb with utcOffset := o } }) (.of_same rfl rfl) _

/-- The OFFSET_CHANGE record of a report. -/
def State.offsetRecords (s : State) (m : MarkReport) : List ClockRecord :=
  if m.adopted.getD s.tb.utcOffset = s.tb.utcOffset then []
  else [s.du.form (.offsetChange s.tb.utcOffset (m.adopted.getD s.tb.utcOffset) (if m.justified then .leap else .reference))]

theorem State.followOffset_keeps : s.SameBut (s.followOffset m) [.tb, .du, .aj, .clu] := by
  unfold State.followOffset
  split
  · exact (State.Selecting.writeOffset (.refl s) _ _).same
  · exact .refl s _

theorem State.followOffset_tb : (s.followOffset m).tb = { s.tb with utcOffset := m.adopted.getD s.tb.utcOffset } := by
  unfold State.followOffset
  cases m.adopted with
  | none => rfl
  | some o => exact s.writeOffset_tb _ _

theorem State.followOffset_writes : s.Writes (s.followOffset m) (s.offsetRecords m) := by
  unfold State.followOffset State.offsetRecords
  cases m.adopted with
  | none =>
    rw [Option.getD_none, if_pos rfl]
    exact .refl s
  | some o =>
    rw [Option.getD_some]
    rw [if_congr (eq_comm (a := o)) rfl rfl]
    exact s.writeOffset_writes o _

/-- The LEAP_ANNOUNCED record of a report. -/
def State.leapRecords (s : State) (m : MarkReport) : List ClockRecord :=
  match m.leap with
  | some l =>
    if m.refreshed then [s.du.form (.leapAnnounced l.sign m.ref ((m.fields.map MarkFields.label).getD 0))] else []
  | none => []

theorem State.followLeap_tb : (s.followLeap m).tb = s.tb := by
  unfold State.followLeap
  split
  · rfl
  · split
    · exact State.clockRecord_same _ _ .tb (by decide)
    · rfl

theorem State.followLeap_keeps : s.SameBut (s.followLeap m) [.du, .aj, .clu] := by
  unfold State.followLeap
  split
  · exact (s.setDu_same _).mono (by decide)
  · split
    · exact ((s.setDu_same _).mono (by decide)).trans (State.clockRecord_same _ _)
    · exact .refl s _

theorem State.followLeap_du :
    (s.followLeap m).du = { s.du with
      leap := (s.followLeap m).du.leap, records := (s.followLeap m).du.records } := by
  unfold State.followLeap
  split
  · rfl
  · split
    · rw [State.clockRecord_du]
      rfl
    · rfl

theorem State.followLeap_leap :
    (s.followLeap m).du.leap =
      match m.leap with
      | some l => if m.refreshed then some ⟨l.sign, m.ref⟩ else s.du.leap
      | none => none := by
  unfold State.followLeap
  cases m.leap with
  | none => rfl
  | some l =>
    dsimp only
    split
    · rw [State.clockRecord_du]
      rfl
    · rfl

theorem State.followLeap_writes : s.Writes (s.followLeap m) (s.leapRecords m) := by
  unfold State.followLeap State.leapRecords
  cases m.leap with
  | none => exact .of_same rfl rfl
  | some l =>
    dsimp only
    split
    · exact State.Writes.then_record (t := s.setDu { s.du with leap := some ⟨l.sign, m.ref⟩ }) (.of_same rfl rfl) _
    · exact .refl s

/-! ### The report counted (R56) -/

theorem State.followed_same : s.SameBut (s.followed m) [.tb, .du, .aj, .clu] :=
  (State.followOffset_keeps.trans (State.followLeap_keeps.mono (by decide))).trans ((State.setDu_same _ _).mono (by decide))

theorem State.followed_tb : (s.followed m).tb = { s.tb with utcOffset := m.adopted.getD s.tb.utcOffset } := by
  rw [← State.followOffset_tb]
  exact State.followLeap_tb (s := s.followOffset m)

theorem State.followed_du :
    (s.followed m).du = { s.du with
      leap := (s.followed m).du.leap, stats := (s.followed m).du.stats, records := (s.followed m).du.records } := by
  have hoffset := s.followOffset_logsTo m
  have hleap := State.followLeap_du (s := s.followOffset m) (m := m)
  unfold Discipline.LogsTo at hoffset
  have hdu : ((s.followOffset m).followLeap m).du = { s.du with
      leap := ((s.followOffset m).followLeap m).du.leap, records := ((s.followOffset m).followLeap m).du.records } := by
    rw [hoffset] at hleap
    exact hleap
  exact congrArg (fun x : Discipline => { x with stats := (s.followed m).du.stats }) hdu

theorem State.followed_leap :
    (s.followed m).du.leap =
      match m.leap with
      | some l => if m.refreshed then some ⟨l.sign, m.ref⟩ else s.du.leap
      | none => none := by
  have hoffset : (s.followOffset m).du.leap = s.du.leap := (s.followOffset_logsTo m).twinTo.leap
  rw [← hoffset]
  exact State.followLeap_leap

theorem State.followed_writes : s.Writes (s.followed m) (s.offsetRecords m ++ s.leapRecords m) := by
  have hleap : (s.followOffset m).leapRecords m = s.leapRecords m := by
    unfold State.leapRecords Discipline.form
    rw [(s.followOffset_logsTo m).twinTo.mode, (s.followOffset_logsTo m).twinTo.bound]
  exact (State.followOffset_writes.trans (hleap ▸ State.followLeap_writes)).after rfl rfl

/-- The mark DU uses is the same before and after the offset and the leap memory have been followed. -/
theorem State.usedMark_congr {t : State} (hsel : t.du.selection = s.du.selection)
    (hstale : t.du.stale m.ref = s.du.stale m.ref) (hdelay : t.tb.cableDelay m.ref = s.tb.cableDelay m.ref) :
    t.usedMark m = s.usedMark m := by
  unfold State.usedMark
  rw [hsel, hstale, hdelay]

theorem State.followed_usedMark : (s.followed m).usedMark m = s.usedMark m := by
  refine State.usedMark_congr ?_ ?_ ?_
  · rw [State.followed_du]
  · rw [State.followed_du]
    cases m.ref <;> rfl
  · rw [State.followed_tb]
    cases m.ref <;> rfl

theorem State.followed_stats :
    (s.followed m).du.stats =
      match s.usedMark m with
      | some u => (s.du.stats.count m).use u.e
      | none => s.du.stats.count m := by
  have hoffset := s.followOffset_logsTo m
  have hstats : ((s.followOffset m).followLeap m).du.stats = s.du.stats :=
    (State.followLeap_stats _ m).trans hoffset.twinTo.stats
  have hused : ((s.followOffset m).followLeap m).usedMark m = s.usedMark m := by
    refine (State.usedMark_congr (s := s.followed m) rfl ?_ rfl).trans State.followed_usedMark
    cases m.ref <;> rfl
  show (match ((s.followOffset m).followLeap m).usedMark m with
    | some u => (((s.followOffset m).followLeap m).du.stats.count m).use u.e
    | none => ((s.followOffset m).followLeap m).du.stats.count m) = _
  rw [hused, hstats]

end

end Sys2Proof.Machine
end


section
/-! A completed mark on its way through DU (R33 to R43, R50, R51, R56). -/

namespace Sys2Proof.Machine

/-! ### The selection of Table 3-2 -/

theorem selectFrom_eq (current : Option Ref) (preferred : Ref) (st : Ref → QualState) :
    selectFrom current preferred st =
      if st preferred = .qualified then some preferred
      else if st (otherRef preferred) = .qualified then some (otherRef preferred)
      else if current.map st = some .watch then current
      else if st preferred = .watch then some preferred
      else if st (otherRef preferred) = .watch then some (otherRef preferred)
      else none := by
  unfold selectFrom
  cases current with
  | none => rfl
  | some r => simp only [Option.map_some, Option.some.injEq]

section
variable {s : State} {r : Ref} {before after : QualState} {cause : RefCause}

theorem State.evaluateReport_of_unselected (h : s.selected = s.du.selection) (hr : s.du.selection ≠ some r) :
    s.evaluateReport r before after cause = s := by
  rw [State.evaluateReport, if_pos h, if_neg hr]

theorem State.evaluateReport_of_own (h : s.selected = s.du.selection) (hr : s.du.selection = some r) :
    s.evaluateReport r before after cause =
      s.clockRecord (.refSwitch (some r) (some r) (some before) (some after) (.report r cause)) := by
  rw [State.evaluateReport, if_pos h, if_pos hr]

theorem State.evaluateReport_of_switch (h : s.selected ≠ s.du.selection) :
    s.evaluateReport r before after cause = s.switchTo s.selected (.report r cause) := by
  rw [State.evaluateReport, if_neg h]

end

/-! ### The completed mark -/

section
variable {s : State} {r : Ref} {msg : TimeMessage} {p : PendingMark}

theorem State.closedMon_state : (s.closedMon r msg p).state = ((s.mon r).step (s.reasonOf r msg p)).state := by
  obtain ⟨hstate, hscore, hgood, hrec, _⟩ := (s.mon r).received.judge_rest msg p.verdict
  exact (Monitor.step_congr (m := s.mon r) (n := s.judgedMon r msg p) hstate hscore hgood hrec _).1

theorem State.messageArrived_mon (hp : (s.mon r).pendingMark = some p) :
    (s.messageArrived r msg).mon r = s.closedMon r msg p := by
  rw [State.messageArrived_of_pending hp, State.closeMark_mon, State.setMon_mon]
  rfl

theorem State.markSeen_same : s.SameBut (s.markSeen r msg p) [.mon r, .clu] := by
  unfold State.markSeen
  split
  · exact (s.setMon_same r _).mono (by simp)
  · exact ((s.setMon_same r _).mono (by simp)).trans ((State.notice_same _ _ _).mono (by simp))

theorem State.markSeen_mon (x : Ref) :
    (s.markSeen r msg p).mon x = if x = r then s.closedMon r msg p else s.mon x := by
  have hset : (s.setMon r (s.closedMon r msg p)).mon x = if x = r then s.closedMon r msg p else s.mon x := by
    split
    · next h => rw [h, State.setMon_mon]
    · next h => exact s.setMon_mon_other _ _ _ h
  unfold State.markSeen
  split
  · exact hset
  · exact (State.notice_same _ _ _ (.mon x) (by simp)).trans hset

theorem State.markSeen_du : (s.markSeen r msg p).du = s.du := State.markSeen_same .du (by simp)

theorem State.markSeen_tb : (s.markSeen r msg p).tb = s.tb := State.markSeen_same .tb (by simp)

theorem State.markSeen_of_kept (h : (s.closedMon r msg p).state = (s.mon r).state) :
    s.markSeen r msg p = s.setMon r (s.closedMon r msg p) := if_pos h

theorem State.markSeen_of_changed (h : (s.closedMon r msg p).state ≠ (s.mon r).state) :
    s.markSeen r msg p = (s.setMon r (s.closedMon r msg p)).notice .ref
      (refNotice r (s.mon r).state (s.closedMon r msg p).state (s.closedMon r msg p).score
        (changeCause (s.mon r).state (s.reasonOf r msg p)) s.dating) := by
  have hd : (s.setMon r (s.closedMon r msg p)).dating = s.dating :=
    congrArg TimeBase.dating (s.setMon_same r (s.closedMon r msg p) .tb (by simp))
  rw [State.markSeen, if_neg h, State.refChanged, State.setMon_mon, hd]

theorem State.reportEvaluated_of_kept (h : (s.closedMon r msg p).state = (s.mon r).state) :
    (s.markSeen r msg p).reportEvaluated (s.completedReport r msg p) = s.markSeen r msg p := by
  have hcause : (s.completedReport r msg p).cause = none := if_pos (h.trans State.judgedMon_state.symm)
  rw [State.reportEvaluated, hcause]

theorem State.reportEvaluated_of_changed (h : (s.closedMon r msg p).state ≠ (s.mon r).state) :
    (s.markSeen r msg p).reportEvaluated (s.completedReport r msg p) =
      (s.markSeen r msg p).evaluateReport r (s.mon r).state (s.closedMon r msg p).state
        (changeCause (s.mon r).state (s.reasonOf r msg p)) := by
  have hcause : (s.completedReport r msg p).cause = some (changeCause (s.mon r).state (s.reasonOf r msg p)) := by
    rw [← State.judgedMon_state (s := s) (r := r) (msg := msg) (p := p)] at h ⊢
    exact if_neg h
  rw [State.reportEvaluated, hcause, ← State.judgedMon_state (s := s) (r := r) (msg := msg) (p := p)]
  rfl

/-! ### The adopted offset and the leap memory in the report -/

/-- A step that keeps an adopted offset or a leap memory keeps the judged one. -/
theorem State.closedMon_memory :
    (∀ o, (s.closedMon r msg p).adopted = some o → (s.judgedMon r msg p).adopted = some o) ∧
      ∀ l, (s.closedMon r msg p).leap = some l → (s.judgedMon r msg p).leap = some l := by
  obtain ⟨hkept, hcleared⟩ := (s.judgedMon r msg p).close_memory (s.reasonOf r msg p)
  by_cases hk : ((s.judgedMon r msg p).step (s.reasonOf r msg p)).state ≠ .excluded ∨
      (s.judgedMon r msg p).state = .excluded
  · obtain ⟨_, hadopted, hleap⟩ := hkept hk
    exact ⟨fun o ho => hadopted ▸ ho, fun l hl => hleap ▸ hl⟩
  · rw [not_or, not_not] at hk
    obtain ⟨_, hadopted, hleap⟩ := hcleared hk.1 hk.2
    exact ⟨fun o ho => absurd (hadopted.symm.trans ho) (by simp), fun l hl => absurd (hleap.symm.trans hl) (by simp)⟩

/-- R27: a mark adopts a change exactly when the offset it leaves differs from one adopted before. -/
theorem State.completedReport_justified {o : Int} (h : (s.closedMon r msg p).adopted = some o) :
    (s.completedReport r msg p).justified = true ↔ (s.mon r).adopted ≠ none ∧ some o ≠ (s.mon r).adopted := by
  have ho := State.closedMon_memory.1 o h
  have hjust : (s.completedReport r msg p).justified = (msg.checkOk && adoptsChange (s.mon r).received msg p.verdict) := rfl
  rw [hjust, Bool.and_eq_true, adoptsChange_iff]
  cases hcheck : msg.checkOk with
  | false =>
    have hsame : (s.mon r).adopted = some o := ((s.mon r).received.judge_adopted_of_bad hcheck p.verdict).symm.trans ho
    simp [hsame]
  | true =>
    have hafter := ((s.mon r).received.judge_adopted_of_ok hcheck p.verdict).symm.trans ho
    cases ha : (s.mon r).received.adopted with
    | none => simp [show (s.mon r).adopted = none from ha]
    | some a =>
      have ha' : (s.mon r).adopted = some a := ha
      rw [adoptedAfter_of_some ha] at hafter
      rw [ha']
      by_cases hc : markReason (s.mon r).received msg p.verdict = none ∧ msg.utcOffset ≠ a
      · rw [if_pos hc] at hafter
        simp only [Option.some.injEq] at hafter
        subst hafter
        simp [hc.1, hc.2, Ne.symm hc.2]
      · rw [if_neg hc] at hafter
        simp only [Option.some.injEq] at hafter
        subst hafter
        simp only [true_and, ne_eq, not_true_eq_false, and_false, iff_false, Option.some.injEq, not_and, not_not]
        intro hreason _
        by_contra hne
        exact hc ⟨hreason, fun h => hne h.symm⟩

/-- R26: a memory that holds a leap after the mark is refreshed by it exactly when it held none before. -/
theorem State.completedReport_refreshed {l : LeapMemory} (h : (s.closedMon r msg p).leap = some l) :
    (s.completedReport r msg p).refreshed = true ↔ (s.mon r).leap = none := by
  have hl := State.closedMon_memory.2 l h
  have hrefreshed : (s.completedReport r msg p).refreshed =
      (msg.checkOk && (s.mon r).leap.isNone && (leapAfter (s.mon r).received msg p.verdict).isSome) := rfl
  have hjudged : (s.judgedMon r msg p).leap =
      if msg.checkOk then leapAfter (s.mon r).received msg p.verdict else countDown (s.mon r).leap := by
    unfold State.judgedMon Monitor.judge
    dsimp only
    split <;> rfl
  rw [hrefreshed]
  rw [hjudged] at hl
  cases hcheck : msg.checkOk with
  | false =>
    rw [hcheck] at hl
    cases hleap : (s.mon r).leap with
    | none =>
      rw [hleap] at hl
      exact absurd hl (by simp [countDown])
    | some _ => simp
  | true =>
    rw [hcheck, if_pos rfl] at hl
    simp [hl]

/-! ### The mark DU uses -/

theorem markReason_checkOk {m : Monitor} {msg : TimeMessage} {v : Verdict} (h : markReason m msg v = none) :
    msg.checkOk = true := by
  unfold markReason at h
  split at h
  · assumption
  · exact absurd h (by simp)

/-- R43: a good mark of the reference that disciplines, not stale, is used. -/
theorem State.usedMark_of_good {u : State} (hreason : s.reasonOf r msg p = none) (hsel : u.du.selection = some r)
    (hstale : u.du.stale r = false) :
    u.usedMark (s.completedReport r msg p) =
      some ⟨r, phaseError p.raw msg.label (u.tb.cableDelay r), msg.uncertainty, (s.closedMon r msg p).state⟩ := by
  have hfields : (s.completedReport r msg p).fields = some ⟨msg.label, msg.utcOffset, msg.uncertainty,
      (decodeMarkCode msg.code).corrected, (decodeMarkCode msg.code).flags⟩ := if_pos (markReason_checkOk hreason)
  have hgood : (s.completedReport r msg p).reason = none := hreason
  unfold State.usedMark
  rw [hfields, hgood]
  exact if_pos ⟨hsel, hstale⟩

theorem State.usedMark_of_not {u : State} (h : s.reasonOf r msg p ≠ none ∨ u.du.stale r = true) :
    u.usedMark (s.completedReport r msg p) = none := by
  unfold State.usedMark
  split
  · next hreason _ _ =>
    refine if_neg fun hc => ?_
    rcases h with h | h
    · exact h hreason
    · exact absurd (hc.2.symm.trans h) (by decide)
  · rfl

end

end Sys2Proof.Machine
end


section
/-! The two statements about a completed mark at DU. -/

namespace Sys2Proof.Machine

theorem least_int_eq (x : Option Int) (v : Int) : least x v = some (min v (x.getD v)) := by
  cases x with
  | none => simp [least]
  | some w => simp only [least, Option.getD_some, Int.min_def]; split_ifs <;> first | rfl | (congr 1; omega)

theorem greatest_int_eq (x : Option Int) (v : Int) : greatest x v = some (max v (x.getD v)) := by
  cases x with
  | none => simp [greatest]
  | some w => simp only [greatest, Option.getD_some, Int.max_def]

section
variable {s : State} {r : Ref} {msg : TimeMessage} {p : PendingMark}

/-- Table 3-5: the report counted, but for the used marks. -/
theorem State.completedReport_count (x : Statistics) :
    x.count (s.completedReport r msg p) = { x with
      completed := bump x.completed
      bad := if s.reasonOf r msg p = none then x.bad else bump x.bad
      corrected := if msg.checkOk && (decodeMarkCode msg.code).corrected then bump x.corrected else x.corrected
      minTicks := (x.count (s.completedReport r msg p)).minTicks
      maxTicks := (x.count (s.completedReport r msg p)).maxTicks } := by
  have hbad : (x.count (s.completedReport r msg p)).bad = if s.reasonOf r msg p = none then x.bad else bump x.bad := by
    show (if (s.reasonOf r msg p).isSome then bump x.bad else x.bad) = _
    cases s.reasonOf r msg p <;> rfl
  have hcorrected : (x.count (s.completedReport r msg p)).corrected =
      if msg.checkOk && (decodeMarkCode msg.code).corrected then bump x.corrected else x.corrected := by
    have hfields : (s.completedReport r msg p).fields = if msg.checkOk then some ⟨msg.label, msg.utcOffset,
      msg.uncertainty, (decodeMarkCode msg.code).corrected, (decodeMarkCode msg.code).flags⟩ else none := rfl
    unfold Statistics.count
    rw [hfields]
    cases msg.checkOk <;> rfl
  rw [← hbad, ← hcorrected]
  rfl

theorem State.completedReport_ticks (x : Statistics) :
    (x.count (s.completedReport r msg p)).minTicks =
        (match p.ticks with | none => x.minTicks | some k => some (min k (x.minTicks.getD k))) ∧
      (x.count (s.completedReport r msg p)).maxTicks =
        (match p.ticks with | none => x.maxTicks | some k => some (max k (x.maxTicks.getD k))) := by
  have hticks : (s.completedReport r msg p).ticks = p.ticks := rfl
  unfold Statistics.count
  rw [hticks]
  cases p.ticks with
  | none => exact ⟨rfl, rfl⟩
  | some k => exact ⟨least_eq _ _, greatest_eq _ _⟩

end

section
variable {s : State} {m : MarkReport} {l : LeapMemory}

theorem State.leapRecords_of_none (h : m.leap = none) : s.leapRecords m = [] := by
  rw [State.leapRecords, h]

theorem State.leapRecords_of_kept (h : m.leap = some l) (hr : m.refreshed = false) : s.leapRecords m = [] := by
  rw [State.leapRecords, h]
  exact if_neg (by simp [hr])

theorem State.leapRecords_of_refreshed (h : m.leap = some l) (hr : m.refreshed = true) :
    s.leapRecords m = [s.du.form (.leapAnnounced l.sign m.ref ((m.fields.map MarkFields.label).getD 0))] := by
  rw [State.leapRecords, h]
  exact if_pos hr

end

/-- A mark that refreshes the leap memory carries its label. -/
theorem State.completedReport_label {s : State} {r : Ref} {msg : TimeMessage} {p : PendingMark}
    (h : (s.completedReport r msg p).refreshed = true) :
    ((s.completedReport r msg p).fields.map MarkFields.label).getD 0 = msg.label := by
  have hrefreshed : (s.completedReport r msg p).refreshed =
      (msg.checkOk && (s.mon r).leap.isNone && (leapAfter (s.mon r).received msg p.verdict).isSome) := rfl
  have hcheck : msg.checkOk = true := by
    rw [hrefreshed, Bool.and_eq_true, Bool.and_eq_true] at h
    exact h.1.1
  have hfields : (s.completedReport r msg p).fields = some ⟨msg.label, msg.utcOffset, msg.uncertainty,
      (decodeMarkCode msg.code).corrected, (decodeMarkCode msg.code).flags⟩ := if_pos hcheck
  rw [hfields]
  rfl

theorem anchorBound_eq (e : Int) (stepped : Bool) (u : Nat) (st : QualState) :
    anchorBound e stepped u st =
      min 4294967295 ((if stepped then 0 else e.natAbs) + (if st = .qualified then u else min 4294967295 (2 * u)) + 8) := by
  unfold anchorBound sat32
  rw [Nat.min_comm, Nat.min_comm (2 * u)]
  rfl

/-- Settles O21: the selection, the offset and the leap memory, the count and the action, each by its lemma. -/
theorem marksReachTheDisciplineUnit : Obligations.MarksReachTheDisciplineUnit := by
  intro s r bytes msg p hrun hen hp htake m reason now st first second old selected cause unstale
  obtain ⟨rep, hrep⟩ : ∃ rep, rep = s.completedReport r msg p := ⟨_, rfl⟩
  obtain ⟨seen0, hseen0⟩ : ∃ u, u = s.markSeen r msg p := ⟨_, rfl⟩
  have hexec : exec (.timeMessage r bytes) s = .next (s.messageArrived r msg) := by
    refine (live_of_running hrun _).trans (congrArg _ ?_)
    rw [timeMessage_of_enabled hen, htake]
  have harrived := State.messageArrived_eq hp (msg := msg)
  have hmon := State.messageArrived_mon hp (msg := msg)
  have hnow : (s.closedMon r msg p).state = now := State.closedMon_state
  have hcause : changeCause (s.mon r).state (s.reasonOf r msg p) = cause := by
    show changeCause m.state reason = cause
    simp only [cause, changeCause]
    cases reason with
    | some x => rfl
    | none => cases m.state <;> rfl
  have hseendu : seen0.du = s.du := hseen0 ▸ State.markSeen_du
  have hseentb : seen0.tb = s.tb := hseen0 ▸ State.markSeen_tb
  have hst : (fun x => (seen0.mon x).state) = st := by
    funext x
    rw [hseen0, State.markSeen_mon]
    simp only [st]
    split
    · exact hnow
    · rfl
  rw [← hseen0, ← hrep] at harrived
  obtain ⟨s0, hs0⟩ : ∃ u, u = seen0.reportEvaluated rep := ⟨_, rfl⟩
  have hselecting : seen0.Selecting s0 := hs0 ▸ State.reportEvaluated_selecting
  refine ⟨s.messageArrived r msg, s0, hexec, s.messageArrived_same r msg, ?_, fun hother => ?_, fun hown => ?_⟩
  · intro base seen switched lost rate hold
    have hbase : base = s.setMon r (s.closedMon r msg p) := by simp only [base, hmon]
    have hkeptState : (s.closedMon r msg p).state = (s.mon r).state ↔ now = m.state := by rw [hnow]
    have hseen : seen = seen0 := by
      rw [hseen0]
      by_cases hk : now = m.state
      · rw [State.markSeen_of_kept (hkeptState.mpr hk), ← hbase]
        exact if_pos hk
      · rw [State.markSeen_of_changed (fun h => hk (hkeptState.mp h)), ← hbase, hcause, hnow, ← hmon]
        exact if_neg hk
    have hbasemon (x : Ref) : base.mon x = seen0.mon x := by
      rw [hseen0, State.markSeen_mon, hbase]
      split
      · next h => rw [h, State.setMon_mon]
      · next h => exact s.setMon_mon_other _ _ _ h
    by_cases hk : now = m.state
    · rw [if_pos (.inl hk), hseen, hs0, hrep, hseen0, State.reportEvaluated_of_kept (hkeptState.mpr hk)]
    have hsecond : second = otherRef first := by simp only [second]; cases first <;> rfl
    have hselected : seen0.selected = selected := by
      unfold State.selected
      rw [hst, hseendu, selectFrom_eq]
      simp only [selected, if_neg hk, hsecond]
      rfl
    have hevaluated : s0 = seen0.evaluateReport r m.state now cause := by
      rw [hs0, hrep, hseen0, State.reportEvaluated_of_changed (fun h => hk (hkeptState.mp h)), hcause, hnow]
    have hold' : seen0.du.selection = old := by rw [hseendu]
    by_cases hsame : selected = old
    · by_cases hr : old = some r
      · rw [if_neg (by tauto), if_pos hsame, hseen, hevaluated, State.evaluateReport_of_own
          (hselected.trans (hsame.trans hold'.symm)) (hold'.trans hr), hr]
      · rw [if_pos (.inr ⟨hsame, hr⟩), hseen, hevaluated, State.evaluateReport_of_unselected
          (hselected.trans (hsame.trans hold'.symm)) (by rw [hold']; exact hr)]
    · rw [if_neg (by tauto), if_neg hsame, hevaluated, State.evaluateReport_of_switch
        (by rw [hselected, hold']; exact hsame), hselected]
      have hswitched : switched = seen0.switched selected (.report r cause) := by
        simp only [switched, hseen]
        unfold State.switched
        rw [hseendu, hst]
      have hlost : selected = none → lost = seen0.unselected (.report r cause) := fun hnone => by
        simp only [lost, hswitched, hnone]
        rfl
      have hmode : seen0.du.mode = s.du.mode := by rw [hseendu]
      have hintegral : seen0.du.integral = s.du.integral := by rw [hseendu]
      have hlast : seen0.du.lastSlew = s.du.lastSlew := by rw [hseendu]
      cases hn : selected with
      | some n =>
        rw [hn] at hswitched
        rw [State.switchTo_some, hseentb, ← hbasemon, ← hswitched]
      | none =>
        have hlost := hlost hn
        cases hm : s.du.mode with
        | unset => rw [seen0.switchTo_none_of_unset _ (hmode.trans hm), ← hlost]
        | slewing =>
          rw [seen0.switchTo_none_of_slewing _ (hmode.trans hm), hmode, hintegral, hlast, ← hlost, hm]
          simp only [hold, hm]
          rfl
        | locked =>
          rw [seen0.switchTo_none_of_disciplined _ (.inl (hmode.trans hm)), hmode, hintegral, ← hlost, hm]
          simp only [hold, hm]
          rfl
        | holdover =>
          rw [seen0.switchTo_none_of_disciplined _ (.inr (hmode.trans hm)), hmode, hintegral, ← hlost, hm]
          simp only [hold, hm]
          rfl
  · rw [harrived, State.takeReport_of_other (by rw [← hs0, hrep]; exact hother), ← hs0]
    rw [hrep]
    cases r <;> rfl
  · have hrepAdopted : rep.adopted = ((s.messageArrived r msg).mon r).adopted := by rw [hmon, hrep]; rfl
    have hrepLeap : rep.leap = ((s.messageArrived r msg).mon r).leap := by rw [hmon, hrep]; rfl
    have hrepRef : rep.ref = r := by rw [hrep]; rfl
    refine ⟨s0.followed rep, State.followed_same, ?_, ?_⟩
    · intro adopted leap offset justified
      have hoffset : rep.adopted.getD s0.tb.utcOffset = offset := by rw [hrepAdopted]
      have hjust (hne : offset ≠ s0.tb.utcOffset) : rep.justified = true ↔ justified := by
        cases ha : adopted with
        | none => exact absurd (by simp only [offset, ha, Option.getD_none]) hne
        | some o =>
          rw [hrep]
          have := State.completedReport_justified (s := s) (r := r) (msg := msg) (p := p) (o := o) (by rw [← hmon]; exact ha)
          simp only [justified, ha]
          exact this
      have hrefresh (l : LeapMemory) (hl : leap = some l) : rep.refreshed = true ↔ m.leap = none := by
        rw [hrep]
        exact State.completedReport_refreshed (by rw [← hmon]; exact hl)
      have hlabel (l : LeapMemory) (hl : leap = some l) (hnone : m.leap = none) :
          (rep.fields.map MarkFields.label).getD 0 = msg.label := by
        have hfresh := (hrefresh l hl).mpr hnone
        rw [hrep] at hfresh ⊢
        exact State.completedReport_label hfresh
      refine ⟨?_, State.followed_du, fun hnone => ?_, fun l hl => ?_, fun hroom => ?_⟩
      · rw [State.followed_tb, hoffset]
      · rw [State.followed_leap, hrepLeap, show ((s.messageArrived r msg).mon r).leap = none from hnone]
      · rw [State.followed_leap, hrepLeap, show ((s.messageArrived r msg).mon r).leap = some l from hl, hrepRef]
        exact if_congr (hrefresh l hl) rfl rfl
      · have hwrites := State.followed_writes (s := s0) (m := rep)
        have hoffsets : s0.offsetRecords rep = if offset = s0.tb.utcOffset then []
            else [⟨.offsetChange s0.tb.utcOffset offset (if justified then .leap else .reference), s0.du.mode,
              s0.du.bound⟩] := by
          unfold State.offsetRecords
          rw [hoffset]
          split
          · rfl
          · next hne => rw [if_congr (hjust hne) rfl rfl]; rfl
        have hfew : (s0.offsetRecords rep ++ s0.leapRecords rep).length ≤ 2 := by
          have h1 : (s0.offsetRecords rep).length ≤ 1 := by rw [hoffsets]; split <;> simp
          have h2 : (s0.leapRecords rep).length ≤ 1 := by unfold State.leapRecords; split <;> [split <;> simp; simp]
          rw [List.length_append]
          omega
        obtain ⟨haj, hrecords⟩ := hwrites (by omega)
        rw [hoffsets, ← List.append_assoc] at hrecords
        refine ⟨haj, hrecords.trans (congrArg _ ?_)⟩
        cases hl : leap with
        | none =>
          rw [State.leapRecords_of_none (hrepLeap.trans hl)]
          cases m.leap <;> rfl
        | some l =>
          cases hml : m.leap with
          | none =>
            rw [State.leapRecords_of_refreshed (hrepLeap.trans hl) ((hrefresh l hl).mpr hml), hlabel l hl hml, hrepRef]
            rfl
          | some _ =>
            refine State.leapRecords_of_kept (hrepLeap.trans hl) ?_
            rw [← Bool.not_eq_true, hrefresh l hl, hml]
            simp
    · intro used e a u bound x corrected
      have hstale : s0.du.stale r = s.du.stale r := (hselecting.stale r).trans (by rw [hseendu])
      have hdelay : s0.tb.cableDelay r = s.tb.cableDelay r := (hselecting.cableDelay r).trans (by rw [hseentb])
      have hdating : s0.dating = s.dating := hselecting.dating.trans (congrArg TimeBase.dating hseentb)
      have hstats : s0.du.stats = x := hselecting.stats.trans (by rw [hseendu])
      have hreport : s.messageArrived r msg =
          (s0.takeOwnReport rep).setDu ((s0.takeOwnReport rep).du.clearStale r) := by
        rw [harrived, State.takeReport_of_own (by rw [← hs0, hrepRef]; exact hown), ← hs0, hrepRef]
      have hunstale (y : State) : y.setDu (y.du.clearStale r) = unstale y := by cases r <;> rfl
      rw [hunstale] at hreport
      have hcount := State.completedReport_count (s := s) (r := r) (msg := msg) (p := p) x
      obtain ⟨hmin, hmax⟩ := State.completedReport_ticks (s := s) (r := r) (msg := msg) (p := p) x
      rw [hmin, hmax, ← hrep] at hcount
      by_cases hu : used
      · have hmark : s0.usedMark rep = some ⟨r, e, msg.uncertainty, now⟩ := by
          rw [hrep, State.usedMark_of_good hu.1 hown (hstale.trans hu.2), hdelay, hnow]
          rfl
        refine ⟨?_, ?_⟩
        · rw [State.followed_stats, hmark, hstats]
          dsimp only
          rw [hcount]
          simp only [if_pos hu, Statistics.use, least_int_eq, greatest_int_eq]
          rfl
        · rw [hreport, State.takeOwnReport_of_used (State.followed_usedMark.trans hmark), if_pos hu, hdating,
            State.anchorMark, anchorBound_eq]
      · have hmark : s0.usedMark rep = none := by
          rw [hrep]
          refine State.usedMark_of_not ?_
          by_cases hreason : s.reasonOf r msg p = none
          · exact .inr (by rw [hstale, ← Bool.not_eq_false]; exact fun h => hu ⟨hreason, h⟩)
          · exact .inl hreason
        refine ⟨?_, ?_⟩
        · rw [State.followed_stats, hmark, hstats]
          dsimp only
          rw [hcount]
          simp only [if_neg hu]
          rfl
        · rw [hreport, State.takeOwnReport_of_unused (State.followed_usedMark.trans hmark), if_neg hu]

end Sys2Proof.Machine
end


section
/-! A servo update (R42 to R45, R51). -/

namespace Sys2Proof.Machine

section
variable {s : State} {r : Ref} {msg : TimeMessage} {p : PendingMark} {o : Int} {f : MarkFlags} {corrected : Bool}

/-- A good mark of a reference that keeps QUALIFIED, or WATCH. -/
theorem State.closedMon_kept (hreason : s.reasonOf r msg p = none)
    (hst : (s.mon r).state = .qualified ∨ (s.mon r).state = .watch ∧ 32 ≤ (s.mon r).score - 1) :
    (s.closedMon r msg p).state = (s.mon r).state := by
  rw [State.closedMon_state, hreason]
  rcases hst with hq | ⟨hw, hscore⟩
  · rw [Monitor.step_none_of_scored (by tauto)]
    exact (Monitor.goodStep_state_of_qualified hq).trans hq.symm
  · rw [Monitor.step_none_of_scored (by tauto), Monitor.goodStep_state_of_watch hw, hw, stateOfScore]
    exact if_neg (by have := hscore; exact Nat.not_lt.mpr this)

/-- A mark that carries the adopted offset without a leap leaves both. -/
theorem State.judgedMon_plain (hreason : s.reasonOf r msg p = none) (hcode : decodeMarkCode msg.code = .valid f corrected)
    (hf : f.leap = false) (hleap : (s.mon r).leap = none) (ha : (s.mon r).adopted = some o) (ho : msg.utcOffset = o) :
    (s.judgedMon r msg p).adopted = some o ∧ (s.judgedMon r msg p).leap = none := by
  have hcheck := markReason_checkOk hreason
  have ha' : (s.mon r).received.adopted = some o := ha
  constructor
  · refine ((s.mon r).received.judge_adopted_of_ok hcheck p.verdict).trans ((adoptedAfter_of_some ha' _).trans ?_)
    exact if_neg fun h => h.2 ho
  · refine ((s.mon r).received.judge_leap msg p.verdict).trans ?_
    rw [hcheck, if_neg (by decide), ha', ho, if_neg (by tauto), hcode]
    dsimp only
    rw [hf]
    show countDown (s.mon r).leap = none
    rw [hleap]
    rfl

theorem State.closedMon_plain (hkept : (s.closedMon r msg p).state = (s.mon r).state) (hne : (s.mon r).state ≠ .excluded) :
    (s.closedMon r msg p).adopted = (s.judgedMon r msg p).adopted ∧
      (s.closedMon r msg p).leap = (s.judgedMon r msg p).leap := by
  obtain ⟨_, hadopted, hleap⟩ := ((s.judgedMon r msg p).close_memory (s.reasonOf r msg p)).1
    (.inl fun h => hne (hkept.symm.trans h))
  exact ⟨hadopted, hleap⟩

end

/-- A report that brings the offset in force and no leap is only counted. -/
theorem State.followed_plain {s : State} {m : MarkReport} (ha : m.adopted = some s.tb.utcOffset) (hl : m.leap = none) :
    s.followed m = s.setDu { s.du with leap := none, stats := (s.followed m).du.stats } := by
  have hoffset : s.followOffset m = s := by
    unfold State.followOffset
    rw [ha]
    exact if_pos rfl
  have hleap : s.followLeap m = s.setDu { s.du with leap := none } := by
    unfold State.followLeap
    rw [hl]
  have hfollowed : s.followed m = (s.setDu { s.du with leap := none }).countReport m := by
    unfold State.followed
    rw [hoffset, hleap]
  rw [hfollowed]
  rfl

theorem Discipline.clearStale_of_clear {x : Discipline} {r : Ref} (h : x.stale r = false) : x.clearStale r = x := by
  cases r
  · show { x with staleA := false } = x
    rw [← show x.staleA = false from h]
  · show { x with staleB := false } = x
    rw [← show x.staleB = false from h]

/-! ### LOCKED by a servo update -/

section
variable {s : State} {m : UsedMark}

theorem State.servoLocked_of_locked (h : s.du.mode = .locked) :
    s.servoLocked m = (s.servo m.e).setDu { (s.servo m.e).du with mode := .locked } := by
  unfold State.servoLocked
  rw [h]
  rfl

/-- From HOLDOVER with room in the list, the ACQUIRED record joins it with its notice (R44, R59). -/
theorem State.servoLocked_of_holdover (h : s.du.mode = .holdover) (hroom : s.du.records.length < 32) :
    (s.servoLocked m).aj = s.aj ∧
      (s.servoLocked m).du.records =
        s.du.records ++ [⟨.acquired .holdover m.ref m.e m.u m.state, .locked, s.du.bound⟩] ∧
      (s.servoLocked m).clu = s.clu.notice .clock (clockNotice
        ⟨.acquired .holdover m.ref m.e m.u m.state, .locked, s.du.bound⟩ s.du.trace s.dating) := by
  have hlocked : s.servoLocked m = ((s.servo m.e).setDu { (s.servo m.e).du with mode := .locked }).clockRecord
      (.acquired .holdover m.ref m.e m.u m.state) := by
    unfold State.servoLocked
    rw [h]
    rfl
  have hwrites := s.servoLocked_writes m
  rw [h] at hwrites
  obtain ⟨haj, hrecords⟩ := hwrites hroom
  refine ⟨haj, hrecords, ?_⟩
  obtain ⟨x, hx⟩ : ∃ x, x = (s.servo m.e).setDu { (s.servo m.e).du with mode := .locked } := ⟨_, rfl⟩
  have hlost : x.clockLost = x := by
    unfold State.clockLost
    rw [if_neg]
    rw [hx]
    exact Nat.not_le.mpr hroom
  rw [hlocked, ← hx, State.clockRecord, State.clockRecordAt_clu, hlost, hx]
  rfl

end

/-- Settles O20: the mark is counted, used and served. -/
theorem aGoodMarkMakesAServoUpdate : Obligations.AGoodMarkMakesAServoUpdate := by
  intro s r bytes msg p o f corrected hrun hst hp htake hreason hcode hf hleap ha ho hutc hsel hstale hmode st e hth i
    rate u
  have hen : (s.mon r).state ≠ .disabled := by rcases hst with h | h <;> simp [h]
  have hne : (s.mon r).state ≠ .excluded := by rcases hst with h | h <;> simp [h]
  have hexec : exec (.timeMessage r bytes) s = .next (s.messageArrived r msg) := by
    refine (live_of_running hrun _).trans (congrArg _ ?_)
    rw [timeMessage_of_enabled hen, htake]
  have hkept := State.closedMon_kept (s := s) (r := r) (msg := msg) (p := p) hreason hst
  obtain ⟨hjudgedA, hjudgedL⟩ := State.judgedMon_plain (s := s) (r := r) (msg := msg) (p := p) hreason hcode hf hleap ha ho
  obtain ⟨hclosedA, hclosedL⟩ := State.closedMon_plain (s := s) (r := r) (msg := msg) (p := p) hkept hne
  obtain ⟨x, hx⟩ : ∃ x, x = s.markSeen r msg p := ⟨_, rfl⟩
  obtain ⟨rep, hrep⟩ : ∃ rep, rep = s.completedReport r msg p := ⟨_, rfl⟩
  have hxsame : s.SameBut x [.mon r] := by
    rw [hx, State.markSeen_of_kept hkept]
    exact s.setMon_same r _
  have hxdu : x.du = s.du := hxsame .du (by simp)
  have hxtb : x.tb = s.tb := hxsame .tb (by simp)
  have hevaluated : x.reportEvaluated rep = x := by rw [hx, hrep, State.reportEvaluated_of_kept hkept]
  have hrepRef : rep.ref = r := hrep ▸ rfl
  have hfollowed : x.followed rep = x.setDu { x.du with leap := none, stats := (x.followed rep).du.stats } := by
    refine State.followed_plain ?_ ?_
    · rw [hrep, hxtb, hutc]
      exact hclosedA.trans hjudgedA
    · rw [hrep]
      exact hclosedL.trans hjudgedL
  have hmark : x.usedMark rep = some ⟨r, e, msg.uncertainty, st⟩ := by
    rw [hrep, State.usedMark_of_good hreason (hxdu ▸ hsel) (hxdu ▸ hstale), hxtb, hkept]
    rfl
  have hstats := State.followed_stats (s := x) (m := rep)
  rw [hmark] at hstats
  have hcount := State.completedReport_count (s := s) (r := r) (msg := msg) (p := p) s.du.stats
  rw [← hrep, if_pos (show s.reasonOf r msg p = none from hreason)] at hcount
  obtain ⟨y, hy⟩ : ∃ y, y = x.followed rep := ⟨_, rfl⟩
  rw [hxdu, ← hy] at hfollowed hstats
  have hydu : y.du = { s.du with leap := none, stats := y.du.stats } := congrArg State.du hfollowed
  have hytb : y.tb = s.tb := (congrArg State.tb hfollowed).trans hxtb
  have hyaj : y.aj = s.aj := (congrArg State.aj hfollowed).trans (hxsame .aj (by simp))
  have hyclu : y.clu = s.clu := (congrArg State.clu hfollowed).trans (hxsame .clu (by simp))
  have hysame : s.SameBut y [.mon r, .du] := by
    rw [hfollowed]
    exact (hxsame.mono (by simp)).trans ((State.setDu_same _ _).mono (by simp))
  have hymode : y.du.mode = s.du.mode := by rw [hydu]
  have hact : y.actOnMark ⟨r, e, msg.uncertainty, st⟩ = ⟨y.servoLocked ⟨r, e, msg.uncertainty, st⟩, false⟩ :=
    State.actOnMark_servo (hymode ▸ hmode) (hytb ▸ hth)
  obtain ⟨m, hm⟩ : ∃ m : UsedMark, m = ⟨r, e, msg.uncertainty, st⟩ := ⟨_, rfl⟩
  rw [← hm] at hact
  have hserved : s.messageArrived r msg = (y.servoLocked m).setDu
      { (y.servoLocked m).du with
        anchor := some ⟨min 4294967295 (e.natAbs + u + 8), s.dating, .ref, decide (st = .qualified)⟩ } := by
    have hown : x.takeOwnReport rep = (y.servoLocked m).setDu
        { (y.servoLocked m).du with
          anchor := some ⟨min 4294967295 (e.natAbs + u + 8), s.dating, .ref, decide (st = .qualified)⟩ } := by
      rw [State.takeOwnReport_of_used (State.followed_usedMark.trans hmark), ← hy, ← hm, hact, State.anchorMark,
        anchorBound_eq, hm, show x.dating = s.dating from congrArg TimeBase.dating hxtb]
      rfl
    have hclear : ((y.servoLocked m).du).stale r = false := by
      have hkeeps : (y.servoLocked m).du.stale r = y.du.stale r := by
        rw [State.servoLocked_du]
        cases r <;> rfl
      rw [hkeeps, hydu]
      exact (by cases r <;> exact hstale)
    rw [State.messageArrived_eq hp, ← hx, ← hrep, State.takeReport_of_own (by rw [hevaluated, hxdu, hrepRef]; exact hsel),
      hevaluated, hrepRef, hown, Discipline.clearStale_of_clear (by cases r <;> exact hclear)]
    rfl
  have hi : y.servoIntegral e = i := by
    show clampRate (y.du.integral + e * y.tb.servo.active.gi) = _
    rw [hydu, hytb]
    rfl
  have hrate : y.servoRate e = rate := by
    show clampRate (-(e * y.tb.servo.active.gp + y.servoIntegral e)) = _
    rw [hi, hytb]
    rfl
  have hdu : (s.messageArrived r msg).du = { s.du with
      mode := .locked
      integral := i
      rate := rate
      anchor := some ⟨min 4294967295 (e.natAbs + u + 8), s.dating, .ref, decide (st = .qualified)⟩
      leap := none
      stats := y.du.stats
      records := (y.servoLocked m).du.records } := by
    have h := y.servoLocked_du m
    rw [hserved]
    refine (congrArg (fun d : Discipline => { d with
      anchor := some ⟨min 4294967295 (e.natAbs + u + 8), s.dating, .ref, decide (st = QualState.qualified)⟩ }) h).trans ?_
    rw [hydu, hm]
    dsimp only
    rw [hi, hrate]
  have htb : (s.messageArrived r msg).tb = s.tb.present rate := by
    rw [hserved]
    refine (y.servoLocked_tb m).trans ?_
    rw [hytb, hm, hrate]
  have hclamped : clampRate rate = rate := clampRate_clampRate _
  refine ⟨_, hexec, ?_, ?_, ?_, ?_, ?_, ?_, ?_, fun hlocked => ?_, fun hholdover hroom => ?_⟩
  · rw [hserved]
    have hkeeps : y.SameBut (y.servoLocked m) [.tb, .du, .aj, .clu] := by
      have hservo : y.SameBut (y.servo m.e) [.tb, .du] := by
        simp only [State.servo]
        exact ((y.setDu_same _).mono (by simp)).trans ((State.presentRate_same _ _).mono (by simp))
      exact (hservo.mono (by simp)).trans ((State.enterLocked_keeps _ m _).mono (by simp))
    exact (hysame.mono (by simp)).trans ((hkeeps.mono (by simp)).trans ((State.setDu_same _ _).mono (by simp)))
  · rw [htb]
    exact congrArg (fun r : Int => { s.tb with rate := r, inc := (s.tb.present rate).inc }) hclamped
  · rw [htb]
    exact (s.tb.present_inc rate).trans (by rw [hclamped])
  · rw [hdu]
  · rw [hdu]
    show y.du.stats.used = _
    rw [hstats, hcount]
    rfl
  · rw [hdu]
    show y.du.stats.completed = _
    rw [hstats, hcount]
    rfl
  · rw [hdu]
    show y.du.stats.bad = _
    rw [hstats, hcount]
    rfl
  · have h := State.servoLocked_of_locked (m := m) (hymode.trans hlocked)
    rw [hserved, h]
    have hrecords : y.du.records = s.du.records := by rw [hydu]
    exact ⟨hrecords, hyaj, hyclu⟩
  · obtain ⟨haj, hrecords, hclu⟩ := State.servoLocked_of_holdover (m := m) (hymode.trans hholdover) (by rw [hydu]; exact hroom)
    rw [hserved]
    refine ⟨haj.trans hyaj, hrecords.trans ?_, hclu.trans ?_⟩
    · rw [hydu, hm]
    · rw [hydu, hm, hyclu, show y.dating = s.dating from congrArg TimeBase.dating hytb]
      rfl

end Sys2Proof.Machine
end


section
/-! What the twin and DU do does not depend on the request queue. -/

namespace Sys2Proof.Machine

/-- A state with another request queue. -/
def State.queued (s : State) (x : List ControlRequest) : State := { s with clu := { s.clu with queue := x } }

theorem State.beginService_queued (s : State) : s.beginService = s.queued (serveFront s.clu.queue) := rfl

namespace State

variable {s : State} {x : List ControlRequest}

theorem queued_ite {p : Prop} [Decidable p] (a b : State) :
    (if p then a.queued x else b.queued x) = (if p then a else b).queued x := by
  split <;> rfl

theorem notice_queued (cls : NoticeClass) (fields : List Fld) :
    (s.queued x).notice cls fields = (s.notice cls fields).queued x :=
  congrArg (fun c : Control => ({ s with clu := c } : State)) (s.clu.notice_queue x cls fields)

theorem lose_queued (kind : RecordKind) (seq : Option Nat) : (s.queued x).lose kind seq = (s.lose kind seq).queued x := by
  simp only [State.lose]
  have hnotice := s.clu.notice_queue x .journal
  by_cases hz : s.aj.tally.isZero
  · rw [if_pos (show (s.queued x).aj.tally.isZero from hz), if_pos hz]
    exact congrArg (fun c : Control => ({ s with aj := _, clu := c } : State)) (hnotice _)
  · rw [if_neg (show ¬ (s.queued x).aj.tally.isZero from hz), if_neg hz]
    rfl

theorem clockRecordAt_queued (e : ClockEvent) (d : Nat) : (s.queued x).clockRecordAt e d = (s.clockRecordAt e d).queued x := by
  unfold State.clockRecordAt
  dsimp only
  rw [lose_queued, ← notice_queued]
  refine congrArg (fun y : State => y.notice _ _) (Eq.trans ?_ (queued_ite _ _))
  rfl

theorem clockRecord_queued (e : ClockEvent) : (s.queued x).clockRecord e = (s.clockRecord e).queued x :=
  clockRecordAt_queued e _

theorem twinNotice_queued (o : TwinState) (c : TwinCause) (e : Option Evaluation) :
    (s.queued x).twinNotice o c e = (s.twinNotice o c e).queued x :=
  notice_queued _ _

theorem twinChanged_queued (o : TwinState) (c : TwinCause) (e : Option Evaluation) :
    (s.queued x).twinChanged o c e = (s.twinChanged o c e).queued x := by
  unfold State.twinChanged
  rw [twinNotice_queued]
  exact queued_ite _ _

theorem contest_queued (t : Int) (l : Nat) : (s.queued x).contest t l = (s.contest t l).queued x := by
  unfold State.contest
  rw [← queued_ite, ← clockRecord_queued]
  rfl

theorem uncontest_queued (c : ContestCause) (t : Option Int) : (s.queued x).uncontest c t = (s.uncontest c t).queued x := by
  unfold State.uncontest
  rw [← queued_ite, ← clockRecord_queued]
  rfl

theorem reportAgreement_queued (t : Int) : (s.queued x).reportAgreement t = (s.reportAgreement t).queued x := by
  unfold State.reportAgreement
  show (match s.tlu.state with
    | .agreed => (s.queued x).uncontest .agreed (some t)
    | .disagree => (s.queued x).contest t s.tlu.limit
    | _ => s.queued x) = _
  cases s.tlu.state with
  | agreed => exact uncontest_queued _ _
  | disagree => exact contest_queued _ _
  | off | detached | offering | measuring => rfl

theorem withdrawAnchor_queued : (s.queued x).withdrawAnchor = s.withdrawAnchor.queued x := by
  unfold State.withdrawAnchor
  rw [← queued_ite]
  rfl

theorem offerAnchor_queued (t : Int) : (s.queued x).offerAnchor t = (s.offerAnchor t).queued x := by
  unfold State.offerAnchor
  rw [show (s.queued x).offerStatus = s.offerStatus from rfl]
  split
  · rfl
  · exact withdrawAnchor_queued

theorem enterDetached_queued (f : TwinFault) : (s.queued x).enterDetached f = (s.enterDetached f).queued x := by
  unfold State.enterDetached
  dsimp only
  rw [withdrawAnchor_queued, ← twinChanged_queued]
  rfl

theorem afterEvaluation_queued (o : TwinState) (m : Measured) :
    (s.queued x).afterEvaluation o m = (s.afterEvaluation o m).queued x := by
  unfold State.afterEvaluation
  dsimp only
  rw [reportAgreement_queued, ← offerAnchor_queued]
  refine congrArg (fun y : State => y.offerAnchor m.theta) ?_
  exact congrArg (fun y : State => y.formTwin (.status y.ownStatus)) (queued_ite s (s.reportAgreement m.theta))

theorem evaluateMeasurement_queued : (s.queued x).evaluateMeasurement = s.evaluateMeasurement.queued x := by
  unfold State.evaluateMeasurement
  dsimp only
  rw [show (s.queued x).tlu = s.tlu from rfl, enterDetached_queued]
  split
  · next m _ =>
    rw [show (s.queued x).setTlu (s.tlu.evaluated m) = (s.setTlu (s.tlu.evaluated m)).queued x from rfl,
      afterEvaluation_queued, ← queued_ite, ← twinChanged_queued]
    rfl
  · rfl

theorem failCheck_queued : (s.queued x).failCheck = s.failCheck.queued x := by
  obtain ⟨y, hy⟩ : ∃ y : TwinLink, y = { s.tlu with
    probes := []
    failures := 1
    counters := { s.tlu.counters with checksFailed := bump s.tlu.counters.checksFailed } } := ⟨_, rfl⟩
  unfold State.failCheck
  dsimp only
  rw [show (s.queued x).tlu = s.tlu from rfl, ← hy, show (s.queued x).setTlu y = (s.setTlu y).queued x from rfl,
    twinNotice_queued, enterDetached_queued, ← queued_ite]
  rfl

theorem evaluateCheck_queued : (s.queued x).evaluateCheck = s.evaluateCheck.queued x := by
  unfold State.evaluateCheck
  dsimp only
  rw [show (s.queued x).tlu = s.tlu from rfl, failCheck_queued]
  split
  · next m _ =>
    rw [show (s.queued x).setTlu (s.tlu.evaluated m) = (s.setTlu (s.tlu.evaluated m)).queued x from rfl,
      afterEvaluation_queued, twinChanged_queued]
    exact queued_ite _ _
  · rfl

theorem afterClose_queued : (s.queued x).afterClose = s.afterClose.queued x := by
  unfold State.afterClose
  rw [show (s.queued x).tlu = s.tlu from rfl, ← queued_ite]
  refine congrArg (fun y : State => if s.tlu.cycleClosed then y else s.queued x) ?_
  cases s.tlu.state with
  | measuring => exact evaluateMeasurement_queued
  | agreed | disagree => exact evaluateCheck_queued
  | off | detached | offering => rfl

theorem closeProbe_queued (o : ProbeOutcome) : (s.queued x).closeProbe o = (s.closeProbe o).queued x :=
  afterClose_queued (s := s.setTlu (s.tlu.closeProbe o))

theorem twinStepped_queued : (s.queued x).twinStepped = s.twinStepped.queued x := by
  unfold State.twinStepped
  refine Eq.trans ?_ (queued_ite _ _)
  exact congrArg (fun y : State => if (s.setTlu s.tlu.withholdEchoes).tlu.outstanding.isSome then y
    else (s.setTlu s.tlu.withholdEchoes).queued x) (closeProbe_queued (s := s.setTlu s.tlu.withholdEchoes) _)

theorem stepTime_queued (a : Int) : (s.queued x).stepTime a = (s.stepTime a).queued x :=
  twinStepped_queued (s := { s with tb := s.tb.stepBy a })

theorem writeOffset_queued (o : Int) (c : OffsetCause) : (s.queued x).writeOffset o c = (s.writeOffset o c).queued x := by
  unfold State.writeOffset
  rw [← queued_ite, ← clockRecord_queued]
  rfl

theorem clockSetApplied_queued (v d : Nat) (o : Int) (b a : Nat) :
    (s.queued x).clockSetApplied v d o b a = (s.clockSetApplied v d o b a).queued x := by
  unfold State.clockSetApplied
  dsimp only
  rw [show (s.queued x).tb = s.tb from rfl, stepTime_queued, ← clockRecord_queued]
  obtain ⟨y, hy⟩ : ∃ y, y = s.stepTime ((v : Int) - s.tb.raw) := ⟨_, rfl⟩
  rw [← hy]
  obtain ⟨z, hz⟩ : ∃ z : Discipline, z = { y.du with anchor := some ⟨d, y.dating, .host, false⟩ } := ⟨_, rfl⟩
  rw [show (y.queued x).setDu { (y.queued x).du with anchor := some ⟨d, (y.queued x).dating, .host, false⟩ } =
    (y.setDu z).queued x from hz ▸ rfl, ← hz, writeOffset_queued]
  refine congrArg (fun u : State => u.clockRecord _) ?_
  show (match s.du.mode with
    | .unset => _
    | .locked | .slewing | .holdover => _) = _
  cases s.du.mode <;> rfl

end State

end Sys2Proof.Machine
end


section
/-! CLOCK_SET (R49). -/

namespace Sys2Proof.Machine

/-- A request whose owner does not see the queue: its outcome is that without the request, answered. -/
theorem live_takeRequest_of_queued {s u : State} {kind : Nat} {q : ControlRequest} {act : List Byte → State → Acted}
    {payload : List Byte} (h : s.CanTake kind q) (hpower : u.power = s.power) (hlogged : s.clu.Noticed u.clu)
    (hact : act q.payload s.beginService = ⟨u.queued (serveFront s.clu.queue), payload⟩) :
    live s (takeRequest kind act) = .next (u.answered q payload) := by
  obtain ⟨hrun, hhead, hst, hkind, hlen, hroom⟩ := h
  have hqueue : u.clu.queue = s.clu.queue := hlogged.requests.queue
  have hreplies : u.clu.replies = s.clu.replies := hlogged.requests.replies
  have htake : u.CanTake kind q := ⟨hpower.trans hrun, (congrArg List.head? hqueue).trans hhead, hst, hkind, hlen,
    (congrArg List.length hreplies).trans_lt hroom⟩
  have hbegin : u.queued (serveFront s.clu.queue) = u.beginService := by rw [State.beginService_queued, hqueue]
  rw [hbegin] at hact
  exact (live_takeRequest_of_acted ⟨hrun, hhead, hst, hkind, hlen, hroom⟩ hact).trans
    (congrArg _ (State.beginService_answer htake payload))

/-! ### CLOCK records formed, and lost when the list is full -/

/-- The journal after `n` lost CLOCK records (R145). -/
def Journal.losing (j : Journal) (n : Nat) : Journal :=
  if n = 0 then j
  else { j with
    tally := { j.tally with others := min 4294967295 (j.tally.others + n) }
    lost := { j.lost with clock := min 4294967295 (j.lost.clock + n) } }

theorem Journal.losing_losing (j : Journal) (m n : Nat) : (j.losing m).losing n = j.losing (m + n) := by
  have hmin (a : Nat) : min 4294967295 (min 4294967295 (a + m) + n) = min 4294967295 (a + (m + n)) := by omega
  unfold Journal.losing
  by_cases hm : m = 0
  · simp [hm]
  · by_cases hn : n = 0
    · simp [hn]
    · rw [if_neg hm, if_neg hn, if_neg (by omega)]
      dsimp only
      rw [hmin, hmin]

/-- `t` is `s` with the CLOCK records `rs` formed at dating time `d` as far as there are places (R58, R59). -/
structure State.Forms (s t : State) (rs : List ClockRecord) (d : Nat) : Prop where
  records : t.du.records = s.du.records ++ rs.take (32 - s.du.records.length)
  aj : t.aj = s.aj.losing (rs.length - (32 - s.du.records.length))
  clu : rs.length - (32 - s.du.records.length) = 0 →
    t.clu = rs.foldl (fun c r => c.notice .clock (clockNotice r s.du.trace d)) s.clu
  trace : t.du.trace = s.du.trace

namespace State.Forms

variable {s t u : State} {rs qs : List ClockRecord} {d : Nat}

theorem of_same (haj : t.aj = s.aj) (hclu : t.clu = s.clu) (hrecords : t.du.records = s.du.records)
    (htrace : t.du.trace = s.du.trace) : s.Forms t [] d where
  records := by rw [hrecords, List.take_nil, List.append_nil]
  aj := haj.trans (if_pos (Nat.zero_sub _)).symm
  clu := fun _ => hclu
  trace := htrace

theorem trans (h : s.Forms t rs d) (k : t.Forms u qs d) : s.Forms u (rs ++ qs) d := by
  have hlength : t.du.records.length = s.du.records.length + min (32 - s.du.records.length) rs.length := by
    rw [h.records, List.length_append, List.length_take]
  refine ⟨?_, ?_, fun hroom => ?_, k.trace.trans h.trace⟩
  · rw [k.records, h.records, List.append_assoc, List.take_append, ← h.records, hlength]
    congr 3
    omega
  · rw [k.aj, h.aj, Journal.losing_losing, hlength, List.length_append]
    congr 1
    omega
  · rw [List.length_append] at hroom
    rw [k.clu (by omega), h.clu (by omega), h.trace, List.foldl_append]

theorem clockRecordAt (s : State) (e : ClockEvent) (d : Nat) : s.Forms (s.clockRecordAt e d) [s.du.form e] d := by
  have hdu := s.clockRecordAt_du e d
  refine ⟨?_, ?_, fun hroom => ?_, by rw [hdu]⟩
  · rw [hdu]
    show (if s.du.records.length < 32 then _ else _) = _
    split
    · next h => rw [List.take_of_length_le (by simp only [List.length_singleton]; omega)]
    · next h => rw [show 32 - s.du.records.length = 0 by omega, List.take_zero, List.append_nil]
  · rw [State.clockRecordAt_aj, State.clockLost]
    split
    · next h =>
      rw [show [s.du.form e].length - (32 - s.du.records.length) = 1 by simp only [List.length_singleton]; omega]
      rfl
    · next h =>
      rw [show [s.du.form e].length - (32 - s.du.records.length) = 0 by simp only [List.length_singleton]; omega]
      rfl
  · rw [State.clockRecordAt_clu, State.clockLost, if_neg (by simp only [List.length_singleton] at hroom; omega)]
    rfl

theorem writeOffset (s : State) (o : Int) (c : OffsetCause) :
    s.Forms (s.writeOffset o c) (if o = s.tb.utcOffset then [] else [s.du.form (.offsetChange s.tb.utcOffset o c)])
      s.dating := by
  unfold State.writeOffset
  by_cases h : s.tb.utcOffset = o
  · rw [if_pos h, if_pos h.symm]
    exact of_same rfl rfl rfl rfl
  · rw [if_neg h, if_neg (Ne.symm h)]
    exact (of_same (s := s) (t := { s with tb := { s.tb with utcOffset := o } }) rfl rfl rfl rfl).trans
      (clockRecordAt { s with tb := { s.tb with utcOffset := o } } (.offsetChange s.tb.utcOffset o c) s.dating)

end State.Forms

/-! ### An accepted CLOCK_SET -/

section
variable (s : State) (v d : Nat) (o : Int)

/-- The step to venue time, applied and told to the twin. -/
def State.clockMoved : State := s.stepTime ((v : Int) - s.tb.raw)

/-- Before the SET record: the anchor, the offset and the stale flags. -/
def State.clockAnchored : State :=
  (((s.clockMoved v).setDu { (s.clockMoved v).du with anchor := some ⟨d, (s.clockMoved v).dating, .host, false⟩ }).writeOffset
    o .host).markStale

/-- From UNSET the mode becomes HOLDOVER with R at 0. -/
def State.clockEntered : State :=
  if s.du.mode = .unset then
    (s.clockAnchored v d o).setDu { (s.clockAnchored v d o).du with mode := .holdover, rate := 0 }
  else s.clockAnchored v d o

theorem State.clockSetApplied_eq (b a : Nat) :
    s.clockSetApplied v d o b a = (s.clockEntered v d o).clockRecord (.set b a v d s.du.mode) := by
  unfold State.clockSetApplied State.clockEntered
  cases s.du.mode <;> rfl

theorem State.clockMoved_twinned : s.Twinned (s.clockMoved v) := .stepTime (.refl s) _

theorem State.clockMoved_tb : (s.clockMoved v).tb = s.tb.stepBy ((v : Int) - s.tb.raw) := s.stepTime_tb _

theorem State.clockAnchored_tb : (s.clockAnchored v d o).tb = { (s.clockMoved v).tb with utcOffset := o } :=
  State.writeOffset_tb _ _ _

theorem State.clockEntered_tb : (s.clockEntered v d o).tb = { (s.clockMoved v).tb with utcOffset := o } := by
  rw [← State.clockAnchored_tb]
  unfold State.clockEntered
  split <;> rfl

theorem State.clockEntered_tlu : (s.clockEntered v d o).tlu = (s.clockMoved v).tlu := by
  have hwrite : (s.clockAnchored v d o).tlu = (s.clockMoved v).tlu := by
    have hsame := (State.Selecting.writeOffset (.refl ((s.clockMoved v).setDu
      { (s.clockMoved v).du with anchor := some ⟨d, (s.clockMoved v).dating, .host, false⟩ })) o .host).same
    exact hsame .tlu (by decide)
  rw [← hwrite]
  unfold State.clockEntered
  split <;> rfl

theorem State.clockMoved_mon (r : Ref) : (s.clockMoved v).mon r = s.mon r := by
  exact State.stepTime_same _ _ (.mon r) (by simp [disciplineBlocks])

theorem State.clockAnchored_du :
    (s.clockAnchored v d o).du = { (s.clockMoved v).du with
      anchor := some ⟨d, (s.clockMoved v).dating, .host, false⟩
      staleA := s.du.staleA || s.monA.pendingMark.isSome
      staleB := s.du.staleB || s.monB.pendingMark.isSome
      records := (s.clockAnchored v d o).du.records } := by
  obtain ⟨y, hy⟩ : ∃ y, y = (s.clockMoved v).setDu
    { (s.clockMoved v).du with anchor := some ⟨d, (s.clockMoved v).dating, .host, false⟩ } := ⟨_, rfl⟩
  have hmon (r : Ref) : (y.writeOffset o .host).mon r = s.mon r :=
    (State.writeOffset_same y o .host (.mon r) (by simp [disciplineBlocks])).trans (hy ▸ s.clockMoved_mon v r)
  obtain ⟨w, hw⟩ : ∃ w, w = y.writeOffset o .host := ⟨_, rfl⟩
  obtain ⟨rs, hlogs⟩ : ∃ rs, w.du = { y.du with records := rs } := ⟨_, hw ▸ y.writeOffset_logsTo o .host⟩
  have htwin := s.clockMoved_twinned v
  have hstaleA : w.du.staleA = s.du.staleA := by rw [hlogs, hy]; exact htwin.staleA
  have hstaleB : w.du.staleB = s.du.staleB := by rw [hlogs, hy]; exact htwin.staleB
  have hanchored : s.clockAnchored v d o = w.markStale := by rw [hw, hy]; rfl
  rw [hanchored, State.markStale_du, hw, hmon, hmon, ← hw, hstaleA, hstaleB, hlogs, hy]
  rfl

theorem State.clockEntered_du (hmode : s.du.mode = .unset ∨ s.du.mode = .holdover) :
    (s.clockEntered v d o).du = { (s.clockMoved v).du with
      mode := .holdover
      rate := if s.du.mode = .unset then 0 else s.du.rate
      anchor := some ⟨d, (s.clockMoved v).dating, .host, false⟩
      staleA := s.du.staleA || s.monA.pendingMark.isSome
      staleB := s.du.staleB || s.monB.pendingMark.isSome
      records := (s.clockAnchored v d o).du.records } := by
  have htwin := s.clockMoved_twinned v
  have hdu := s.clockAnchored_du v d o
  unfold State.clockEntered
  rcases hmode with hm | hm
  · rw [if_pos hm, if_pos hm]
    show ({ (s.clockAnchored v d o).du with mode := .holdover, rate := 0 } : Discipline) = _
    rw [hdu]
  · have hne : s.du.mode ≠ .unset := by rw [hm]; decide
    rw [if_neg hne, if_neg hne, ← htwin.rate, ← show (s.clockMoved v).du.mode = .holdover from htwin.mode.trans hm]
    exact hdu

/-- The OFFSET_CHANGE record, when the offset changes, and the SET record. -/
def State.clockSetRecords : List ClockRecord :=
  (if o = s.tb.utcOffset then [] else [⟨.offsetChange s.tb.utcOffset o .host, s.du.mode, s.du.bound⟩]) ++
    [⟨.set s.tb.raw v v d s.du.mode, .holdover, s.du.bound⟩]

theorem State.clockSet_forms (hmode : s.du.mode = .unset ∨ s.du.mode = .holdover) :
    (s.clockMoved v).Forms (s.clockSetApplied v d o s.tb.raw v) (s.clockSetRecords v d o) (s.clockMoved v).dating := by
  obtain ⟨y, hy⟩ : ∃ y, y = (s.clockMoved v).setDu
    { (s.clockMoved v).du with anchor := some ⟨d, (s.clockMoved v).dating, .host, false⟩ } := ⟨_, rfl⟩
  have htwin := s.clockMoved_twinned v
  have hoffset : y.tb.utcOffset = s.tb.utcOffset := by
    rw [hy]
    show (s.clockMoved v).tb.utcOffset = _
    rw [State.clockMoved_tb, TimeBase.stepBy_eq]
  have hform (e : ClockEvent) : y.du.form e = ⟨e, s.du.mode, s.du.bound⟩ := by
    rw [hy, ← htwin.mode, ← htwin.bound]
    rfl
  have hset : (s.clockMoved v).Forms y [] (s.clockMoved v).dating := hy ▸ .of_same rfl rfl rfl rfl
  have hdating : y.dating = (s.clockMoved v).dating := by rw [hy]; rfl
  have hwritten := hset.trans (hdating ▸ State.Forms.writeOffset y o .host)
  rw [hoffset, hform] at hwritten
  have hentered : (y.writeOffset o .host).Forms (s.clockEntered v d o) [] (s.clockMoved v).dating := by
    unfold State.clockEntered State.clockAnchored
    rw [← hy]
    split <;> exact .of_same rfl rfl rfl rfl
  have hduration : (s.clockEntered v d o).dating = (s.clockMoved v).dating := by
    rw [State.dating, s.clockEntered_tb v d o]
    rfl
  have hrecord := State.Forms.clockRecordAt (s.clockEntered v d o) (.set s.tb.raw v v d s.du.mode)
    (s.clockEntered v d o).dating
  rw [hduration, show (s.clockEntered v d o).du.form (.set s.tb.raw v v d s.du.mode) =
      ⟨.set s.tb.raw v v d s.du.mode, .holdover, s.du.bound⟩ by
    rw [Discipline.form, s.clockEntered_du v d o hmode, ← htwin.bound]] at hrecord
  have happlied : s.clockSetApplied v d o s.tb.raw v =
      (s.clockEntered v d o).clockRecordAt (.set s.tb.raw v v d s.du.mode) (s.clockMoved v).dating := by
    rw [State.clockSetApplied_eq, State.clockRecord, hduration]
  rw [happlied]
  have hall := (hwritten.trans hentered).trans hrecord
  rwa [List.nil_append, List.append_nil] at hall

end

theorem State.takesClockSet_of_closed {s : State} (hmode : s.du.mode = .unset ∨ s.du.mode = .holdover)
    (h : s.anyPortOpen = false) : s.takesClockSet = true := by
  unfold State.takesClockSet
  rcases hmode with hm | hm
  · rw [hm]
  · rw [hm, h]
    rfl

theorem State.takesClockSet_of_refused {s : State}
    (h : s.du.mode = .locked ∨ s.du.mode = .slewing ∨ s.du.mode = .holdover ∧ s.anyPortOpen = true) :
    s.takesClockSet = false := by
  unfold State.takesClockSet
  rcases h with hm | hm | ⟨hm, hopen⟩
  · rw [hm]
  · rw [hm]
  · rw [hm, hopen]
    rfl

/-- A step to a venue time of 8 bytes leads there. -/
theorem stepTarget_venue {raw v : Nat} (h : v < 256 ^ 8) : stepTarget raw ((v : Int) - raw) = v := by
  unfold stepTarget max64
  omega

theorem State.answered_same (s : State) (q : ControlRequest) (p : List Byte) : s.SameBut (s.answered q p) [.clu] := by
  intro b hb
  cases b <;> first | rfl | exact absurd (by simp) hb

/-- Settles O49. -/
theorem clockSetMovesRawTime : Obligations.ClockSetMovesRawTime := by
  intro s q h venue declared
  obtain ⟨v, hv⟩ : ∃ v, v = venue := ⟨_, rfl⟩
  obtain ⟨d, hd⟩ : ∃ d, d = max 1000 declared := ⟨_, rfl⟩
  obtain ⟨o, ho⟩ : ∃ o, o = fieldInt q.payload 12 1 := ⟨_, rfl⟩
  have hvenue : v < 256 ^ 8 := hv ▸ field_lt _ _ _
  refine ⟨fun hmode => ?_, fun hmode hopen => ?_⟩
  · refine live_takeRequest_of_says h .wrongState [] ?_
    exact if_neg (by rw [show s.beginService.takesClockSet = s.takesClockSet from rfl,
      State.takesClockSet_of_refused hmode]; decide)
  · have hask : s.askStep ((v : Int) - s.tb.raw) = .applied s.tb.raw v := by
      unfold State.askStep stepAnswer
      rw [hopen, if_neg (by simp), stepTarget_venue hvenue]
    obtain ⟨a, ha⟩ : ∃ a, a = s.clockSetApplied v d o s.tb.raw v := ⟨_, rfl⟩
    have hact : clockSet q.payload s.beginService = ⟨a.queued (serveFront s.clu.queue),
        replyPayload (okStatus (decide (declared < 1000))) []⟩ := by
      unfold clockSet
      dsimp only
      rw [State.beginService_queued, show (s.queued (serveFront s.clu.queue)).takesClockSet = s.takesClockSet from rfl,
        State.takesClockSet_of_closed hmode hopen, if_pos rfl]
      show (match s.askStep ((venue : Int) - s.tb.raw) with
        | .applied b a => ((s.queued (serveFront s.clu.queue)).clockSetApplied venue (max 1000 declared)
            (fieldInt q.payload 12 1) b a).says (okStatus (decide (declared < 1000)))
        | .refused => (s.queued (serveFront s.clu.queue)).says .wrongState) = _
      rw [← hv, ← hd, ← ho, hask]
      dsimp only
      rw [State.clockSetApplied_queued, ← ha]
      rfl
    have hsame : s.SameBut a [.tb, .tlu, .du, .aj, .clu] := ha ▸ s.clockSetApplied_same _ _ _ _ _
    have hlogged : s.Logged a := ha ▸ (State.Logged.refl s).clockSetApplied _ _ _ _ _
    have hforms := s.clockSet_forms v d o hmode
    rw [← ha] at hforms
    obtain ⟨u, hu⟩ : ∃ u, u = s.clockMoved v := ⟨_, rfl⟩
    have htwin : s.Twinned u := hu ▸ s.clockMoved_twinned v
    have hutb : u.tb = s.tb.stepBy ((v : Int) - s.tb.raw) := hu ▸ s.clockMoved_tb v
    have hrecord : a = (s.clockEntered v d o).clockRecord (.set s.tb.raw v v d s.du.mode) :=
      ha.trans (s.clockSetApplied_eq v d o _ _)
    have htb : a.tb = { u.tb with utcOffset := o } := by
      rw [hrecord, hu, ← State.clockEntered_tb]
      exact State.clockRecord_same _ _ .tb (by decide)
    obtain ⟨rs, hdu⟩ : ∃ rs, a.du = { u.du with
        mode := .holdover
        rate := if s.du.mode = .unset then 0 else s.du.rate
        anchor := some ⟨d, u.dating, .host, false⟩
        staleA := s.du.staleA || s.monA.pendingMark.isSome
        staleB := s.du.staleB || s.monB.pendingMark.isSome
        records := rs } := by
      have hlogs := (s.clockEntered v d o).clockRecord_logsTo (.set s.tb.raw v v d s.du.mode)
      rw [s.clockEntered_du v d o hmode, ← hrecord, ← hu] at hlogs
      exact ⟨_, hlogs⟩
    have hraw : u.tb.raw = v := by rw [hutb, TimeBase.stepBy_raw, stepTarget_venue hvenue]
    have hhwm : u.tb.hwm = if v < s.tb.raw then s.dating else s.tb.hwm := by
      rw [hutb, TimeBase.stepBy_hwm]
      exact if_congr (by omega) rfl rfl
    have hdating : u.dating = max v u.tb.hwm := by rw [← hraw]; rfl
    have hstep : u = s.stepTime ((venue : Int) - s.tb.raw) := by rw [hu, hv]; rfl
    have hexec := live_takeRequest_of_queued h (hsame .power (by decide)) hlogged.noticed hact
    obtain ⟨hqueue, hreplies, hcounters⟩ := hlogged.noticed.requests
    have hstatus : replyPayload (okStatus (decide (declared < 1000))) [] = [if declared < 1000 then 1#8 else 0#8] := by
      rw [okStatus_decide]
      split <;> rfl
    rw [hstatus] at hexec
    obtain ⟨hrecords, haj, hclu, _⟩ := hforms
    rw [← hu] at hrecords haj hclu
    refine ⟨_, hexec, hsame.trans (State.answered_same a q _ |>.mono (by decide)),
      ⟨congrArg List.tail hqueue, congrArg (· ++ _) hreplies, congrArg (fun c => { c with served := bump c.served }) hcounters⟩, ?_, ?_, ?_, ?_, ?_, ?_, ?_, ?_, ?_, ?_, ?_,
      ?_, ?_, ?_, ?_, ?_⟩
    · show a.tb.raw = venue
      rw [htb, ← hv]
      exact hraw
    · show a.tb.hwm = if venue < s.tb.raw then s.dating else s.tb.hwm
      rw [htb, ← hv]
      exact hhwm
    · show a.tb.utcOffset = _
      rw [htb, ← ho]
    · show a.tb.frac = _
      rw [htb, hutb, TimeBase.stepBy_eq]
    · show a.tb.inc = _
      rw [htb, hutb]
      exact TimeBase.stepBy_inc _ _
    · show a.tb.rate = _
      rw [htb, hutb]
      exact TimeBase.stepBy_rate _ _
    · have hkept : a.dating = u.dating := by
        show a.tb.dating = _
        rw [htb]
        rfl
      show s.dating ≤ a.dating
      rw [hkept, hdating, hhwm]
      show max s.tb.raw s.tb.hwm ≤ _
      split
      · exact le_max_right _ _
      · omega
    · show a.tlu = _
      rw [← hstep, hu, ← State.clockEntered_tlu, hrecord]
      exact State.clockRecord_same _ _ .tlu (by decide)
    · show a.du.mode = _
      rw [hdu]
    · show a.du.integral = _
      rw [hdu]
      exact htwin.integral
    · show a.du.rate = _
      rw [hdu]
    · show a.du.anchor = some ⟨_, max venue a.tb.hwm, _, _⟩
      rw [hdu, htb, ← hd, ← hv, hdating]
    · show a.du.selection = _
      rw [hdu]
      exact htwin.selection
    · show a.du.staleA = _
      rw [hdu]
    · show a.du.staleB = _
      rw [hdu]
    · rw [← hstep, ← hv, ← hd, ← ho, ← htwin.trace]
      have hhwm' : a.tb.hwm = u.tb.hwm := by rw [htb]
      rw [show (a.answered q [if declared < 1000 then 1#8 else 0#8]).tb.hwm = a.tb.hwm from rfl, hhwm', ← hdating]
      exact ⟨hrecords, haj, fun hroom => (congrArg Control.notices (hclu hroom) : a.clu.notices = _)⟩

end Sys2Proof.Machine
end


section
/-! RESET and START_UP (R179 to R182, R184). -/

namespace Sys2Proof.Machine

/-! ### RESET -/

theorem tornBytes_length (torn : Nat) (i : Nat) (old new : List Byte) : (tornBytes torn i old new).length = old.length := by
  induction old generalizing i new with
  | nil => rfl
  | cons x old ih =>
    cases new with
    | nil => rfl
    | cons y new => exact congrArg (· + 1) (ih (i + 1) new)

/-- R184: each byte is the old or the new one. -/
theorem tornBytes_getElem? (torn : Nat) (i k : Nat) (old new : List Byte) :
    (tornBytes torn i old new)[k]? = old[k]? ∨ (tornBytes torn i old new)[k]? = new[k]? := by
  induction old generalizing i k new with
  | nil => exact .inl rfl
  | cons x old ih =>
    cases new with
    | nil => exact .inl rfl
    | cons y new =>
      cases k with
      | zero =>
        by_cases h : Config.tornSaveTaken torn i
        · exact .inr (congrArg some (if_pos h))
        · exact .inl (congrArg some (if_neg h))
      | succ k => exact ih (i + 1) k new

theorem Store.afterReset_of_idle {x : Store} (h : x.save = none) : x.afterReset.profile = x.profile := by
  unfold Store.afterReset
  rw [h]

theorem Store.afterReset_of_save {x : Store} {sv : Save} (h : x.save = some sv) :
    x.afterReset.profile = tornBytes x.torn 0 x.profile sv.copy := by
  unfold Store.afterReset
  rw [h]

theorem Store.afterReset_length (x : Store) : x.afterReset.profile.length = x.profile.length := by
  cases h : x.save with
  | none => rw [Store.afterReset_of_idle h]
  | some sv => rw [Store.afterReset_of_save h, tornBytes_length]

/-! ### The epoch (R180) -/

theorem issueEpoch_epoch (n : Nat) : (issueEpoch n).epoch = min 65535 (n + 1) := by
  unfold issueEpoch
  split
  · show n + 1 = _
    omega
  · show 65535 = _
    omega

theorem issueEpoch_exhausted (n : Nat) : (issueEpoch n).exhausted = true ↔ 65535 ≤ n := by
  unfold issueEpoch
  split
  · simp only [Bool.false_eq_true, false_iff]
    omega
  · simp only [true_iff]
    omega

theorem startUpFrom_ss (cause : ResetCause) (s : State) :
    (startUpFrom cause s).ss = { s.ss with
      epochCounter := min 65535 (s.ss.epochCounter + 1)
      status := if (loadProfile s.ss.profile).isSome then .loaded else .defaulted
      save := none } := by
  rw [← issueEpoch_epoch]
  exact startUpFrom_same cause s .ss (by decide)

/-- Settles O3. -/
theorem resetHoldsThePart : Obligations.ResetHoldsThePart := by
  intro cause s
  refine ⟨resetHeld cause s, rfl, rfl, rfl, rfl, rfl, rfl, fun k hk => ?_, rfl, rfl, Store.afterReset_length _,
    Store.afterReset_of_idle, fun sv i hsv => ?_⟩
  · have hss := startUpFrom_ss k s
    refine ⟨startUpFrom k s, resetHeld cause (startUpFrom k s), exec_startUp_of_held hk, rfl, rfl, rfl, ?_, ?_, rfl, rfl⟩
    · show (startUpFrom k s).ss.epochCounter = _
      rw [hss]
    · show (startUpFrom k s).ss.afterReset.profile = _
      rw [Store.afterReset_of_idle (by rw [hss]), hss]
  · show s.ss.afterReset.profile[i]? = _ ∨ s.ss.afterReset.profile[i]? = _
    rw [Store.afterReset_of_save hsv]
    exact tornBytes_getElem? _ _ _ _ _

/-! ### START_UP -/

section
variable (cause : ResetCause) (s : State)

/-- The STARTUP record's body (R182). -/
def startupBody : Body :=
  .admin 0 (.startup cause (issueEpoch s.ss.epochCounter).epoch (issueEpoch s.ss.epochCounter).exhausted
    (if (loadProfile s.ss.profile).isSome then .loaded else .defaulted))

/-- The part before its first OFFER. -/
def startAnnounced : State :=
  ((startBlocks cause s).submit (startupBody cause s)).notice .startup
    (startupNotice cause (issueEpoch s.ss.epochCounter).epoch (issueEpoch s.ss.epochCounter).exhausted
      (if (loadProfile s.ss.profile).isSome then .loaded else .defaulted) s.serial)

theorem startUpFrom_eq : startUpFrom cause s = (startAnnounced cause s).offerAtStart := rfl

/-- The STARTUP record is stored as number 1 and fires no level. -/
theorem startBlocks_submit :
    (startBlocks cause s).submit (startupBody cause s) =
      { startBlocks cause s with
        aj :=
          { pool := [⟨1, crc32 (recordBytes 1 (startBlocks cause s).aj.chain false (startupBody cause s)), startupBody cause s⟩]
            used := 40
            next := some 2
            chain := crc32 (recordBytes 1 (startBlocks cause s).aj.chain false (startupBody cause s))
            tally := ⟨0, 0, none⟩
            selectors := (startBlocks cause s).aj.selectors
            level50 := .armed
            level75 := .armed
            stored := { admin := 1 } } } := rfl

/-- The values start-up gives the blocks (R181). -/
def startSettings : Settings := (loadProfile s.ss.profile).getD {}

theorem startAnnounced_clu :
    (startAnnounced cause s).clu = Control.notice { enables := (startSettings s).enables } .startup
      (startupNotice cause (issueEpoch s.ss.epochCounter).epoch (issueEpoch s.ss.epochCounter).exhausted
        (if (loadProfile s.ss.profile).isSome then .loaded else .defaulted) s.serial) := by
  unfold startAnnounced
  rw [startBlocks_submit]
  rfl

theorem startAnnounced_tlu : (startAnnounced cause s).tlu = startTwin (startSettings s) := by
  unfold startAnnounced
  rw [startBlocks_submit]
  rfl

theorem startAnnounced_aj : (startAnnounced cause s).aj = ((startBlocks cause s).submit (startupBody cause s)).aj := rfl

end

/-- A notice with room in the list joins it when its class is on (R174). -/
theorem Control.notice_of_less {c : Control} (h : c.notices.length < 16) (cls : NoticeClass) (fields : List Fld) :
    c.notice cls fields = { c with
      notices := c.notices ++ if c.enables.admits cls then [⟨cls.kindByte, 0#16, leBytes 4 c.noticesLost ++ layout fields⟩]
        else [] } := by
  cases ha : c.enables.admits cls with
  | false =>
    rw [Control.notice_of_off ha, if_neg (by decide), List.append_nil]
  | true =>
    rw [Control.notice_of_room ha h, if_pos rfl]

theorem State.offerAtStart_of_off {s : State} (h : s.tlu.startAtReset = false) : s.offerAtStart = s := by
  unfold State.offerAtStart
  rw [h]
  rfl

theorem State.offerAtStart_of_on {s : State} (h : s.tlu.startAtReset = true) :
    s.offerAtStart = s.openOffer.twinNotice .detached .offer none := by
  unfold State.offerAtStart
  rw [h]
  rfl

theorem State.offerAtStart_aj (s : State) : s.offerAtStart.aj = s.aj := State.offerAtStart_same s .aj (by decide)

section
variable {cause : ResetCause} {s : State}

/-- R80: TLU with the start-at-reset flag has formed its first OFFER. -/
theorem startUpFrom_tlu :
    (startUpFrom cause s).tlu =
      { state := if (startSettings s).startAtReset then .offering else .off
        offerTimer := if (startSettings s).startAtReset then some 250000000 else none
        transmit := if (startSettings s).startAtReset then
          [.offer ⟨(startSettings s).venue, s.serial.toNat, (issueEpoch s.ss.epochCounter).epoch⟩] else []
        limit := (startSettings s).twin.limit
        allowance := (startSettings s).twin.allowance
        period := (startSettings s).twin.period
        venue := (startSettings s).venue
        startAtReset := (startSettings s).startAtReset } := by
  have htlu := startAnnounced_tlu cause s
  have hflag : (startAnnounced cause s).tlu.startAtReset = (startSettings s).startAtReset := by rw [htlu]; rfl
  rw [startUpFrom_eq]
  cases hon : (startSettings s).startAtReset with
  | false =>
    rw [State.offerAtStart_of_off (hflag.trans hon), htlu, startTwin, hon]
    rfl
  | true =>
    rw [State.offerAtStart_of_on (hflag.trans hon)]
    show (startAnnounced cause s).openOffer.tlu = _
    have htick : (startAnnounced cause s).tick + offerTicks = 250000000 := Nat.zero_add _
    have hidentity : (startAnnounced cause s).ownIdentity =
        ⟨(startSettings s).venue, s.serial.toNat, (issueEpoch s.ss.epochCounter).epoch⟩ := by
      unfold State.ownIdentity
      rw [htlu]
      rfl
    have hform : (startAnnounced cause s).tlu.form (.offer (startAnnounced cause s).ownIdentity) =
        { startTwin (startSettings s) with transmit := [.offer (startAnnounced cause s).ownIdentity] } := by
      rw [htlu]
      exact if_pos (show 0 < twinListMax by decide)
    have hoffer : (startAnnounced cause s).openOffer.tlu =
        { (startAnnounced cause s).tlu.form (.offer (startAnnounced cause s).ownIdentity) with
          state := .offering
          offerTimer := some ((startAnnounced cause s).tick + offerTicks)
          retryTimer := none } := rfl
    rw [hoffer, htick, hform, hidentity, startTwin, hon]
    rfl

/-- The STARTUP notice, when its class is on, and that of the first OFFER. -/
theorem startUpFrom_clu :
    ∃ more, (startUpFrom cause s).clu =
        { enables := (startSettings s).enables
          notices := (if (startSettings s).enables.startup then [⟨0x67#8, 0#16, leBytes 4 0 ++ layout (startupNotice cause
            (issueEpoch s.ss.epochCounter).epoch (issueEpoch s.ss.epochCounter).exhausted
            (if (loadProfile s.ss.profile).isSome then .loaded else .defaulted) s.serial)⟩] else []) ++ more } ∧
      ((startSettings s).startAtReset = false → more = []) := by
  have hclu := startAnnounced_clu cause s
  obtain ⟨first, hfirst⟩ : ∃ first : List ControlFrame, first = if (startSettings s).enables.startup then [⟨0x67#8, 0#16,
    leBytes 4 0 ++ layout (startupNotice cause (issueEpoch s.ss.epochCounter).epoch
      (issueEpoch s.ss.epochCounter).exhausted (if (loadProfile s.ss.profile).isSome then .loaded else .defaulted)
      s.serial)⟩] else [] := ⟨_, rfl⟩
  have hannounced : (startAnnounced cause s).clu = { enables := (startSettings s).enables, notices := first } := by
    rw [hclu, Control.notice_of_less (c := { enables := (startSettings s).enables }) (show 0 < 16 by decide), hfirst]
    rfl
  have hfew : first.length ≤ 1 := by
    rw [hfirst]
    split <;> simp
  have hflag : (startAnnounced cause s).tlu.startAtReset = (startSettings s).startAtReset := by
    rw [startAnnounced_tlu]; rfl
  rw [startUpFrom_eq, ← hfirst]
  cases hon : (startSettings s).startAtReset with
  | false =>
    refine ⟨[], ?_, fun _ => rfl⟩
    rw [State.offerAtStart_of_off (hflag.trans hon), hannounced, List.append_nil]
  | true =>
    obtain ⟨fields, hnoticed⟩ : ∃ fields, (startAnnounced cause s).offerAtStart.clu =
        (startAnnounced cause s).clu.notice .twin fields :=
      ⟨_, congrArg State.clu (State.offerAtStart_of_on (hflag.trans hon))⟩
    rw [hnoticed, hannounced, Control.notice_of_less (c := { notices := first, enables := (startSettings s).enables })
      (show first.length < 16 by omega)]
    exact ⟨_, rfl, fun h => absurd h (by decide)⟩

end

/-- A monitor as start-up sets it (R37). -/
theorem startMonitor_eq (x : RefSettings) :
    startMonitor x =
      { state := if x.enable then .candidate else .disabled
        ceiling := x.ceiling
        missingTimer := if x.enable then some 137500000 else none } := by
  unfold startMonitor
  cases x.enable <;> rfl

/-- Settles O4. -/
theorem startUpGivesTheFirstState : Obligations.StartUpGivesTheFirstState := by
  intro cause s hheld
  obtain ⟨t, ht⟩ : ∃ t, t = startUpFrom cause s := ⟨_, rfl⟩
  have hsame : (startBlocks cause s).SameBut t [.tlu, .aj, .clu] := ht ▸ startUpFrom_same cause s
  have hss := startUpFrom_ss cause s
  obtain ⟨more, hclu, hmore⟩ := startUpFrom_clu (cause := cause) (s := s)
  have htlu := startUpFrom_tlu (cause := cause) (s := s)
  have haj : t.aj = ((startBlocks cause s).submit (startupBody cause s)).aj :=
    ht ▸ (startAnnounced cause s).offerAtStart_aj
  have hepoch : t.epoch = (issueEpoch s.ss.epochCounter).epoch := hsame .epoch (by decide)
  have hsa : t.sa = { exhausted := (issueEpoch s.ss.epochCounter).exhausted } := hsame .sa (by decide)
  have htb : t.tb = startTimeBase (startSettings s) := hsame .tb (by decide)
  have hdu : t.du = { preferred := (startSettings s).preferred } := hsame .du (by decide)
  have hmonA : t.monA = startMonitor (startSettings s).refA := hsame (.mon .a) (by decide)
  have hmonB : t.monB = startMonitor (startSettings s).refB := hsame (.mon .b) (by decide)
  rw [← ht] at hss hclu htlu
  rw [startBlocks_submit] at haj
  refine ⟨t, ht ▸ exec_startUp_of_held hheld, hsame .power (by decide), hsame .cause (by decide), hsame .tick (by decide),
    hepoch.trans (issueEpoch_epoch _), ?_, by rw [hsa]; exact issueEpoch_exhausted _, by rw [hsa], ?_, by rw [hss],
    by rw [hss], by rw [htb]; rfl, by rw [htb]; rfl, by rw [htb]; rfl, by rw [htb]; rfl, by rw [htb]; rfl, by rw [htb]; rfl,
    by rw [htb]; rfl, by rw [htb]; rfl, by rw [htb]; rfl, by rw [htb]; rfl, by rw [htb]; rfl, by rw [hdu],
    fun p => ?_, fun g => ?_, ?_, ?_, ?_, ?_, ?_, ?_⟩
  · rw [hss, hepoch, issueEpoch_epoch]
  · rw [hss]
    cases (loadProfile s.ss.profile).isSome <;> simp
  · exact (hsame (.port p) (by simp)).trans (by simp [State.port, startBlocks, blocksSet])
  · exact (hsame (.group g) (by simp)).trans (by simp [State.group, startBlocks, blocksSet])
  · exact hsame .auctions (by decide)
  · exact hsame .demands (by decide)
  · intro body chain
    have hbody : startupBody cause s = body := by
      simp only [body]
      rw [hss, hsa, hepoch]
      rfl
    have hchain : (startBlocks cause s).aj.chain = BitVec.ofNat 32 t.epoch := by
      rw [hepoch]
      rfl
    rw [hbody, hchain] at haj
    rw [haj]
  · rw [hclu]
  · intro startup first
    have hstartup : startup = ⟨0x67#8, 0#16, leBytes 4 0 ++ layout (startupNotice cause
        (issueEpoch s.ss.epochCounter).epoch (issueEpoch s.ss.epochCounter).exhausted
        (if (loadProfile s.ss.profile).isSome then .loaded else .defaulted) s.serial)⟩ := by
      simp only [startup]
      rw [hss, hsa, hepoch]
      rfl
    have hnotices : t.clu.notices = first ++ more := by
      simp only [first]
      rw [hstartup, hclu]
    refine ⟨fun hoff => ?_, ⟨more, hnotices.symm⟩⟩
    rw [hnotices, hmore (by rw [htlu] at hoff; exact hoff), List.append_nil]
  · intro x monitor
    have hx : startSettings s = x := rfl
    rw [htb, hmonA, hmonB, hdu, haj, hclu, htlu, startMonitor_eq, startMonitor_eq, hepoch, hx]
    exact ⟨rfl, rfl, rfl, rfl, rfl, rfl, rfl, rfl, rfl, rfl⟩

end Sys2Proof.Machine
end


section
/-! SETTINGS_SAVE (R183): what is gathered is what a start-up loads. -/

namespace Sys2Proof.Machine

/-! ### Numbers written and read back -/

theorem leNat_leBytes (w n : Nat) (h : n < 256 ^ w) : leNat (leBytes w n) = n := by
  induction w generalizing n with
  | zero =>
    show 0 = n
    omega
  | succ w ih =>
    rw [leBytes, leNat, ih (n / 256) (by rw [Nat.pow_succ] at h; omega), BitVec.toNat_ofNat]
    show n % 256 + 256 * (n / 256) = n
    omega

theorem leBytes_length (w n : Nat) : (leBytes w n).length = w := by
  induction w generalizing n with
  | zero => rfl
  | succ w ih => exact congrArg (· + 1) (ih _)

/-- A cable delay written in 4 bytes and read back. -/
theorem leInt_leSigned_delay {d : Int} (h : delayInRange d) : leInt (leSigned 4 d) = d := by
  obtain ⟨hlo, hhi⟩ := h
  have hlt : (d % (256 ^ 4 : Nat)).toNat < 256 ^ 4 := by omega
  unfold leSigned leInt
  dsimp only
  rw [leNat_leBytes _ _ hlt, leBytes_length]
  split <;> omega

theorem leNat_boolCode (b : Bool) : boolOfCode (leNat (leBytes 1 (boolCode b))) = some b := by cases b <;> rfl

theorem leBytes_boolCode (b : Bool) : leBytes 1 (boolCode b) = [if b then 1#8 else 0#8] := by cases b <;> rfl

theorem clampQ_of_inRange {lo hi n : Nat} (hlo : lo ≤ n) (hhi : n ≤ hi) : (clampQ lo hi n).value = n := by
  show max lo (min hi n) = n
  omega

/-! ### The profile gathered -/

section
variable (s : State) (tail : List Byte)

theorem gatherProfile_length : (gatherProfile s).length = 69 := rfl

theorem profile_servo :
    field (gatherProfile s ++ tail) 0 2 = leNat (leBytes 2 s.tb.servo.active.gp) ∧
      field (gatherProfile s ++ tail) 2 2 = leNat (leBytes 2 s.tb.servo.active.gi) ∧
      field (gatherProfile s ++ tail) 4 4 = leNat (leBytes 4 s.tb.servo.active.threshold) := ⟨rfl, rfl, rfl⟩

theorem profile_trace :
    field (gatherProfile s ++ tail) 8 2 = leNat (leBytes 2 s.tb.trace.active.growth) ∧
      field (gatherProfile s ++ tail) 10 4 = leNat (leBytes 4 s.tb.trace.active.advisory) ∧
      field (gatherProfile s ++ tail) 14 4 = leNat (leBytes 4 s.tb.trace.active.limit) ∧
      field (gatherProfile s ++ tail) 18 2 = leNat (leBytes 2 s.tb.trace.active.interval) := ⟨rfl, rfl, rfl, rfl⟩

theorem profile_twin :
    field (gatherProfile s ++ tail) 39 4 = leNat (leBytes 4 s.tlu.limit) ∧
      field (gatherProfile s ++ tail) 43 4 = leNat (leBytes 4 s.tlu.allowance) ∧
      field (gatherProfile s ++ tail) 47 1 = leNat (leBytes 1 s.tlu.period) ∧
      field (gatherProfile s ++ tail) 48 2 = leNat (leBytes 2 s.tlu.venue) ∧
      field (gatherProfile s ++ tail) 50 1 = leNat (leBytes 1 (boolCode s.tlu.startAtReset)) := ⟨rfl, rfl, rfl, rfl, rfl⟩

theorem profile_preferred : field (gatherProfile s ++ tail) 38 1 = leNat (leBytes 1 (Ref.toCode s.du.preferred)) := rfl

theorem profile_checkWord (n : Nat) : field (gatherProfile s ++ leBytes 4 n) 69 4 = leNat (leBytes 4 n) := rfl

theorem profile_enables : readEnables (gatherProfile s ++ tail) 62 = some s.clu.enables := by
  have hbool {off : Nat} {b : Bool} (h : field (gatherProfile s ++ tail) off 1 = leNat (leBytes 1 (boolCode b))) :
      boolOfCode (field (gatherProfile s ++ tail) off 1) = some b := h ▸ leNat_boolCode b
  unfold readEnables
  rw [hbool (b := s.clu.enables.clock) rfl, hbool (b := s.clu.enables.ref) rfl, hbool (b := s.clu.enables.twin) rfl,
    hbool (b := s.clu.enables.group) rfl, hbool (b := s.clu.enables.journal) rfl, hbool (b := s.clu.enables.port) rfl,
    hbool (b := s.clu.enables.startup) rfl]

theorem profile_ref :
    readRefSettings (gatherProfile s ++ tail) 20 = some ⟨decide (s.monA.state ≠ .disabled),
        (clampCeiling (leNat (leBytes 4 s.monA.ceiling))).value,
        (clampDelay (leInt (leSigned 4 s.tb.delayA.active))).value⟩ ∧
      readRefSettings (gatherProfile s ++ tail) 29 = some ⟨decide (s.monB.state ≠ .disabled),
        (clampCeiling (leNat (leBytes 4 s.monB.ceiling))).value,
        (clampDelay (leInt (leSigned 4 s.tb.delayB.active))).value⟩ := by
  constructor
  · unfold readRefSettings
    rw [show field (gatherProfile s ++ tail) 20 1 = leNat (leBytes 1 (boolCode (decide (s.monA.state ≠ .disabled)))) from rfl,
      leNat_boolCode]
    rfl
  · unfold readRefSettings
    rw [show field (gatherProfile s ++ tail) 29 1 = leNat (leBytes 1 (boolCode (decide (s.monB.state ≠ .disabled)))) from rfl,
      leNat_boolCode]
    rfl

theorem profile_selectors :
    readSelectors (gatherProfile s ++ tail) 51 = some ⟨s.aj.selectors.mode,
      ⟨s.aj.selectors.first.on, leNat (leBytes 2 s.aj.selectors.first.code), leNat (leBytes 2 s.aj.selectors.first.mask)⟩,
      ⟨s.aj.selectors.second.on, leNat (leBytes 2 s.aj.selectors.second.code),
        leNat (leBytes 2 s.aj.selectors.second.mask)⟩⟩ := by
  have hmode : selectorModeOfCode (field (gatherProfile s ++ tail) 51 1) = some s.aj.selectors.mode := by
    rw [show field (gatherProfile s ++ tail) 51 1 = leNat (leBytes 1 (SelectorMode.toCode s.aj.selectors.mode)) from rfl]
    cases s.aj.selectors.mode <;> rfl
  have hfirst : readSelector (gatherProfile s ++ tail) 52 = some ⟨s.aj.selectors.first.on,
      leNat (leBytes 2 s.aj.selectors.first.code), leNat (leBytes 2 s.aj.selectors.first.mask)⟩ := by
    unfold readSelector
    rw [show field (gatherProfile s ++ tail) 52 1 = leNat (leBytes 1 (boolCode s.aj.selectors.first.on)) from rfl,
      leNat_boolCode]
    rfl
  have hsecond : readSelector (gatherProfile s ++ tail) 57 = some ⟨s.aj.selectors.second.on,
      leNat (leBytes 2 s.aj.selectors.second.code), leNat (leBytes 2 s.aj.selectors.second.mask)⟩ := by
    unfold readSelector
    rw [show field (gatherProfile s ++ tail) 57 1 = leNat (leBytes 1 (boolCode s.aj.selectors.second.on)) from rfl,
      leNat_boolCode]
    rfl
  unfold readSelectors
  rw [hmode, hfirst, hsecond]

end

/-- A reference's part in range is read as it was written. -/
theorem refSettings_of_inRange {e : Bool} {c : Nat} {d : Int} (hc : 10 ≤ c ∧ c ≤ 1000000) (hd : delayInRange d) :
    (⟨e, (clampCeiling (leNat (leBytes 4 c))).value, (clampDelay (leInt (leSigned 4 d))).value⟩ : RefSettings) =
      ⟨e, c, d⟩ := by
  obtain ⟨hlo, hhi⟩ := hd
  have hceiling : (clampCeiling (leNat (leBytes 4 c))).value = c := by
    rw [leNat_leBytes 4 c (by omega)]
    exact clampQ_of_inRange hc.1 hc.2
  have hdelay : (clampDelay (leInt (leSigned 4 d))).value = d := by
    rw [leInt_leSigned_delay ⟨hlo, hhi⟩]
    show max (-100000) (min 100000 d) = d
    omega
  rw [hceiling, hdelay]

theorem clampServo_of_inRange {x : Servo} (h : x.InRange) : (clampServo x.gp x.gi x.threshold).value = x := by
  obtain ⟨hgp, hgi, hlo, hhi⟩ := h
  show (⟨(clampQ 0 1000 x.gp).value, (clampQ 0 250 x.gi).value, (clampQ 10000 10000000 x.threshold).value⟩ : Servo) = x
  rw [clampQ_of_inRange (Nat.zero_le _) hgp, clampQ_of_inRange (Nat.zero_le _) hgi, clampQ_of_inRange hlo hhi]

theorem clampTrace_of_inRange {x : Trace} (h : x.InRange) :
    (clampTrace x.growth x.advisory x.limit x.interval).value = x := by
  obtain ⟨hg, hg', ha, hal, hl, hi, hi'⟩ := h
  show (⟨(clampQ 1 10000 x.growth).value, min (clampQ 1000 1000000 x.advisory).value (clampQ 1000 1000000 x.limit).value,
    (clampQ 1000 1000000 x.limit).value, (clampQ 10 3600 x.interval).value⟩ : Trace) = x
  rw [clampQ_of_inRange hg hg', clampQ_of_inRange ha (hal.trans hl), clampQ_of_inRange (ha.trans hal) hl,
    clampQ_of_inRange hi hi', Nat.min_eq_left hal]

theorem readServo_gatherProfile {s : State} (h : s.tb.servo.active.InRange) (tail : List Byte) :
    (clampServo (field (gatherProfile s ++ tail) 0 2) (field (gatherProfile s ++ tail) 2 2)
      (field (gatherProfile s ++ tail) 4 4)).value = s.tb.servo.active := by
  obtain ⟨hgp, hgi, hthreshold⟩ := profile_servo s tail
  rw [hgp, hgi, hthreshold, leNat_leBytes 2 _ (by omega), leNat_leBytes 2 _ (by omega), leNat_leBytes 4 _ (by omega),
    clampServo_of_inRange h]

theorem readTrace_gatherProfile {s : State} (h : s.tb.trace.active.InRange) (tail : List Byte) :
    (clampTrace (field (gatherProfile s ++ tail) 8 2) (field (gatherProfile s ++ tail) 10 4)
      (field (gatherProfile s ++ tail) 14 4) (field (gatherProfile s ++ tail) 18 2)).value = s.tb.trace.active := by
  obtain ⟨hg, ha, hl, hi⟩ := profile_trace s tail
  rw [hg, ha, hl, hi, leNat_leBytes 2 _ (by omega), leNat_leBytes 4 _ (by omega), leNat_leBytes 4 _ (by omega),
    leNat_leBytes 2 _ (by omega), clampTrace_of_inRange h]

/-- What is gathered of settings in range is read as those settings (R181). -/
theorem readProfile_gatherProfile {s : State} (h : s.SettingsWf) (tail : List Byte) :
    readProfile (gatherProfile s ++ tail) = some
      { servo := s.tb.servo.active
        trace := s.tb.trace.active
        refA := ⟨decide (s.monA.state ≠ .disabled), s.monA.ceiling, s.tb.delayA.active⟩
        refB := ⟨decide (s.monB.state ≠ .disabled), s.monB.ceiling, s.tb.delayB.active⟩
        preferred := s.du.preferred
        twin := ⟨s.tlu.limit, s.tlu.allowance, s.tlu.period⟩
        venue := s.tlu.venue
        startAtReset := s.tlu.startAtReset
        selectors := s.aj.selectors
        enables := s.clu.enables } := by
  obtain ⟨⟨hservo, _⟩, ⟨htrace, _⟩, ⟨hdelayA, _⟩, ⟨hdelayB, _⟩, _, hmon, hlimit, hlimit', hallow, hperiod, hperiod', hvenue,
    hfirst, hsecond⟩ := h
  have hceilA : 10 ≤ s.monA.ceiling ∧ s.monA.ceiling ≤ 1000000 := ⟨(hmon .a).1, (hmon .a).2.1⟩
  have hceilB : 10 ≤ s.monB.ceiling ∧ s.monB.ceiling ≤ 1000000 := ⟨(hmon .b).1, (hmon .b).2.1⟩
  obtain ⟨hrefA, hrefB⟩ := profile_ref s tail
  rw [refSettings_of_inRange hceilA hdelayA] at hrefA
  rw [refSettings_of_inRange hceilB hdelayB] at hrefB
  have hpreferred : refOfCode (field (gatherProfile s ++ tail) 38 1) = some s.du.preferred := by
    rw [profile_preferred]
    cases s.du.preferred <;> rfl
  have hstart : boolOfCode (field (gatherProfile s ++ tail) 50 1) = some s.tlu.startAtReset := by
    rw [(profile_twin s tail).2.2.2.2, leNat_boolCode]
  have hselectors : profileSelectors (gatherProfile s ++ tail) = some s.aj.selectors := by
    have hcode {x : Selector} (hx : x.inRange = true) :
        (⟨x.on, leNat (leBytes 2 x.code), leNat (leBytes 2 x.mask)⟩ : Selector) = x := by
      unfold Selector.inRange at hx
      rw [Bool.and_eq_true, decide_eq_true_eq, decide_eq_true_eq] at hx
      rw [leNat_leBytes 2 _ (by omega), leNat_leBytes 2 _ (by omega)]
    unfold profileSelectors
    rw [profile_selectors, hcode hfirst, hcode hsecond]
    exact if_pos ⟨hfirst, hsecond⟩
  have hservoRead := readServo_gatherProfile hservo tail
  have htraceRead := readTrace_gatherProfile htrace tail
  have htwinRead : (clampTwin (field (gatherProfile s ++ tail) 39 4) (field (gatherProfile s ++ tail) 43 4)
      (field (gatherProfile s ++ tail) 47 1)).value = ⟨s.tlu.limit, s.tlu.allowance, s.tlu.period⟩ := by
    obtain ⟨hl, ha, hp, _, _⟩ := profile_twin s tail
    rw [hl, ha, hp, leNat_leBytes 4 _ (by omega), leNat_leBytes 4 _ (by omega), leNat_leBytes 1 _ (by omega)]
    show (⟨(clampQ 1000 1000000 s.tlu.limit).value, (clampQ 0 100000 s.tlu.allowance).value,
      (clampQ 4 60 s.tlu.period).value⟩ : TwinQuantities) = _
    rw [clampQ_of_inRange hlimit hlimit', clampQ_of_inRange (Nat.zero_le _) hallow, clampQ_of_inRange hperiod hperiod']
  have hvenueRead : field (gatherProfile s ++ tail) 48 2 = s.tlu.venue := by
    rw [(profile_twin s tail).2.2.2.1, leNat_leBytes 2 _ (by omega)]
  unfold readProfile
  rw [hrefA, hrefB, hpreferred, hstart, hselectors, profile_enables, hservoRead, htraceRead, htwinRead, hvenueRead]

/-- The closed profile passes its check (R181). -/
theorem profileCheck_closeProfile (s : State) : profileCheck (closeProfile (gatherProfile s)) = true := by
  have htake : (closeProfile (gatherProfile s)).take 69 = gatherProfile s := List.take_left' (gatherProfile_length s)
  unfold profileCheck
  rw [htake]
  unfold closeProfile
  rw [profile_checkWord, leNat_leBytes 4 _ (crc32 (gatherProfile s)).isLt]
  exact decide_eq_true rfl

/-- Settles O55. -/
theorem settingsAreSaved : Obligations.SettingsAreSaved := by
  refine ⟨fun s q h => ⟨closeProfile (gatherProfile s), ?_, profileCheck_closeProfile s, ?_, fun hwf => ?_, ?_⟩,
    fun s sv q rest readBack hrun hsave hqueue hservice hlength => ?_⟩
  · exact List.length_append.trans (congrArg₂ (· + ·) (gatherProfile_length s) (leBytes_length 4 _))
  · intro flag ref selector servo trace e
    rw [show (closeProfile (gatherProfile s)).take 69 = gatherProfile s from List.take_left' (gatherProfile_length s)]
    have hpreferred : leBytes 1 (Ref.toCode s.du.preferred) = [match s.du.preferred with | .a => 1#8 | .b => 2#8] := by
      cases s.du.preferred <;> rfl
    have hmode : leBytes 1 (SelectorMode.toCode s.aj.selectors.mode) =
        [match s.aj.selectors.mode with | .single => 0#8 | .dual => 1#8] := by
      cases s.aj.selectors.mode <;> rfl
    have hflag (b : Bool) : leBytes 1 (boolCode b) = [flag b] := leBytes_boolCode b
    simp only [ref, selector, servo, trace, e]
    simp only [gatherProfile, monitorProfile, fieldBytes, servoFields, traceFields, twinConfigFields, selectorsFields,
      selectorFields, enableFields, fx, List.map_cons, List.map_nil, List.flatMap_cons, List.flatMap_nil, List.cons_append,
      List.nil_append, List.append_nil, List.append_assoc, hpreferred, hmode, hflag] <;> rfl
  · unfold loadProfile
    rw [profileCheck_closeProfile, if_pos rfl]
    exact readProfile_gatherProfile hwf _
  · refine (live_of_running h.1 _).trans (congrArg _ ?_)
    obtain ⟨htake, rest, hqueue⟩ := State.takeableOf_of_canTake h
    unfold settingsSave
    rw [htake]
    unfold State.beginService
    rw [hqueue]
    rfl
  · intro outcome
    obtain ⟨s1, hs1⟩ : ∃ s1, s1 = { s with ss := { s.ss with profile := readBack, save := none } } := ⟨_, rfl⟩
    obtain ⟨payload, hpayload⟩ : ∃ payload, payload = replyPayload .ok
      [fx 1 outcome.toCode, fx 1 4, fx 1 (boolCode sv.pendingServo), fx 1 (boolCode sv.pendingTrace),
        fx 1 (boolCode sv.pendingA), fx 1 (boolCode sv.pendingB)] := ⟨_, rfl⟩
    have hclu : s1.clu = s.clu := by rw [hs1]
    have hlogged : s.clu.Noticed (s1.admin (.settingsSaved outcome)).clu := hclu ▸ State.submit_noticed s1 _
    obtain ⟨hqueue', hreplies, hcounters⟩ := hlogged.requests
    have hanswer : settingsSaveComplete readBack s = (s1.admin (.settingsSaved outcome)).answer q payload := by
      unfold settingsSaveComplete
      rw [hsave]
      dsimp only
      rw [if_pos hlength, ← hs1]
      show (s1.admin (.settingsSaved outcome)).answerInService _ = _
      unfold State.answerInService
      rw [hqueue', hqueue]
      dsimp only
      rw [if_pos hservice, hpayload]
      rfl
    have hsame : s.SameBut s1 [.ss] := by
      intro b hb
      rw [hs1]
      cases b <;> first | rfl | exact absurd hb (by decide)
    refine ⟨_, (live_of_running hrun _).trans (congrArg _ hanswer), ?_, ?_, ?_, ?_⟩
    · exact ((hsame.mono (by decide)).trans ((State.admin_same _ _).mono (by decide))).trans
        ((State.answer_same _ _ _).mono (by decide))
    · have hadmin : (s1.admin (.settingsSaved outcome)).ss = s1.ss := State.admin_same _ _ .ss (by decide)
      show (s1.admin (.settingsSaved outcome)).ss = _
      rw [hadmin, hs1]
    · show (s1.admin (.settingsSaved outcome)).aj = _
      exact State.admin_aj_congr (hs1 ▸ rfl) (hs1 ▸ rfl) _
    · rw [← hpayload]
      exact ⟨congrArg List.tail hqueue', congrArg (· ++ _) hreplies,
        congrArg (fun c : ControlCounters => { c with served := bump c.served }) hcounters⟩

end Sys2Proof.Machine
end


section
/-! The control lists keep their bounds over every command (R163, R164, R166, Table 9-1). -/

namespace Sys2Proof.Machine

/-- CLU with its request queue and replies as they were and no more notices than fit. -/
structure Control.SameLists (c d : Control) : Prop where
  queue : d.queue = c.queue
  replies : d.replies = c.replies
  bounded : c.notices.length ≤ noticeListMax → d.notices.length ≤ noticeListMax

namespace Control.SameLists

variable {c d e : Control}

theorem refl (c : Control) : c.SameLists c := ⟨rfl, rfl, id⟩

theorem trans (h : c.SameLists d) (k : d.SameLists e) : c.SameLists e :=
  ⟨k.queue.trans h.queue, k.replies.trans h.replies, k.bounded ∘ h.bounded⟩

theorem of_noticed (h : c.Noticed d) : c.SameLists d := ⟨h.requests.queue, h.requests.replies, h.bounded⟩

theorem held (h : c.SameLists d) : d.repliesHeld = c.repliesHeld := by
  unfold Control.repliesHeld Control.inService
  rw [h.queue, h.replies]

theorem wf (h : c.SameLists d) (hc : c.Wf) : d.Wf := by
  obtain ⟨hqueue, hnotices, hheld, hservice⟩ := hc
  exact ⟨h.queue ▸ hqueue, h.bounded hnotices, h.held ▸ hheld, h.queue ▸ hservice⟩

end Control.SameLists

theorem State.Logged.sameLists {s t : State} (h : s.Logged t) : s.clu.SameLists t.clu := .of_noticed h.noticed

/-! ### Replies -/

/-- Behind the front entry none is IN_SERVICE. -/
theorem Control.inService_of_none {x : Control} (h : noneInService x.queue = true) : x.inService = false := by
  unfold Control.inService
  cases hq : x.queue with
  | nil => rfl
  | cons q rest =>
    rw [hq] at h
    exact decide_eq_false (of_decide_eq_true (List.all_eq_true.mp h q (List.mem_cons_self ..)))

/-- The front entry leaves with a reply in a free place. -/
theorem Control.Wf.of_answered {x y : Control} (hx : x.Wf) (hroom : x.replies.length < replyListMax)
    (hqueue : y.queue = x.queue.tail) (hreplies : y.replies.length = x.replies.length + 1)
    (hnotices : y.notices.length ≤ noticeListMax) : y.Wf := by
  obtain ⟨hlength, _, _, hservice⟩ := hx
  have hnone : y.inService = false := Control.inService_of_none (hqueue ▸ hservice)
  refine ⟨?_, hnotices, ?_, ?_⟩
  · rw [hqueue, List.length_tail]
    omega
  · unfold Control.repliesHeld
    rw [hnone, hreplies]
    exact hroom
  · rw [hqueue]
    exact List.all_eq_true.mpr fun q hq => List.all_eq_true.mp hservice q (List.mem_of_mem_tail hq)

/-- The request at the front is taken only with a free place for its reply. -/
theorem State.takeable_room {s : State} {q : ControlRequest} (h : s.takeable = some q) :
    s.clu.replies.length < replyListMax ∧ q.status = .waiting ∧ ∃ rest, s.clu.queue = q :: rest := by
  unfold State.takeable at h
  split at h
  · cases h
  · next q' rest hqueue =>
    split at h
    · next hroom =>
      cases h
      exact ⟨hroom.2, hroom.1, rest, hqueue⟩
    · cases h

theorem State.takeableOf_room {s : State} {kind : Nat} {q : ControlRequest} (h : s.takeableOf kind = some q) :
    s.clu.replies.length < replyListMax ∧ q.status = .waiting ∧ ∃ rest, s.clu.queue = q :: rest := by
  unfold State.takeableOf at h
  split at h
  · next q' htake =>
    split at h
    · cases h
      exact State.takeable_room htake
    · cases h
  · cases h

theorem serveFront_tail (qs : List ControlRequest) : (serveFront qs).tail = qs.tail := by cases qs <;> rfl

/-- A request in service holds the place of its reply. -/
theorem State.beginService_wf {s : State} (h : s.clu.Wf) (hroom : s.clu.replies.length < replyListMax) :
    s.beginService.clu.Wf := by
  obtain ⟨hlength, hnotices, _, hservice⟩ := h
  refine ⟨(serveFront_length _).trans_le hlength, hnotices, ?_, ?_⟩
  · have hone : boolCode s.beginService.clu.inService ≤ 1 := by cases s.beginService.clu.inService <;> decide
    show s.clu.replies.length + boolCode s.beginService.clu.inService ≤ replyListMax
    omega
  · exact (congrArg noneInService (serveFront_tail s.clu.queue)).trans hservice

theorem takeRequest_clu {kind : Nat} {act : List Byte → State → Acted}
    (h : ∀ p (x : State), x.clu.SameLists (act p x).state.clu) {s : State} (hs : s.clu.Wf) :
    (takeRequest kind act s).clu.Wf := by
  unfold takeRequest
  split
  · exact hs
  · next q hq =>
    obtain ⟨hroom, _, _⟩ := State.takeableOf_room hq
    have hlists := h q.payload s.beginService
    obtain ⟨hqueue, hreplies, hbounded⟩ := hlists
    refine Control.Wf.of_answered hs hroom ?_ ?_ (hbounded hs.2.1)
    · exact (congrArg List.tail hqueue).trans (serveFront_tail _)
    · exact List.length_append.trans (congrArg (·.length + 1) hreplies)

/-- The reply to the request in service takes the place held for it. -/
theorem answerInService_clu {s : State} (hs : s.clu.Wf) (payload : List Byte) : (s.answerInService payload).clu.Wf := by
  unfold State.answerInService
  split
  · exact hs
  · next q rest hqueue =>
    split
    · next hservice =>
      have hheld : s.clu.inService = true := by
        unfold Control.inService
        rw [hqueue]
        exact decide_eq_true hservice
      have hroom : s.clu.replies.length < replyListMax := by
        have := hs.2.2.1
        unfold Control.repliesHeld at this
        rw [hheld] at this
        exact this
      exact Control.Wf.of_answered hs hroom rfl List.length_append hs.2.1
    · exact hs

/-! ### CLU's own commands -/

theorem Control.arrive_wf {x : Control} (hx : x.Wf) {q : ControlRequest} (hq : q.status = .waiting) : (x.arrive q).Wf := by
  obtain ⟨hlength, hnotices, hheld, hservice⟩ := hx
  have hnot : q.status ≠ .inService := by rw [hq]; decide
  unfold Control.arrive
  split
  · next hroom =>
    cases hqueue : x.queue with
    | nil =>
      rw [hqueue] at hroom
      refine ⟨hroom, hnotices, ?_, rfl⟩
      have hold : x.inService = false := by unfold Control.inService; rw [hqueue]
      have hnew : Control.inService { x with queue := [] ++ [q] } = false := decide_eq_false hnot
      unfold Control.repliesHeld at hheld ⊢
      rw [hold] at hheld
      rw [hnew]
      exact hheld
    | cons front rest =>
      rw [hqueue] at hroom hservice
      refine ⟨List.length_append.trans_le hroom, hnotices, ?_, ?_⟩
      · have hsame : Control.inService { x with queue := (front :: rest) ++ [q] } = x.inService := by
          unfold Control.inService
          rw [hqueue]
          rfl
        unfold Control.repliesHeld at hheld ⊢
        rw [hsame]
        exact hheld
      · show noneInService (rest ++ [q]) = true
        unfold noneInService at hservice ⊢
        rw [List.all_append, show rest.all _ = true from hservice]
        exact List.all_eq_true.mpr fun y hy => decide_eq_true (List.mem_singleton.mp hy ▸ hnot)
  · split
    · next hroom =>
      refine ⟨hlength, hnotices, ?_, hservice⟩
      unfold Control.repliesHeld at hroom ⊢
      show (x.replies ++ [busyReply q]).length + _ ≤ replyListMax
      rw [List.length_append]
      have hsame : Control.inService { x with
        replies := x.replies ++ [busyReply q]
        counters := { x.counters with refusedBusy := bump x.counters.refusedBusy } } = x.inService := rfl
      rw [hsame]
      simp only [List.length_singleton]
      omega
    · exact ⟨hlength, hnotices, hheld, hservice⟩

theorem Control.frameArrived_wf {x : Control} (hx : x.Wf) (frame : List Byte) : (x.frameArrived frame).Wf := by
  unfold Control.frameArrived
  split
  · exact Control.arrive_wf (x := { x with rx := [], counters := { x.counters with received := bump x.counters.received } })
      (q := readRequest frame) hx rfl
  · exact hx

theorem Control.choose_wf {x : Control} (hx : x.Wf) : x.choose.Wf := by
  obtain ⟨hlength, hnotices, hheld, hservice⟩ := hx
  unfold Control.choose
  split
  · next f rest _ hreplies =>
    refine ⟨hlength, hnotices, ?_, hservice⟩
    unfold Control.repliesHeld at hheld ⊢
    rw [hreplies, List.length_cons] at hheld
    have hsame : Control.inService { x with tx := .reply f, replies := rest } = x.inService := rfl
    show rest.length + _ ≤ _
    rw [hsame]
    omega
  · next f rest _ hnotice =>
    refine ⟨hlength, ?_, hheld, hservice⟩
    rw [hnotice, List.length_cons] at hnotices
    exact Nat.le_of_succ_le hnotices
  · exact ⟨hlength, hnotices, hheld, hservice⟩

theorem Control.finish_wf {x : Control} (hx : x.Wf) : x.finish.Wf := by
  unfold Control.finish
  split <;> exact hx

/-! ### Every command -/

theorem answerBusyReply_clu {s : State} (hs : s.clu.Wf) : (answerBusyReply s).clu.Wf := by
  unfold answerBusyReply
  split
  · exact hs
  · next q rest hqueue =>
    split
    · next h => exact Control.Wf.of_answered hs h.2 (congrArg List.tail hqueue).symm List.length_append hs.2.1
    · exact hs

theorem unknownRequest_clu {s : State} (hs : s.clu.Wf) : (unknownRequest s).clu.Wf := by
  have hrefused {q : ControlRequest} (h : s.takeable = some q) (st : Status) (c : ControlCounters) :
      (s.refuseForm q st c).clu.Wf :=
    Control.Wf.of_answered hs (State.takeable_room h).1 rfl List.length_append hs.2.1
  unfold unknownRequest
  split
  · exact hs
  · next q hq =>
    split
    · exact hrefused hq _ _
    · split
      · exact hrefused hq _ _
      · exact hs

theorem controlFrame_clu {s : State} (hs : s.clu.Wf) (bytes : List Byte) : (controlFrame bytes s).clu.Wf := by
  unfold controlFrame
  split
  · exact Control.frameArrived_wf hs _
  · exact hs
  · exact hs
  · exact hs

theorem controlBadLength_clu {s : State} (hs : s.clu.Wf) (bytes : List Byte) : (controlBadLength bytes s).clu.Wf := by
  unfold controlBadLength
  split <;> exact hs

theorem controlByteDiscarded_clu {s : State} (hs : s.clu.Wf) (byte : Byte) : (controlByteDiscarded byte s).clu.Wf := by
  unfold controlByteDiscarded
  split <;> exact hs

theorem controlFrameSent_clu {s : State} (hs : s.clu.Wf) : (controlFrameSent s).clu.Wf := by
  unfold controlFrameSent
  split
  · exact hs
  all_goals exact Control.choose_wf (Control.finish_wf hs)

theorem tickReaction_sameLists (s : State) (b : Boundary) : s.clu.SameLists (s.tickReaction b).clu := by
  have h := Control.SameLists.of_noticed (s.clu.notice_noticed .tick (tickNotice b s.du.trace s.du.bound))
  unfold State.tickReaction
  cases s.clu.tick with
  | off => exact .refl _
  | once => exact ⟨h.queue, h.replies, h.bounded⟩
  | eachSecond => exact h

theorem secondBoundary_sameLists (s : State) : s.clu.SameLists (secondBoundary s).clu := by
  unfold secondBoundary
  split
  · exact .refl _
  · next b rest _ =>
    refine Control.SameLists.trans (State.Logged.sameLists ?_) (tickReaction_sameLists _ b)
    exact .countBoundary (.traceChanged (.setDu (.setTb (.setTb (.refl s) _) _) _) _ _)

theorem handOver_clu {s : State} (hs : s.clu.Wf) (x : Internal) (seq : Option Nat) (t : Nat) :
    (s.handOver x seq t).clu.Wf := by
  have hremoved : s.clu.SameLists (s.removeInternal x).clu := by cases x <;> exact ⟨rfl, rfl, id⟩
  have hsubmitted := (hremoved.trans (.of_noticed ((s.removeInternal x).submit_noticed (x.body seq t)))).wf hs
  unfold State.handOver State.afterInternal
  cases x with
  | clock | auction => exact hsubmitted
  | marker m => exact answerInService_clu hsubmitted _

theorem internalGrant_clu {s : State} (hs : s.clu.Wf) : (internalGrant s).clu.Wf := by
  unfold internalGrant
  split
  · exact hs
  · split
    · exact hs
    · next x _ =>
      split
      · exact (Control.SameLists.of_noticed (State.Logged.refl s).exhaust.noticed).wf hs
      · exact handOver_clu (s := s.beginGrant.setSa _) hs x _ _

theorem unsequencedHandoff_clu {s : State} (hs : s.clu.Wf) : (unsequencedHandoff s).clu.Wf := by
  unfold unsequencedHandoff
  split
  · split
    · exact hs
    · exact handOver_clu hs _ _ _
  · exact hs

theorem gap_sameLists (s : State) : s.clu.SameLists s.gap.clu := by
  unfold State.gap
  split
  · exact .refl _
  · exact .of_noticed (s.clu.levelNotices_noticed _ _ _)
  · exact .of_noticed (s.clu.notice_noticed _ _)

theorem selectConfig_sameLists (payload : List Byte) (s : State) : s.clu.SameLists (selectConfig payload s).state.clu := by
  unfold selectConfig
  split
  · exact .refl _
  · next new _ =>
    split
    · exact .of_noticed (State.submit_noticed { s with aj := { s.aj with selectors := new } } _)
    · exact .refl _

theorem noticeConfig_sameLists (payload : List Byte) (s : State) : s.clu.SameLists (noticeConfig payload s).state.clu := by
  unfold noticeConfig
  split <;> exact ⟨rfl, rfl, id⟩

theorem journalMark_clu {s : State} (hs : s.clu.Wf) : (journalMark s).clu.Wf := by
  unfold journalMark
  split
  · exact hs
  · next q hq => exact State.beginService_wf hs (State.takeableOf_room hq).1

theorem settingsSave_clu {s : State} (hs : s.clu.Wf) : (settingsSave s).clu.Wf := by
  unfold settingsSave
  split
  · exact hs
  · next q hq => exact State.beginService_wf hs (State.takeableOf_room hq).1

theorem settingsSaveComplete_clu {s : State} (hs : s.clu.Wf) (readBack : List Byte) :
    (settingsSaveComplete readBack s).clu.Wf := by
  unfold settingsSaveComplete
  split
  · exact hs
  · next sv _ =>
    split
    · refine answerInService_clu ((Control.SameLists.of_noticed ?_).wf hs) _
      exact State.submit_noticed { s with ss := { s.ss with profile := readBack, save := none } } _
    · exact hs

/-- The other requests become ANSWER_BUSY; none is in service. -/
theorem restartControl_wf {s : State} (hs : s.clu.Wf) : s.restartControl.clu.Wf := by
  obtain ⟨hlength, hnotices, hheld, hservice⟩ := hs
  have hanswer (q : ControlRequest) : q.answerLater.status = .inService ↔ q.status = .inService := by
    unfold ControlRequest.answerLater
    cases h : q.status <;> simp [h]
  have hsame : s.restartControl.clu.inService = s.clu.inService := by
    unfold Control.inService
    show (match s.clu.queue.map ControlRequest.answerLater with
      | [] => false
      | q :: _ => decide (q.status = EntryStatus.inService)) = _
    cases s.clu.queue with
    | nil => rfl
    | cons q _ => exact decide_eq_decide.mpr (hanswer q)
  refine ⟨(List.length_map _).trans_le hlength, hnotices, ?_, ?_⟩
  · unfold Control.repliesHeld at hheld ⊢
    rw [hsame]
    exact hheld
  · show noneInService (s.clu.queue.map ControlRequest.answerLater).tail = true
    rw [← List.map_tail]
    refine List.all_eq_true.mpr fun q hq => ?_
    obtain ⟨e, he, rfl⟩ := List.mem_map.mp hq
    have := of_decide_eq_true (List.all_eq_true.mp hservice e he)
    exact decide_eq_true fun h => this ((hanswer e).mp h)

theorem restart_clu {s : State} (hs : s.clu.Wf) : (restart s).clu.Wf := by
  unfold restart
  split
  · exact hs
  · next q hq =>
    obtain ⟨hroom, _, _⟩ := State.takeableOf_room hq
    have hblocks : s.beginService.clu.SameLists s.beginService.restartBlocks.clu :=
      .of_noticed (State.Logged.refl s.beginService).restartBlocks.noticed
    dsimp only
    generalize s.beginService.restartBlocks = u at hblocks ⊢
    obtain ⟨hqueue, hreplies, hbounded⟩ := hblocks
    refine restartControl_wf (Control.Wf.of_answered hs hroom ?_ ?_ (hbounded hs.2.1))
    · exact (congrArg List.tail hqueue).trans (serveFront_tail _)
    · exact List.length_append.trans (congrArg (·.length + 1) hreplies)

theorem actOf_clu (c : Instr) {s : State} (hs : s.clu.Wf) : (actOf c s).clu.Wf := by
  cases hlog : onlyLogs c with
  | true => exact (Control.SameLists.of_noticed (actOf_logged hlog s).noticed).wf hs
  | false =>
    cases hreq : loggingRequest c with
    | some x =>
      rw [actOf_loggingRequest (kind := x.1) (act := x.2) hreq]
      exact takeRequest_clu
        (fun p y => .of_noticed (loggingRequest_logged (kind := x.1) (act := x.2) hreq p y).noticed) hs
    | none =>
      cases c with
      | secondBoundary => exact (secondBoundary_sameLists s).wf hs
      | internalGrant => exact internalGrant_clu hs
      | unsequencedHandoff => exact unsequencedHandoff_clu hs
      | controlFrame bytes => exact controlFrame_clu hs bytes
      | controlBadLength bytes => exact controlBadLength_clu hs bytes
      | controlByteDiscarded byte => exact controlByteDiscarded_clu hs byte
      | answerBusyReply => exact answerBusyReply_clu hs
      | unknownRequest => exact unknownRequest_clu hs
      | controlTransmitStart => exact Control.choose_wf hs
      | controlFrameSent => exact controlFrameSent_clu hs
      | journalRead => exact takeRequest_clu (fun _ _ => ⟨rfl, rfl, id⟩) hs
      | journalRelease => exact takeRequest_clu (fun p x =>
          gap_sameLists { x with aj := x.aj.release (min (field p 0 4) x.aj.newest) }) hs
      | journalMark => exact journalMark_clu hs
      | selectConfig => exact takeRequest_clu selectConfig_sameLists hs
      | noticeConfig => exact takeRequest_clu noticeConfig_sameLists hs
      | settingsSave => exact settingsSave_clu hs
      | settingsSaveComplete readBack => exact settingsSaveComplete_clu hs readBack
      | restart => exact restart_clu hs
      | _ => first | (cases hreq; done) | cases hlog

theorem startUpFrom_clu_wf (cause : ResetCause) (s : State) : (startUpFrom cause s).clu.Wf := by
  refine (Control.SameLists.of_noticed (startUpFrom_logged cause s).noticed).wf ?_
  exact ⟨Nat.zero_le _, Nat.zero_le _, Nat.zero_le _, rfl⟩

end Sys2Proof.Machine
end


section
/-! The group records keep their form over every command (R115, R117, R118, R126). -/

namespace Sys2Proof.Machine

namespace Group.Wf

variable {x : Group} (h : x.Wf)

include h

theorem expired (quality : TraceState) : (x.expired quality).Wf := by
  obtain ⟨hfields, hsealed, hrest⟩ := h
  unfold Group.expired
  unfold Group.fieldsOf at hfields
  unfold Group.sealedUntilEnd at hsealed
  cases hp : x.phase with
  | scheduled | call =>
    rw [hp] at hfields hsealed
    exact ⟨hfields, hsealed, hrest⟩
  | random =>
    rw [hp] at hfields hsealed
    refine ⟨?_, decide_eq_true rfl, hrest⟩
    simp only [Bool.and_eq_true] at hfields
    obtain ⟨⟨hset, hcause⟩, _⟩ := hfields
    simp only [Group.fieldsOf, Group.close, Bool.and_eq_true]
    exact ⟨⟨hset, hcause⟩, rfl⟩
  | dormant | suspended | closed | abandoned =>
    dsimp only
    exact ⟨by unfold Group.fieldsOf; rw [hp]; rw [hp] at hfields; exact hfields,
      by unfold Group.sealedUntilEnd; rw [hp]; rw [hp] at hsealed; exact hsealed, hrest⟩

theorem advance (quality : TraceState) (now : Nat) : (x.advance quality now).Wf := by
  unfold Group.advance
  split
  · exact h.expired quality
  · exact h

omit h in
theorem caught {x : Group} (h : x.Wf) (quality : TraceState) (now n : Nat) : (Group.caught quality now n x).Wf := by
  induction n generalizing x with
  | zero => exact h
  | succ n ih => exact ih (h.advance quality now)

/-- An auction that is on has its instants, its window and its draw, and its draws are sealed. -/
theorem of_effective {now : Nat} (heff : (x.effective now).inAuction = true) :
    x.tc.isSome = true ∧ x.tMin.isSome = true ∧ x.window.isSome = true ∧ x.draw.isSome = true ∧
      x.closeQuality.isNone = true ∧ x.revealed < x.number := by
  obtain ⟨hfields, hsealed, _⟩ := h
  unfold Group.fieldsOf at hfields
  unfold Group.sealedUntilEnd at hsealed
  unfold Group.effective at heff
  cases hp : x.phase with
  | scheduled | call | random =>
    rw [hp] at hfields hsealed
    simp only [Bool.and_eq_true] at hfields
    obtain ⟨⟨⟨⟨⟨⟨htc, htm⟩, hw⟩, hd⟩, _⟩, _⟩, hq⟩ := hfields
    exact ⟨htc, htm, hw, hd, hq, of_decide_eq_true hsealed⟩
  | dormant | suspended | closed | abandoned =>
    rw [hp] at heff
    cases heff

/-- So has a suspended one. -/
theorem of_suspended (hp : x.phase = .suspended) :
    x.tc.isSome = true ∧ x.tMin.isSome = true ∧ x.window.isSome = true ∧ x.draw.isSome = true ∧
      x.closeQuality.isNone = true ∧ x.revealed < x.number := by
  obtain ⟨hfields, hsealed, _⟩ := h
  unfold Group.fieldsOf at hfields
  unfold Group.sealedUntilEnd at hsealed
  rw [hp] at hfields hsealed
  simp only [Bool.and_eq_true] at hfields
  obtain ⟨⟨⟨⟨⟨⟨htc, htm⟩, hw⟩, hd⟩, _⟩, _⟩, hq⟩ := hfields
  exact ⟨htc, htm, hw, hd, hq, of_decide_eq_true hsealed⟩

theorem suspend {now : Nat} (heff : (x.effective now).inAuction = true) (cause : AuctionCause) : (x.suspend cause).Wf := by
  obtain ⟨htc, htm, hw, hd, hq, hsealed⟩ := h.of_effective heff
  obtain ⟨_, _, hrest⟩ := h
  refine ⟨?_, decide_eq_true hsealed, hrest⟩
  simp only [Group.fieldsOf, Group.suspend, Bool.and_eq_true]
  exact ⟨⟨⟨⟨⟨⟨htc, htm⟩, hw⟩, hd⟩, rfl⟩, rfl⟩, hq⟩

theorem clockSuspended (quality : TraceState) (now : Nat) : (Group.clockSuspended quality now x).Wf := by
  unfold Group.clockSuspended
  dsimp only
  split
  · next heff => exact (h.caught quality now 3).suspend heff _
  · exact h.caught quality now 3

theorem extend {kind : ExtKind} {now tMin draw : Nat}
    (hon : x.tc.isSome = true ∧ x.tMin.isSome = true ∧ x.window.isSome = true ∧ x.draw.isSome = true ∧
      x.closeQuality.isNone = true ∧ x.revealed < x.number)
    (hroom : x.extensions.length < extensionMax) (hdraw : draw ≤ 1000 * x.window.getD 0) :
    (x.extend kind now tMin draw).Wf := by
  obtain ⟨htc, htm, hw, hd, hq, hsealed⟩ := hon
  obtain ⟨_, _, hlist, hnumber, _, hwindow⟩ := h
  refine ⟨?_, decide_eq_true hsealed, ?_, hnumber, hdraw, hwindow⟩
  · simp only [Group.fieldsOf, Group.extend, Bool.and_eq_true]
    exact ⟨⟨⟨⟨⟨⟨htc, rfl⟩, hw⟩, rfl⟩, rfl⟩, rfl⟩, hq⟩
  · exact List.length_append.trans_le hroom

theorem schedule {tc tm window draw : Nat} (hp : x.phase = .dormant) (hnumber : x.number ≠ 65535)
    (hwindow : window ≤ 600) (hdraw : draw ≤ 1000 * window) : (x.schedule tc tm window draw).Wf := by
  obtain ⟨_, hsealed, _, hbound, _⟩ := h
  unfold Group.sealedUntilEnd at hsealed
  rw [hp] at hsealed
  have hrevealed : x.revealed ≤ x.number := of_decide_eq_true hsealed
  refine ⟨rfl, decide_eq_true (show x.revealed < x.number + 1 by omega), Nat.zero_le _, ?_, hdraw, hwindow⟩
  show x.number + 1 ≤ 65535
  omega

/-- R132: an auction abandoned has its draws revealed. -/
theorem abandon (hopen : x.isOpen = true) : x.abandon.Wf := by
  obtain ⟨hfields, _, hrest⟩ := h
  refine ⟨?_, decide_eq_true rfl, hrest⟩
  unfold Group.fieldsOf at hfields
  obtain hp | hp | hp | hp := Group.isOpen_iff.mp hopen
  all_goals
    rw [hp] at hfields
    simp only [Bool.and_eq_true] at hfields
    obtain ⟨⟨⟨⟨⟨⟨htc, htm⟩, hw⟩, hd⟩, _⟩, _⟩, hq⟩ := hfields
    simp only [Group.fieldsOf, Group.abandon, Bool.and_eq_true]
    exact ⟨⟨⟨⟨⟨htc, htm⟩, hw⟩, hd⟩, rfl⟩, hq⟩

/-- R133: a cleared group keeps its numbers. -/
theorem clear (hover : x.phase = .closed ∨ x.phase = .abandoned) : x.clear.Wf := by
  obtain ⟨_, hsealed, _, hnumber, _⟩ := h
  unfold Group.sealedUntilEnd at hsealed
  have hrevealed : x.revealed = x.number := by
    rcases hover with hp | hp
    all_goals
      rw [hp] at hsealed
      exact of_decide_eq_true hsealed
  exact ⟨rfl, decide_eq_true (show x.revealed ≤ x.number from hrevealed.le), Nat.zero_le _, hnumber, Nat.zero_le _,
    Nat.zero_le _⟩

/-- R107: a report is taken in an auction alone. -/
theorem report (hp : x.phase ≠ .dormant) (seq : Nat) : (x.report seq).Wf := by
  obtain ⟨hfields, hsealed, hrest⟩ := h
  refine ⟨?_, hsealed, hrest⟩
  unfold Group.fieldsOf at hfields ⊢
  cases hph : x.phase with
  | dormant => exact absurd hph hp
  | scheduled | call | random | suspended | closed | abandoned =>
    rw [hph] at hfields
    rw [show (x.report seq).phase = _ from hph]
    exact hfields

theorem restarted (quality : TraceState) (now : Nat) :
    ((Group.caught quality now 3 x).restartAbandoned.restartCleared).Wf := by
  have hcaught := h.caught quality now 3
  generalize Group.caught quality now 3 x = y at hcaught ⊢
  unfold Group.restartCleared
  have habandoned : y.restartAbandoned.Wf := by
    unfold Group.restartAbandoned
    split
    · next hopen => exact hcaught.abandon hopen
    · exact hcaught
  split
  · next hover => exact habandoned.clear hover
  · exact habandoned

end Group.Wf

theorem emptyGroup_wf : ({} : Group).Wf := ⟨rfl, rfl, Nat.zero_le _, Nat.zero_le _, Nat.zero_le _, Nat.zero_le _⟩

end Sys2Proof.Machine
end


section
/-! The groups over every command. -/

namespace Sys2Proof.Machine

/-- Every group record keeps its form. -/
def State.GroupsWf (s : State) : Prop := ∀ g, (s.group g).Wf

namespace State.GroupsWf

variable {s t : State}

theorem of_same (hs : s.GroupsWf) {bs : List Block} (h : s.SameBut t bs) (hbs : ∀ g, .group g ∉ bs) : t.GroupsWf :=
  fun g => (h (.group g) (hbs g) : t.group g = s.group g) ▸ hs g

/-- One group moves. -/
theorem of_one (hs : s.GroupsWf) (g : GroupIx) {bs : List Block} (h : s.SameBut t bs) (hbs : ∀ k, k ≠ g → .group k ∉ bs)
    (hg : (t.group g).Wf) : t.GroupsWf := by
  intro k
  by_cases hk : k = g
  · exact hk ▸ hg
  · exact (h (.group k) (hbs k hk) : t.group k = s.group k) ▸ hs k

theorem catchUp (hs : s.GroupsWf) (g : GroupIx) (now : Nat) (notify : Bool) : (s.catchUp g now notify).GroupsWf :=
  hs.of_one g (s.catchUp_same g now notify) (fun k hk => by simp [hk]) (by
    rw [State.catchUp_group]
    exact (hs g).caught _ _ _)

theorem suspendGroup (hs : s.GroupsWf) {g : GroupIx} {now : Nat} (h : ((s.group g).effective now).inAuction = true)
    (cause : AuctionCause) (trace : Option TraceState) : (s.suspendGroup g cause trace now).GroupsWf :=
  hs.of_one g (s.suspendGroup_same g cause trace now) (fun k hk => by simp [hk]) (by
    rw [State.suspendGroup_group]
    exact (hs g).suspend h cause)

theorem abandonGroup (hs : s.GroupsWf) {g : GroupIx} (h : (s.group g).isOpen = true) (cause : AuctionCause) (now : Nat)
    (notify : Bool) : (s.abandonGroup g cause now notify).GroupsWf :=
  hs.of_one g (s.abandonGroup_same g cause now notify) (fun k hk => by simp [hk]) (by
    rw [State.abandonGroup_group]
    exact (hs g).abandon h)

theorem clearGroup (hs : s.GroupsWf) {g : GroupIx} (h : (s.group g).phase = .closed ∨ (s.group g).phase = .abandoned)
    (now : Nat) (notify : Bool) : (s.clearGroup g now notify).GroupsWf :=
  hs.of_one g (s.clearGroup_same g now notify) (fun k hk => by simp [hk]) (by
    rw [State.clearGroup_group]
    exact (hs g).clear h)

theorem schedule (hs : s.GroupsWf) {g : GroupIx} (hp : (s.group g).phase = .dormant) (hnumber : (s.group g).number ≠ 65535)
    {window : Nat} (hwindow : window ≤ 600) (tc tm now : Nat) : (s.schedule g tc tm window now).GroupsWf := by
  have harmed : (s.armed g tc tm window).Wf := (hs g).schedule hp hnumber hwindow (drawOf_le s window)
  refine hs.of_one g (s.schedule_sameBlocks g tc tm window now) (fun k hk => by simp [hk]) ?_
  rw [State.schedule_group]
  split
  · exact harmed.expired .unset
  · exact harmed

theorem extendGroup (hs : s.GroupsWf) {g : GroupIx} {now : Nat}
    (hon : ((s.group g).effective now).inAuction = true ∨ (s.group g).phase = .suspended)
    (hroom : (s.group g).extensions.length < extensionMax) (kind : ExtKind) (step : AuctionStep) (length : Nat) :
    (s.extendGroup g kind step length now).GroupsWf := by
  refine hs.of_one g (s.extendGroup_same g kind step length now) (fun k hk => by simp [hk]) ?_
  rw [State.extendGroup_group]
  exact (hs g).extend (hon.elim (hs g).of_effective (hs g).of_suspended) hroom (drawOf_le s _)

/-! ### The group requests -/

theorem groupRequest (hs : s.GroupsWf) {payload : List Byte} {forms : Group → Bool} {act : GroupIx → Nat → State → Acted}
    (hact : ∀ g now x, x.GroupsWf → (act g now x).state.GroupsWf) : (groupRequest forms act payload s).state.GroupsWf := by
  unfold Machine.groupRequest
  split
  · exact hs
  · next g _ =>
    have hcaught := hs.catchUp g s.dating true
    dsimp only
    split
    · exact hcaught
    · exact hact g s.dating _ hcaught

theorem groupSchedule (hs : s.GroupsWf) (payload : List Byte) : (groupSchedule payload s).state.GroupsWf := by
  refine hs.groupRequest fun g now x hx => ?_
  dsimp only
  split
  · exact hx
  · next htest =>
    unfold State.scheduleTest at htest
    split at htest
    · cases htest
    · split at htest
      · cases htest
      · next hp =>
        split at htest
        · cases htest
        · next hnumber =>
          exact hx.schedule (Decidable.not_not.mp hp) hnumber (clampQ_value 0 600 _ (by decide)).2 _ _ _

theorem groupExtend (hs : s.GroupsWf) (payload : List Byte) : (groupExtend payload s).state.GroupsWf := by
  refine hs.groupRequest fun g now x hx => ?_
  split
  · exact hx
  · next htest =>
    unfold extendTest at htest
    split at htest
    · cases htest
    · split at htest
      · cases htest
      · next heff =>
        split at htest
        · cases htest
        · next hroom =>
          exact hx.extendGroup (.inl (by simpa using heff)) (Nat.not_le.mp hroom) _ _ _

theorem groupResume (hs : s.GroupsWf) (payload : List Byte) : (groupResume payload s).state.GroupsWf := by
  refine hs.groupRequest fun g now x hx => ?_
  split
  · exact hx
  · next htest =>
    unfold resumeTest at htest
    split at htest
    · cases htest
    · next hp =>
      split at htest
      · cases htest
      · next hroom =>
        exact hx.extendGroup (.inr (Decidable.not_not.mp hp)) (Nat.not_le.mp hroom) _ _ _

theorem groupSuspend (hs : s.GroupsWf) (payload : List Byte) : (groupSuspend payload s).state.GroupsWf := by
  refine hs.groupRequest fun g now x hx => ?_
  split
  · exact hx
  · next htest =>
    unfold suspendTest at htest
    split at htest
    · cases htest
    · split at htest
      · cases htest
      · next heff => exact hx.suspendGroup (by simpa using heff) _ _

theorem groupAbandon (hs : s.GroupsWf) (payload : List Byte) : (groupAbandon payload s).state.GroupsWf := by
  refine hs.groupRequest fun g now x hx => ?_
  split
  · exact hx
  · next htest =>
    refine hx.abandonGroup (Group.isOpen_iff.mpr ?_) _ _ _
    unfold abandonTest at htest
    cases hp : (x.group g).phase with
    | closed | dormant | abandoned =>
      rw [hp] at htest
      cases htest
    | scheduled | call | random | suspended => simp

theorem groupClear (hs : s.GroupsWf) (payload : List Byte) : (groupClear payload s).state.GroupsWf := by
  refine hs.groupRequest fun g now x hx => ?_
  unfold State.clearRequest
  split
  · exact hx
  · next hp =>
    refine (hx.abandonGroup (Group.isOpen_iff.mpr (.inl hp)) .clear now true).clearGroup (.inr ?_) now true
    rw [State.abandonGroup_group]
    rfl
  · next hp => exact hx.clearGroup (.inl hp) now true
  · next hp => exact hx.clearGroup (.inr hp) now true
  all_goals exact hx

/-! ### Events -/

theorem takeDue (hs : s.GroupsWf) (now : Nat) : (State.takeDue expiryFuel now s).GroupsWf := fun k => by
  rw [State.takeDue_group s.expiriesLeft_le]
  exact (hs k).caught _ _ _

theorem expiry (hs : s.GroupsWf) (phase : Phase) : (expiry phase s).GroupsWf := by
  unfold Machine.expiry
  split
  · split
    · exact hs.takeDue _
    · exact hs
  · exact hs

theorem secondBoundary (hs : s.GroupsWf) : (secondBoundary s).GroupsWf := by
  cases hb : s.tb.boundaries with
  | nil =>
    unfold Machine.secondBoundary
    rw [hb]
    exact hs
  | cons b rest =>
    intro k
    have hgs : (Machine.secondBoundary s).group k = (s.boundaryTold b rest).group k :=
      congrArg (fun x : Scheduler => x.groups[k]) (secondBoundary_gs hb)
    rw [hgs]
    by_cases hsuspend : (s.boundaryTraced b rest).du.trace = .untraceable ∧ s.du.trace ≠ .untraceable
    · obtain ⟨_, hgroups, _⟩ := State.boundaryTold_suspends hsuspend.1 hsuspend.2
      rw [hgroups]
      exact (hs k).clockSuspended _ _
    · have hkept : (s.boundaryTold b rest).gs = s.gs := State.boundaryTold_gs (by tauto)
      have hgroup : (s.boundaryTold b rest).group k = s.group k := congrArg (fun x : Scheduler => x.groups[k]) hkept
      exact hgroup ▸ hs k

theorem grantPort (hs : s.GroupsWf) (p : PortIx) (q : StampRequest) : (s.grantPort p q).GroupsWf := by
  rw [State.grantPort_eq]
  obtain ⟨record, hrecord⟩ : ∃ record, record = s.stampRecord p q s.tb.dating (decide (s.tb.raw < s.tb.hwm)) := ⟨_, rfl⟩
  rw [← hrecord]
  have hbegun : s.beginGrant.GroupsWf := hs.of_same s.beginGrant_same (by simp)
  refine GroupsWf.of_same ?_ (State.reexamine_same _ p) (by simp [portBlocks])
  refine hbegun.of_one record.group (State.stampPlaced_same _ p record _ _) (fun k hk => by simp [hk]) ?_
  rw [State.stampPlaced_group]
  split
  · next hphase =>
    refine (hbegun record.group).report (fun hdormant => ?_) _
    have hgroup : s.beginGrant.group record.group = s.group record.group := s.beginGrant_same (.group record.group) (by simp)
    have heffective : record.phase = (s.group record.group).effective s.tb.dating := by rw [hrecord]; rfl
    rw [hgroup] at hdormant
    unfold Group.effective at heffective
    rw [hdormant] at heffective
    rw [heffective] at hphase
    simp at hphase
  · exact hbegun record.group

theorem stampGrant (hs : s.GroupsWf) : (stampGrant s).GroupsWf := by
  unfold Machine.stampGrant
  split
  · exact hs
  · split
    · exact hs
    · split
      · exact hs
      · split
        · exact hs.of_same s.exhaust_same (by simp [allPorts])
        · exact hs.grantPort _ _

theorem restart (hs : s.GroupsWf) : (restart s).GroupsWf := by
  unfold Machine.restart
  split
  · exact hs
  · obtain ⟨hgroups, _⟩ := s.beginService.restartBlocks_gs
    intro k
    have hk := hgroups k
    dsimp only
    generalize s.beginService.restartBlocks = u at hk ⊢
    show (u.group k).Wf
    rw [hk]
    exact (hs k).restarted _ _

end State.GroupsWf

theorem takeRequest_groups {kind : Nat} {act : List Byte → State → Acted} {s : State} (hs : s.GroupsWf)
    (h : ∀ p (x : State), x.GroupsWf → (act p x).state.GroupsWf) : (takeRequest kind act s).GroupsWf := by
  unfold takeRequest
  split
  · exact hs
  · next q _ =>
    have hbegun : s.beginService.GroupsWf := hs.of_same s.beginService_same (by simp)
    exact (h q.payload _ hbegun).of_same (State.answer_same _ _ _) (by simp)

theorem actOf_groups (c : Instr) {s : State} (hs : s.GroupsWf) : (actOf c s).GroupsWf := by
  cases c with
  | callStartExpiry | windowStartExpiry | closeExpiry => exact hs.expiry _
  | secondBoundary => exact hs.secondBoundary
  | stampGrant => exact hs.stampGrant
  | groupSchedule => exact takeRequest_groups hs fun p x hx => hx.groupSchedule p
  | groupExtend => exact takeRequest_groups hs fun p x hx => hx.groupExtend p
  | groupSuspend => exact takeRequest_groups hs fun p x hx => hx.groupSuspend p
  | groupResume => exact takeRequest_groups hs fun p x hx => hx.groupResume p
  | groupAbandon => exact takeRequest_groups hs fun p x hx => hx.groupAbandon p
  | groupClear => exact takeRequest_groups hs fun p x hx => hx.groupClear p
  | restart => exact hs.restart
  | _ => exact hs.of_same (actOf_same _ s) (by simp [actBlocks, markBlocks, disciplineBlocks, twinBlocks, portBlocks,
      refConfigBlocks, allPorts])

theorem startUpFrom_groups (cause : ResetCause) (s : State) : (startUpFrom cause s).GroupsWf := by
  intro g
  have hempty : (startUpFrom cause s).group g = {} :=
    (startUpFrom_same cause s (.group g) (by simp)).trans (by simp [State.group, startBlocks, blocksSet])
  exact hempty ▸ emptyGroup_wf

theorem resetHeld_groups (cause : ResetCause) (s : State) : (resetHeld cause s).GroupsWf := by
  intro g
  have hempty : (resetHeld cause s).group g = {} := by simp [State.group, resetHeld]
  exact hempty ▸ emptyGroup_wf

end Sys2Proof.Machine
end


section
/-! The Twin Link Unit over every command (R52, R64, R72, R76). -/

namespace Sys2Proof.Machine

theorem actOf_twinWf (c : Instr) {s : State} (h : s.TwinWf) : (actOf c s).TwinWf := by
  by_cases hc : c = .twinConfig
  · subst hc
    show (takeRequest 0x0C twinConfig s).TwinWf
    unfold takeRequest
    split
    · exact h
    · exact twinConfig_form _ s.beginService h
  · exact (actOf_linked hc s).wf h

theorem startUpFrom_twinWf (cause : ResetCause) (s : State) : (startUpFrom cause s).TwinWf := by
  refine (startUpFrom_linked cause s).wf ⟨rfl, nofun, Nat.zero_le _, Nat.zero_le _, nofun⟩

theorem resetHeld_twinWf (cause : ResetCause) (s : State) : (resetHeld cause s).TwinWf :=
  ⟨rfl, nofun, Nat.zero_le _, Nat.zero_le _, nofun⟩

end Sys2Proof.Machine
end


section
/-! A port that is not open for the clock stays so: PORT_OPEN alone opens one (R92). -/

namespace Sys2Proof.Machine

/-! ### One port -/

namespace Port

/-- `y` is open for the clock only where `x` is. -/
def StaysShut (x y : Port) : Prop := x.openForClock = false → y.openForClock = false

variable {x y z : Port}

theorem StaysShut.trans (h : x.StaysShut y) (k : y.StaysShut z) : x.StaysShut z := fun hx => k (h hx)

theorem StaysShut.of_state (h : y.state = x.state) : x.StaysShut y := fun hx => by
  rw [openForClock, h]
  exact hx

theorem StaysShut.of_shut (h : y.openForClock = false) : x.StaysShut y := fun _ => h

theorem settled_staysShut (x : Port) : x.StaysShut x.settled := by
  unfold settled
  split
  · exact .of_shut rfl
  · exact .of_state rfl

theorem arrive_state (x : Port) (epoch : Nat) (f : StampFields) (arrival : Nat) :
    (x.arrive epoch f arrival).state = x.state := by
  unfold arrive
  split
  · rfl
  · unfold refuseAtDoor
    split <;> rfl

theorem startReply_state (x : Port) : x.startReply.state = x.state := by
  unfold startReply
  split <;> rfl

end Port

/-! ### The ports of a state -/

/-- Every port that is not open for the clock stays so. -/
def State.PortsStayShut (s t : State) : Prop := ∀ p, (s.port p).StaysShut (t.port p)

theorem State.anyPortOpen_eq_false_iff {s : State} : s.anyPortOpen = false ↔ ∀ p, (s.port p).openForClock = false := by
  simp [anyPortOpen]

namespace State.PortsStayShut

variable {s t u : State}

theorem refl (s : State) : s.PortsStayShut s := fun _ => id

theorem anyPortOpen (h : s.PortsStayShut t) (hs : s.anyPortOpen = false) : t.anyPortOpen = false :=
  anyPortOpen_eq_false_iff.mpr fun p => h p (anyPortOpen_eq_false_iff.mp hs p)

theorem of_same {bs : List Block} (k : s.SameBut t bs) (hbs : ∀ p, .port p ∉ bs) : s.PortsStayShut t :=
  fun p => .of_state (congrArg Port.state (k (.port p) (hbs p)))

theorem of_others {p : PortIx} {bs : List Block} (k : s.SameBut t bs) (hbs : ∀ q, q ≠ p → .port q ∉ bs)
    (hp : (s.port p).StaysShut (t.port p)) : s.PortsStayShut t := by
  intro q
  by_cases hq : q = p
  · exact hq ▸ hp
  · exact .of_state (congrArg Port.state (k (.port q) (hbs q hq)))

theorem of_port {p : PortIx} (k : s.SameBut t (portBlocks p)) (hp : (s.port p).StaysShut (t.port p)) :
    s.PortsStayShut t :=
  of_others k (fun q hq => by simp [portBlocks, hq]) hp

end State.PortsStayShut

section
variable (s : State) (p : PortIx)

theorem State.reexamine_staysShut : (s.port p).StaysShut ((s.reexamine p).port p) := by
  rw [reexamine_port]
  exact .trans (.of_state (Port.answers_state _ _)) (Port.settled_staysShut _)

theorem State.setPort_reexamine_stayShut {x : Port} (hx : (s.port p).StaysShut x) :
    s.PortsStayShut ((s.setPort p x).reexamine p) :=
  .of_port (setPort_reexamine_same s p x)
    (hx.trans (by simpa only [setPort_port] using (s.setPort p x).reexamine_staysShut p))

theorem State.badFrame_stayShut (fault : FaultKind) (offset : Nat) : s.PortsStayShut (s.badFrame p fault offset) := by
  refine .of_port (s.badFrame_same p fault offset) ?_
  by_cases hf : (s.port p).openForClock = true ∧ faultScore ≤ (s.port p).scoreBad
  · rw [(badFrame_of_fault hf.1 hf.2).1]
    exact .of_shut rfl
  · rw [badFrame_eq, if_neg hf]
    refine .trans (.of_state ?_) (reexamine_staysShut _ p)
    rw [capture_port, setPort_port]
    rfl

theorem State.goodFrame_stayShut (f : StampFields) : s.PortsStayShut (s.goodFrame p f) :=
  s.setPort_reexamine_stayShut p (.of_state (Port.arrive_state _ _ _ _))

theorem State.assemble_stayShut (rx : List Byte) : s.PortsStayShut (s.assemble p rx) := by
  refine .of_port (s.assemble_same p rx) ?_
  rw [assemble, setPort_port]
  exact .of_state rfl

theorem stampRequestFrame_stayShut (bytes : List Byte) : s.PortsStayShut (stampRequestFrame p bytes s) := by
  unfold stampRequestFrame
  split
  · unfold State.frameArrived
    split
    · exact s.goodFrame_stayShut p _
    · exact s.badFrame_stayShut p _ _
  · exact s.assemble_stayShut p _
  · exact .refl s
  · exact .refl s

theorem stampLengthFault_stayShut (bytes : List Byte) : s.PortsStayShut (stampLengthFault p bytes s) := by
  unfold stampLengthFault
  split
  · exact s.badFrame_stayShut p _ _
  · exact s.assemble_stayShut p _
  · exact .refl s
  · exact .refl s

theorem portByteDiscarded_stayShut (byte : Byte) : s.PortsStayShut (portByteDiscarded p byte s) := by
  refine .of_others (p := p) (portByteDiscarded_same s p byte) (fun q hq => by simp [hq]) ?_
  unfold portByteDiscarded
  dsimp only
  split
  · rw [State.setPort_port]
    exact .of_state rfl
  · exact .of_state rfl

theorem portTransmitStart_stayShut : s.PortsStayShut (portTransmitStart p s) := by
  unfold portTransmitStart
  split
  · exact s.setPort_reexamine_stayShut p (.of_state (Port.startReply_state _))
  · exact .refl s

theorem portReplySent_stayShut : s.PortsStayShut (portReplySent p s) := by
  unfold portReplySent
  split
  · exact s.setPort_reexamine_stayShut p (.of_state (Port.startReply_state _))
  · exact .refl s

theorem State.closeRequest_stayShut : s.PortsStayShut (s.closeRequest p) := by
  refine .of_port (s.closeRequest_same p) ?_
  unfold State.closeRequest
  split
  · next hs =>
    exact fun hx => absurd hx (by simp [Port.openForClock, hs])
  · refine .trans (.of_shut ?_) (reexamine_staysShut _ p)
    rw [closePort_port]
    rfl
  · exact .of_state rfl
  · exact .of_state rfl

omit p

theorem State.exhaust_stayShut : s.PortsStayShut s.exhaust := fun p => by
  rw [exhaust_port]
  exact .of_shut rfl

theorem State.grantPort_stayShut (p : PortIx) (q : StampRequest) : s.PortsStayShut (s.grantPort p q) := by
  rw [grantPort_eq]
  generalize s.stampRecord p q s.tb.dating (decide (s.tb.raw < s.tb.hwm)) = r
  have hport := s.beginGrant.stampPlaced_port p r (s.sa.seq + 1) s.tb.dating
  have hsame := s.beginGrant_same.mono (cs := [.tb, .sa, .port p, .group r.group, .aj, .clu]) (by simp)
    |>.trans ((s.beginGrant.stampPlaced_same p r (s.sa.seq + 1) s.tb.dating).mono (by simp))
  generalize s.beginGrant.stampPlaced p r (s.sa.seq + 1) s.tb.dating = u at hport hsame
  refine .of_others (hsame.trans ((u.reexamine_same p).mono (by simp [portBlocks]))) (fun k hk => by simp [hk])
    (.trans (.of_state ?_) (u.reexamine_staysShut p))
  rw [hport]
  rfl

theorem stampGrant_stayShut : s.PortsStayShut (stampGrant s) := by
  unfold stampGrant
  split
  · exact .refl s
  split
  · exact .refl s
  split
  · exact .refl s
  split
  · exact s.exhaust_stayShut
  · exact s.grantPort_stayShut _ _

theorem internalGrant_stayShut : s.PortsStayShut (internalGrant s) := by
  unfold internalGrant
  split
  · exact .refl s
  split
  · exact .refl s
  split
  · exact s.exhaust_stayShut
  · next x _ _ => exact .of_same (s.grantInternal_same x) (by simp)

theorem restart_stayShut : s.PortsStayShut (restart s) := by
  unfold restart
  split
  · exact .refl s
  · intro p
    have hport : s.beginService.restartBlocks.port p = (s.port p).shutDown s.epoch := State.restartBlocks_port _ p
    dsimp only
    generalize s.beginService.restartBlocks = u at hport ⊢
    have hanswered : ∀ q b, ((u.answer q b).restartControl).port p = u.port p := fun _ _ => rfl
    rw [hanswered, hport]
    exact .of_shut rfl

end

theorem takeRequest_stayShut {kind : Nat} {act : List Byte → State → Acted}
    (hact : ∀ payload x, State.PortsStayShut x (act payload x).state) (s : State) :
    s.PortsStayShut (takeRequest kind act s) := by
  unfold takeRequest
  split
  · exact .refl s
  · exact fun p => hact _ s.beginService p

theorem portClose_stayShut (payload : List Byte) (s : State) : s.PortsStayShut (portClose payload s).state := by
  unfold portClose
  split
  · exact .refl s
  · exact s.closeRequest_stayShut _

theorem statusPort_stayShut (payload : List Byte) (s : State) : s.PortsStayShut (statusPort payload s).state := by
  unfold statusPort
  split
  · exact .refl s
  · next p _ =>
    refine .of_others (p := p) (s.setPort_same p _) (fun q hq => by simp [hq]) ?_
    have hport := s.setPort_port p { s.port p with capture := none }
    exact hport.symm ▸ .of_state rfl

theorem actOf_stayShut {c : Instr} (hc : c ≠ .portOpen) (s : State) : s.PortsStayShut (actOf c s) := by
  cases c with
  | stampRequestFrame p bytes => exact stampRequestFrame_stayShut s p bytes
  | stampLengthFault p bytes => exact stampLengthFault_stayShut s p bytes
  | portByteDiscarded p byte => exact portByteDiscarded_stayShut s p byte
  | portTransmitStart p => exact portTransmitStart_stayShut s p
  | portReplySent p => exact portReplySent_stayShut s p
  | stampGrant => exact stampGrant_stayShut s
  | internalGrant => exact internalGrant_stayShut s
  | restart => exact restart_stayShut s
  | portOpen => exact absurd rfl hc
  | portClose => exact takeRequest_stayShut portClose_stayShut s
  | statusPort => exact takeRequest_stayShut statusPort_stayShut s
  | _ =>
    refine .of_same (actOf_same _ s) fun p => ?_
    simp [actBlocks, boundaryBlocks, markBlocks, disciplineBlocks, twinBlocks, refConfigBlocks, groupBlocks, allGroups]

/-- R92: in UNSET PORT_OPEN opens no port. -/
theorem portOpen_stayShut {s : State} (h : s.du.mode = .unset) : s.PortsStayShut (actOf .portOpen s) := by
  show s.PortsStayShut (takeRequest 0x0F portOpen s)
  unfold takeRequest
  split
  · exact .refl s
  · next q _ =>
    have hstate : (portOpen q.payload s.beginService).state = s.beginService := by
      have hmode : s.beginService.du.mode = .unset := h
      unfold portOpen
      split
      · rfl
      · rw [if_pos hmode]
        split <;> rfl
    show s.PortsStayShut (State.answer (portOpen q.payload s.beginService).state _ _)
    rw [hstate]
    exact fun _ => id

/-- A part without an open port in UNSET has none behind a command. -/
theorem actOf_anyPortOpen (c : Instr) {s : State} (hmode : s.du.mode = .unset) (h : s.anyPortOpen = false) :
    (actOf c s).anyPortOpen = false := by
  by_cases hc : c = .portOpen
  · exact hc ▸ (portOpen_stayShut hmode).anyPortOpen h
  · exact (actOf_stayShut hc s).anyPortOpen h

end Sys2Proof.Machine
end


section
/-! The commands that do not steer the clock: DU keeps its mode, selection, servo and anchor, TB its rate, and the
references their states. -/

namespace Sys2Proof.Machine

/-- The mode, selection, servo and anchor stay. -/
structure Discipline.SameSteering (x y : Discipline) : Prop where
  mode : y.mode = x.mode
  selection : y.selection = x.selection
  integral : y.integral = x.integral
  rate : y.rate = x.rate
  anchor : y.anchor = x.anchor

namespace Discipline.SameSteering

variable {x y z : Discipline}

theorem refl (x : Discipline) : x.SameSteering x := ⟨rfl, rfl, rfl, rfl, rfl⟩

theorem of_eq (h : y = x) : x.SameSteering y := h ▸ refl x

theorem of_twinned {s t : State} (h : s.Twinned t) : s.du.SameSteering t.du :=
  ⟨h.mode, h.selection, h.integral, h.rate, h.anchor⟩

end Discipline.SameSteering

/-- The clock is steered on as before: R on TB stays, and DU's view of its references. -/
structure State.Steady (s t : State) : Prop where
  du : s.du.SameSteering t.du
  rate : t.tb.rate = s.tb.rate
  mon : ∀ r, (t.mon r).state = (s.mon r).state

theorem State.Steady.refl (s : State) : s.Steady s := ⟨.refl _, rfl, fun _ => rfl⟩

theorem State.Steady.wf {s t : State} (h : s.Steady t) (hs : s.DisciplineWf)
    (hopen : s.du.mode = .unset → s.anyPortOpen = false → t.anyPortOpen = false) : t.DisciplineWf := by
  obtain ⟨husable, hanchor, hunset, hlo, hhi, hrlo, hrhi, hrate, hslew⟩ := hs
  unfold State.DisciplineWf
  rw [h.du.mode, h.du.selection, h.du.integral, h.du.rate, h.du.anchor, h.rate]
  refine ⟨fun r hr => ?_, hanchor, fun hm => ?_, hlo, hhi, hrlo, hrhi, hrate, hslew⟩
  · rw [h.mon]
    exact husable r hr
  · obtain ⟨hclosed, hrest⟩ := hunset hm
    exact ⟨hopen hm hclosed, hrest⟩

/-! ### The commands -/

/-- The commands that may set the mode, the selection, the servo or the anchor of DU, or the state of a reference. -/
def steers : Instr → Bool
  | .markEdge _ | .timeMessage _ _ | .messageWaitExpiry _ | .missingMarkExpiry _ | .clockSet | .refConfig => true
  | _ => false

/-- The commands that TLU takes. -/
theorem frameCommand_twinned (s : State) (bytes : List Byte) (msg : TwinMessage) :
    s.Twinned (actOf (msg.command bytes) s) := by
  obtain hc | ⟨rx, hc⟩ | ⟨t, m, hc⟩ := frameCommand_cases (c := msg.command bytes) rfl s
  · rw [hc]
    exact .refl s
  · rw [hc]
    exact .refl s
  · rw [hc]
    exact .onMessage (t := s.twinReceived) (.refl s) t m

theorem probeTimeout_twinned (s : State) : s.Twinned (probeTimeout s) := by
  unfold probeTimeout
  split
  · exact .ite (.closeProbe (.setTlu (.refl s) _) _) (.refl s)
  · exact .refl s

theorem takeRequest_twinned {kind : Nat} {act : List Byte → State → Acted}
    (h : ∀ p x, State.Twinned x (act p x).state) (s : State) : s.Twinned (takeRequest kind act s) := by
  unfold takeRequest
  split
  · exact .refl s
  · next q _ => exact h q.payload s.beginService

theorem twinStop_twinned (payload : List Byte) (s : State) : s.Twinned (twinStop payload s).state := by
  unfold twinStop
  split
  · exact .refl s
  all_goals exact .stopTwin (.refl s)

theorem handOver_sameSteering (s : State) (x : Internal) (seq : Option Nat) (t : Nat) :
    s.du.SameSteering (s.handOver x seq t).du := by
  cases x with
  | clock r =>
    rw [State.handOver_clock_du]
    exact ⟨rfl, rfl, rfl, rfl, rfl⟩
  | auction r => exact .of_eq (State.handOver_same s (.auction r) seq t .du (by simp [Internal.holder]))
  | marker m => exact .of_eq (State.handOver_same s (.marker m) seq t .du (by simp [Internal.holder]))

theorem internalGrant_sameSteering (s : State) : s.du.SameSteering (internalGrant s).du := by
  unfold internalGrant
  split
  · exact .refl _
  · split
    · exact .refl _
    · next x _ =>
      split
      · exact .of_eq (s.exhaust_same .du (by simp [allPorts]))
      · exact handOver_sameSteering (s.beginGrant.setSa (s.beginGrant.sa.countInternal x)) x _ _

theorem unsequencedHandoff_sameSteering (s : State) : s.du.SameSteering (unsequencedHandoff s).du := by
  unfold unsequencedHandoff
  split
  · split
    · exact .refl _
    · exact handOver_sameSteering _ _ _ _
  · exact .refl _

theorem secondBoundary_sameSteering (s : State) : s.du.SameSteering (secondBoundary s).du := by
  cases h : s.tb.boundaries with
  | nil =>
    refine .of_eq ?_
    unfold secondBoundary
    rw [h]
  | cons b rest =>
    rw [secondBoundary_du h]
    exact ⟨rfl, rfl, rfl, rfl, rfl⟩

theorem actOf_sameSteering {c : Instr} (hc : steers c = false) (s : State) : s.du.SameSteering (actOf c s).du := by
  cases c with
  | markEdge | timeMessage | messageWaitExpiry | missingMarkExpiry | clockSet | refConfig => cases hc
  | secondBoundary => exact secondBoundary_sameSteering s
  | internalGrant => exact internalGrant_sameSteering s
  | unsequencedHandoff => exact unsequencedHandoff_sameSteering s
  | offerReceived bytes => exact .of_twinned (frameCommand_twinned s bytes (.offer ⟨0, 0, 0⟩))
  | acceptReceived bytes => exact .of_twinned (frameCommand_twinned s bytes (.accept ⟨0, 0, 0⟩))
  | refuseReceived bytes => exact .of_twinned (frameCommand_twinned s bytes (.refuse 0 0))
  | byeReceived bytes => exact .of_twinned (frameCommand_twinned s bytes .bye)
  | probeReceived bytes => exact .of_twinned (frameCommand_twinned s bytes (.probe 0))
  | echoReceived bytes => exact .of_twinned (frameCommand_twinned s bytes (.echo 0 0 0))
  | statusReceived bytes => exact .of_twinned (frameCommand_twinned s bytes (.status ⟨.unset, none, .unset, none, 0⟩))
  | offerTimerExpiry => exact .of_twinned (.ite (.enterDetached (.setTlu (.refl s) _) _) (.refl s))
  | retryTimerExpiry => exact .of_twinned (.ite (.twinChanged (.openOffer (.refl s)) _ _ _) (.refl s))
  | probeSpacingExpiry => exact .of_twinned (.ite (.formProbe (.refl s)) (.refl s))
  | probeTimeout => exact .of_twinned (probeTimeout_twinned s)
  | checkTimerExpiry => exact .of_twinned (.ite (.formProbe (.setTlu (.refl s) _)) (.refl s))
  | statusAgeLimit => exact .of_twinned (.ite (.withdrawAnchor (.refl s)) (.refl s))
  | twinStop => exact .of_twinned (takeRequest_twinned twinStop_twinned s)
  | _ => exact .of_eq (actOf_same _ s .du (by simp [actBlocks, portBlocks, groupBlocks, allPorts, allGroups]))

theorem TimeBase.tickOnce_rate (x : TimeBase) : x.tickOnce.rate = x.rate := by
  unfold tickOnce
  rw [raiseBoundary_eq]
  unfold advance
  dsimp only
  split <;> rfl

theorem settingsRequest_rate {kind : Nat} {act : List Byte → State → Acted}
    (h : ∀ p x, (act p x).state.tb.rate = (State.tb x).rate) (s : State) : (takeRequest kind act s).tb.rate = s.tb.rate :=
  takeRequest_tb (R := fun x y => y.rate = x.rate) rfl fun p x htb _ _ => (h p x).trans (congrArg TimeBase.rate htb)

theorem actOf_rate {c : Instr} (hc : steers c = false) (s : State) : (actOf c s).tb.rate = s.tb.rate := by
  cases c with
  | markEdge | timeMessage | messageWaitExpiry | missingMarkExpiry | clockSet | refConfig => cases hc
  | oscillatorTick => exact s.tb.tickOnce_rate
  | secondBoundary =>
    rcases secondBoundary_tb s with h | ⟨rest, h⟩
    · exact congrArg TimeBase.rate h
    · exact (congrArg TimeBase.rate h).trans rfl
  | stampGrant =>
    rcases stampGrant_tb s with h | h
    · exact congrArg TimeBase.rate h
    · exact (congrArg TimeBase.rate h).trans rfl
  | internalGrant =>
    rcases internalGrant_tb s with h | h
    · exact congrArg TimeBase.rate h
    · exact (congrArg TimeBase.rate h).trans rfl
  | servoConfig =>
    refine settingsRequest_rate (fun p x => ?_) s
    exact (congrArg TimeBase.rate (State.configChange_same _ _ _ _ _ .tb (by simp))).trans rfl
  | traceConfig =>
    refine settingsRequest_rate (fun p x => ?_) s
    exact (congrArg TimeBase.rate (State.configChange_same _ _ _ _ _ .tb (by simp))).trans rfl
  | _ =>
    refine congrArg TimeBase.rate (actOf_same _ s .tb ?_)
    simp [actBlocks, portBlocks, groupBlocks, allPorts, allGroups, twinBlocks]

theorem actOf_monState {c : Instr} (hc : steers c = false) (s : State) (r : Ref) :
    ((actOf c s).mon r).state = (s.mon r).state := by
  cases c with
  | markEdge | timeMessage | messageWaitExpiry | missingMarkExpiry | clockSet | refConfig => cases hc
  | refByteDiscarded k byte =>
    show ((refByteDiscarded k byte s).mon r).state = _
    unfold refByteDiscarded
    dsimp only
    split
    · by_cases hr : r = k
      · rw [hr, State.setMon_mon]
      · rw [s.setMon_same k _ (.mon r) (by simpa using hr)]
    · rfl
  | _ =>
    refine congrArg Monitor.state (actOf_same _ s (.mon r) ?_)
    simp [actBlocks, boundaryBlocks, portBlocks, groupBlocks, allPorts, allGroups, twinBlocks]

theorem actOf_steady {c : Instr} (hc : steers c = false) (s : State) : s.Steady (actOf c s) :=
  ⟨actOf_sameSteering hc s, actOf_rate hc s, actOf_monState hc s⟩

end Sys2Proof.Machine
end


section
/-! The servo through DU's selection and its action on a mark (R39 to R48, R51): I and R in their ranges, R on TB, and an
anchor in every mode but UNSET. -/

namespace Sys2Proof.Machine

/-- The clauses of the form of DU about the mode, I and R. -/
structure State.Servoed (s : State) : Prop where
  unset : s.du.mode = .unset → s.anyPortOpen = false ∧ s.du.integral = 0 ∧ s.du.rate = 0
  integral : -200000000 ≤ s.du.integral ∧ s.du.integral ≤ 200000000
  rate : -200000000 ≤ s.du.rate ∧ s.du.rate ≤ 200000000
  presented : s.tb.rate = s.du.rate
  slewing : s.du.mode = .slewing → s.du.rate = -200000000

/-- An anchor in every mode but UNSET. -/
def State.Anchored (s : State) : Prop := s.du.mode = .unset ↔ s.du.anchor = none

/-- DU disciplines by a usable reference only. -/
def State.UsesUsable (s : State) : Prop := ∀ r, s.du.selection = some r → (s.mon r).state.usable = true

theorem State.disciplineWf_iff {s : State} : s.DisciplineWf ↔ s.UsesUsable ∧ s.Anchored ∧ s.Servoed := by
  constructor
  · rintro ⟨husable, hanchor, hunset, hlo, hhi, hrlo, hrhi, hrate, hslew⟩
    exact ⟨husable, hanchor, hunset, ⟨hlo, hhi⟩, ⟨hrlo, hrhi⟩, hrate, hslew⟩
  · rintro ⟨husable, hanchor, hunset, ⟨hlo, hhi⟩, ⟨hrlo, hrhi⟩, hrate, hslew⟩
    exact ⟨husable, hanchor, hunset, hlo, hhi, hrlo, hrhi, hrate, hslew⟩

namespace State.Servoed

variable {s t : State}

/-- The mode, I and R stay, and no port opens. -/
theorem of_kept (h : s.Servoed) (hmode : t.du.mode = s.du.mode) (hintegral : t.du.integral = s.du.integral)
    (hrate : t.du.rate = s.du.rate) (htb : t.tb.rate = s.tb.rate)
    (hopen : s.anyPortOpen = false → t.anyPortOpen = false) : t.Servoed where
  unset hm := by
    obtain ⟨hclosed, hrest⟩ := h.unset (hmode ▸ hm)
    rw [hintegral, hrate]
    exact ⟨hopen hclosed, hrest⟩
  integral := hintegral ▸ h.integral
  rate := hrate ▸ h.rate
  presented := htb.trans (h.presented.trans hrate.symm)
  slewing hm := hrate.trans (h.slewing (hmode ▸ hm))

/-- A mode with a rate that DU has clamped and presented. -/
theorem of_presented {r : Int} (hmode : t.du.mode ≠ .unset)
    (hintegral : -200000000 ≤ t.du.integral ∧ t.du.integral ≤ 200000000) (hrate : t.du.rate = clampRate r)
    (htb : t.tb.rate = clampRate r) (hslew : t.du.mode = .slewing → t.du.rate = -200000000) : t.Servoed where
  unset hm := absurd hm hmode
  integral := hintegral
  rate := hrate ▸ clampRate_bounds r
  presented := htb.trans hrate.symm
  slewing := hslew

/-- A mode but UNSET and SLEWING is entered, and I and R stay. -/
theorem entered (h : s.Servoed) (hmode : t.du.mode ≠ .unset) (hslew : t.du.mode ≠ .slewing)
    (hintegral : t.du.integral = s.du.integral) (hrate : t.du.rate = s.du.rate) (htb : t.tb.rate = s.tb.rate) :
    t.Servoed where
  unset hm := absurd hm hmode
  integral := hintegral ▸ h.integral
  rate := hrate ▸ h.rate
  presented := htb.trans (h.presented.trans hrate.symm)
  slewing hm := absurd hm hslew

end State.Servoed

/-! ### The action on a used mark (R44 to R48, R51) -/

section
variable {s : State} (m : UsedMark)

theorem State.servoLocked_servoed : (s.servoLocked m).Servoed := by
  refine .of_presented (r := -(m.e * s.tb.servo.active.gp + s.servoIntegral m.e)) ?_ ?_ ?_ ?_ ?_
  · rw [servoLocked_du]
    exact nofun
  · rw [servoLocked_du]
    exact clampRate_bounds _
  · rw [servoLocked_du]
    rfl
  · rw [servoLocked_tb]
    exact clampRate_clampRate _
  · rw [servoLocked_du]
    exact nofun

theorem State.slewReached_servoed (e : Int) : (s.slewReached e m).Servoed := by
  refine .of_presented (r := -(e * s.tb.servo.active.gp + s.servoIntegral e)) ?_ ?_ ?_ ?_ ?_
  · rw [slewReached_du]
    exact nofun
  · rw [slewReached_du]
    exact clampRate_bounds _
  · rw [slewReached_du]
    rfl
  · rw [slewReached_tb]
    exact clampRate_clampRate _
  · rw [slewReached_du]
    exact nofun

variable (h : s.Servoed)

include h

theorem State.stepLocked_servoed (e : Int) : (s.stepLocked e m).Servoed := by
  refine h.entered ?_ ?_ ?_ ?_ ?_
  · rw [stepLocked_du]
    exact nofun
  · rw [stepLocked_du]
    exact nofun
  · rw [stepLocked_du]
  · rw [stepLocked_du]
  · rw [stepLocked_tb, TimeBase.stepBy_rate]

theorem State.enterSlewing_servoed (e : Int) : (s.enterSlewing e).Servoed := by
  refine .of_presented (r := -200000000) ?_ ?_ ?_ ?_ ?_
  · rw [enterSlewing_du]
    exact nofun
  · rw [enterSlewing_du]
    exact h.integral
  · rw [enterSlewing_du]
    rfl
  · rw [enterSlewing_tb]
    rfl
  · rw [enterSlewing_du]
    exact fun _ => rfl

theorem State.slewStepped_servoed (e : Int) : (s.slewStepped e).Servoed := by
  refine .of_presented (r := -s.du.integral) ?_ ?_ ?_ ?_ ?_
  · rw [slewStepped_du]
    exact nofun
  · rw [slewStepped_du]
    exact h.integral
  · rw [slewStepped_du]
  · rw [slewStepped_tb]
    exact clampRate_clampRate _
  · rw [slewStepped_du]
    exact nofun

theorem State.slewNoted_servoed : (s.slewNoted m).Servoed := h.of_kept rfl rfl rfl rfl id

/-- Every action leaves UNSET, where TB refuses no step. -/
theorem State.actOnMark_servoed : (s.actOnMark m).state.Servoed ∧ (s.actOnMark m).state.du.mode ≠ .unset := by
  refine s.actOnMark_cases m (P := fun a => a.state.Servoed ∧ a.state.du.mode ≠ .unset) ?_ ?_ ?_ ?_ ?_ ?_ ?_
  · intro hunset hrefused
    exact absurd ((h.unset hunset).1.symm.trans hrefused.2) (by decide)
  · refine fun _ => ⟨servoLocked_servoed m, ?_⟩
    rw [servoLocked_du]
    exact nofun
  · refine fun _ => ⟨stepLocked_servoed m h m.e, ?_⟩
    rw [stepLocked_du]
    exact nofun
  · refine fun _ _ => ⟨enterSlewing_servoed h m.e, ?_⟩
    rw [enterSlewing_du]
    exact nofun
  · refine fun _ => ⟨slewReached_servoed m m.e, ?_⟩
    rw [slewReached_du]
    exact nofun
  · refine fun hslew => ⟨slewNoted_servoed m h, fun hunset => ?_⟩
    exact absurd (hslew.symm.trans hunset) (by decide)
  · refine fun _ => ⟨slewStepped_servoed (slewNoted_servoed m h) m.e, ?_⟩
    rw [slewStepped_du]
    exact nofun

end

/-! ### A switch of the selection (R39 to R41) -/

theorem State.writeOffset_rate (s : State) (o : Int) (c : OffsetCause) : (s.writeOffset o c).tb.rate = s.tb.rate := by
  rw [writeOffset_tb]

/-- A reference taken leaves the mode, the servo and the anchor. -/
theorem State.switchTo_some_sameServo (s : State) (r : Ref) (cause : SwitchCause) :
    (s.switchTo (some r) cause).du = { s.du with
        selection := some r
        leap := (s.switchTo (some r) cause).du.leap
        records := (s.switchTo (some r) cause).du.records } ∧
      (s.switchTo (some r) cause).tb.rate = s.tb.rate := by
  have hdu := s.switched_du (some r) cause
  have htb := s.switched_tb (some r) cause
  rw [switchTo_eq]
  unfold adoptSelection
  dsimp only
  generalize s.switched (some r) cause = u at hdu htb ⊢
  cases (u.mon r).adopted with
  | none =>
    refine ⟨?_, congrArg TimeBase.rate htb⟩
    rw [setDu_du]
    exact congrArg (fun x : Discipline => { x with leap := u.leapOf r }) hdu
  | some o =>
    have hlogs := u.writeOffset_logsTo o .switch
    have hrate := u.writeOffset_rate o .switch
    dsimp only
    generalize u.writeOffset o .switch = v at hlogs hrate ⊢
    refine ⟨?_, hrate.trans (congrArg TimeBase.rate htb)⟩
    unfold Discipline.LogsTo at hlogs
    rw [hdu] at hlogs
    rw [setDu_du]
    exact congrArg (fun x : Discipline => { x with leap := v.leapOf r }) hlogs

/-- A switch keeps the servo in form and stays in UNSET or out of it, with the anchor. -/
theorem State.switchTo_form {s : State} (h : s.Servoed) (n : Option Ref) (cause : SwitchCause) :
    (s.switchTo n cause).Servoed ∧ ((s.switchTo n cause).du.mode = .unset ↔ s.du.mode = .unset) ∧
      (s.switchTo n cause).du.anchor = s.du.anchor ∧ (s.switchTo n cause).du.selection = n := by
  have hopen : (s.switchTo n cause).anyPortOpen = s.anyPortOpen :=
    anyPortOpen_of_same (Selecting.switchTo (.refl s) n cause).same (by simp)
  cases n with
  | some r =>
    obtain ⟨hdu, hrate⟩ := s.switchTo_some_sameServo r cause
    refine ⟨h.of_kept ?_ ?_ ?_ hrate hopen.trans, ?_, ?_, ?_⟩ <;> rw [hdu]
  | none =>
    by_cases hunset : s.du.mode = .unset
    · obtain ⟨hdu, htb⟩ := s.switchTo_none_du_of_unset cause hunset
      refine ⟨h.of_kept ?_ ?_ ?_ (congrArg TimeBase.rate htb) hopen.trans, ?_, ?_, ?_⟩ <;> rw [hdu]
    · obtain ⟨hdu, htb⟩ := s.switchTo_none_du cause hunset
      refine ⟨.of_presented (r := -s.du.integral) ?_ ?_ ?_ ?_ ?_, ?_, ?_, ?_⟩
      · rw [hdu]
        exact nofun
      · rw [hdu]
        exact h.integral
      · rw [hdu]
      · rw [htb]
        exact clampRate_clampRate _
      · rw [hdu]
        exact nofun
      · rw [hdu]
        exact ⟨nofun, fun k => absurd k hunset⟩
      · rw [hdu]
      · rw [hdu]

/-- Table 3-2 selects a QUALIFIED or a WATCH reference. -/
theorem selectFrom_usable {current : Option Ref} {preferred : Ref} {st : Ref → QualState} {r : Ref}
    (h : selectFrom current preferred st = some r) : (st r).usable = true := by
  rw [selectFrom_eq] at h
  split at h
  · next hq =>
    obtain rfl := Option.some.inj h
    rw [hq]
    rfl
  split at h
  · next hq =>
    obtain rfl := Option.some.inj h
    rw [hq]
    rfl
  split at h
  · next hq =>
    rw [h] at hq
    rw [Option.some.inj hq]
    rfl
  split at h
  · next hq =>
    obtain rfl := Option.some.inj h
    rw [hq]
    rfl
  split at h
  · next hq =>
    obtain rfl := Option.some.inj h
    rw [hq]
    rfl
  · cases h

end Sys2Proof.Machine
end


section
/-! The form of DU over the commands that steer the clock, and over every command. -/

namespace Sys2Proof.Machine

/-! ### Steps that steer nothing -/

section
variable {s t : State}

theorem State.Steady.disciplineWf (h : s.Steady t) (hopen : s.anyPortOpen = false → t.anyPortOpen = false)
    (hs : s.DisciplineWf) : t.DisciplineWf := h.wf hs fun _ => hopen

theorem State.setMon_wf (hs : s.DisciplineWf) (r : Ref) (x : Monitor) (hx : x.state = (s.mon r).state) :
    (s.setMon r x).DisciplineWf := by
  have hsame := s.setMon_same r x
  refine State.Steady.disciplineWf ⟨.of_eq (hsame .du (by simp)), congrArg TimeBase.rate (hsame .tb (by simp)), fun q => ?_⟩
    (anyPortOpen_of_same hsame (by simp)).trans hs
  by_cases hq : q = r
  · rw [hq, State.setMon_mon, hx]
  · rw [s.setMon_mon_other r q x hq]

theorem State.setDu_wf (hs : s.DisciplineWf) {x : Discipline} (hx : s.du.SameSteering x) : (s.setDu x).DisciplineWf :=
  State.Steady.disciplineWf (s := s) ⟨hx, rfl, fun _ => rfl⟩ id hs

theorem State.clockRecord_wf (hs : s.DisciplineWf) (e : ClockEvent) : (s.clockRecord e).DisciplineWf := by
  have hsame := s.clockRecord_same e
  exact State.Steady.disciplineWf
    ⟨.of_twinned (s.clockRecord_logsTo e).twinTo, congrArg TimeBase.rate (hsame .tb (by simp)),
      fun q => congrArg Monitor.state (hsame (.mon q) (by simp))⟩ (anyPortOpen_of_same hsame (by simp)).trans hs

theorem Discipline.clearStale_sameSteering (x : Discipline) (r : Ref) : x.SameSteering (x.clearStale r) := by
  cases r <;> exact ⟨rfl, rfl, rfl, rfl, rfl⟩

/-- A frame outside TB, DU, the monitors and the ports. -/
theorem State.disciplineWf_of_same {bs : List Block} (h : s.SameBut t bs)
    (hbs : .du ∉ bs ∧ .tb ∉ bs ∧ (∀ r, .mon r ∉ bs) ∧ ∀ p, .port p ∉ bs) (hs : s.DisciplineWf) : t.DisciplineWf := by
  obtain ⟨hdu, htb, hmon, hports⟩ := hbs
  exact State.Steady.disciplineWf
    ⟨.of_eq (h .du hdu), congrArg TimeBase.rate (h .tb htb), fun r => congrArg Monitor.state (h (.mon r) (hmon r))⟩
    (anyPortOpen_of_same h hports).trans hs

/-! ### An evaluation of the selection (R39) -/

theorem State.switchTo_selected_wf (hservo : s.Servoed) (hanchor : s.Anchored) (cause : SwitchCause) :
    (s.switchTo s.selected cause).DisciplineWf := by
  obtain ⟨hform, hmode, hsame, hsel⟩ := switchTo_form hservo s.selected cause
  refine disciplineWf_iff.mpr ⟨fun r hr => ?_, ?_, hform⟩
  · rw [(Selecting.switchTo (.refl s) s.selected cause).same (.mon r) (by simp)]
    exact selectFrom_usable (st := fun r => (s.mon r).state) (hsel.symm.trans hr)
  · unfold Anchored
    rw [hmode, hsame]
    exact hanchor

/-- A selection that the evaluation confirms is usable. -/
theorem State.usesUsable_of_selected (h : s.selected = s.du.selection) : s.UsesUsable := fun _ hr =>
  selectFrom_usable (st := fun r => (s.mon r).state) (h.trans hr)

theorem State.evaluateSelection_wf (hs : s.DisciplineWf) (cause : SwitchCause) :
    (s.evaluateSelection cause).DisciplineWf := by
  obtain ⟨_, hanchor, hservo⟩ := disciplineWf_iff.mp hs
  unfold evaluateSelection
  split
  · exact hs
  · exact switchTo_selected_wf hservo hanchor cause

theorem State.evaluateReport_wf (hservo : s.Servoed) (hanchor : s.Anchored) (r : Ref) (before after : QualState)
    (cause : RefCause) : (s.evaluateReport r before after cause).DisciplineWf := by
  unfold evaluateReport
  split
  · next hkept =>
    have hs := disciplineWf_iff.mpr ⟨usesUsable_of_selected hkept, hanchor, hservo⟩
    split
    · exact clockRecord_wf hs _
    · exact hs
  · exact switchTo_selected_wf hservo hanchor _

/-! ### A mark report (R42, R50, R51) -/

theorem State.followed_wf (hs : s.DisciplineWf) (m : MarkReport) : (s.followed m).DisciplineWf := by
  have hsame := s.followed_same (m := m)
  refine State.Steady.disciplineWf ⟨?_, ?_, fun q => congrArg Monitor.state (hsame (.mon q) (by simp))⟩
    (anyPortOpen_of_same hsame (by simp)).trans hs
  · rw [followed_du]
    exact ⟨rfl, rfl, rfl, rfl, rfl⟩
  · rw [followed_tb]

/-- A used mark is acted on, and anchors the clock. -/
theorem State.anchorMark_wf (hs : s.DisciplineWf) (u : UsedMark) (taken : Nat) :
    (State.anchorMark (s.actOnMark u) u taken).DisciplineWf := by
  obtain ⟨husable, _, hservo⟩ := disciplineWf_iff.mp hs
  obtain ⟨hacted, hmode⟩ := actOnMark_servoed u hservo
  obtain ⟨hsel, _⟩ := s.actOnMark_keeps u
  refine disciplineWf_iff.mpr ⟨fun r hr => ?_, ⟨fun k => absurd k hmode, nofun⟩, hacted.of_kept rfl rfl rfl rfl id⟩
  show ((s.actOnMark u).state.mon r).state.usable = true
  rw [s.actOnMark_same u (.mon r) (by simp [disciplineBlocks])]
  exact husable r (hsel.symm.trans hr)

theorem State.takeOwnReport_wf (hs : s.DisciplineWf) (m : MarkReport) : (s.takeOwnReport m).DisciplineWf := by
  have hfollowed := followed_wf hs m
  cases hused : (s.followed m).usedMark m with
  | none => rwa [takeOwnReport_of_unused hused]
  | some u =>
    rw [takeOwnReport_of_used hused]
    exact anchorMark_wf hfollowed u _

/-- DU takes a report: where the state of the reference stayed, the selection was usable before. -/
theorem State.takeReport_wf (hservo : s.Servoed) (hanchor : s.Anchored) {m : MarkReport}
    (husable : m.cause = none → s.UsesUsable) : (s.takeReport m).DisciplineWf := by
  have hevaluated : (s.reportEvaluated m).DisciplineWf := by
    unfold reportEvaluated
    split
    · exact evaluateReport_wf hservo hanchor _ _ _ _
    · next hnone => exact disciplineWf_iff.mpr ⟨husable hnone, hanchor, hservo⟩
  by_cases hown : (s.reportEvaluated m).du.selection = some m.ref
  · rw [takeReport_of_own hown]
    exact setDu_wf (takeOwnReport_wf hevaluated m) (Discipline.clearStale_sameSteering _ _)
  · rw [takeReport_of_other hown]
    exact setDu_wf hevaluated (Discipline.clearStale_sameSteering _ _)

/-- What moves neither DU nor TB nor a port leaves the servo and the anchor. -/
theorem State.servoed_of_same {bs : List Block} (h : s.SameBut t bs) (hdu : .du ∉ bs) (htb : .tb ∉ bs)
    (hports : ∀ p, .port p ∉ bs) (hs : s.Servoed ∧ s.Anchored) : t.Servoed ∧ t.Anchored := by
  obtain ⟨hservo, hanchor⟩ := hs
  have hdu : t.du = s.du := h .du hdu
  have htb : t.tb = s.tb := h .tb htb
  refine ⟨hservo.of_kept ?_ ?_ ?_ ?_ (anyPortOpen_of_same h hports).trans, ?_⟩
  · rw [hdu]
  · rw [hdu]
  · rw [hdu]
  · rw [htb]
  · unfold Anchored
    rw [hdu]
    exact hanchor

theorem State.setMon_servoed (hs : s.DisciplineWf) (r : Ref) (x : Monitor) :
    (s.setMon r x).Servoed ∧ (s.setMon r x).Anchored := by
  obtain ⟨_, hanchor, hservo⟩ := disciplineWf_iff.mp hs
  exact servoed_of_same (s.setMon_same r x) (by simp) (by simp) (by simp) ⟨hservo, hanchor⟩

theorem State.refChanged_servoed (hs : s.Servoed ∧ s.Anchored) (r : Ref) (old : QualState) (cause : RefCause) :
    (s.refChanged r old cause).Servoed ∧ (s.refChanged r old cause).Anchored :=
  servoed_of_same (s.notice_same _ _) (by simp) (by simp) (by simp) hs

theorem State.closeMark_wf (hs : s.DisciplineWf) (r : Ref) (c : ClosedMark) : (s.closeMark r c).DisciplineWf := by
  have hset := setMon_servoed hs r ((s.mon r).close c.reason)
  by_cases hkept : ((s.mon r).close c.reason).state = (s.mon r).state
  · obtain ⟨husable, _, _⟩ := disciplineWf_iff.mp (setMon_wf hs r _ hkept)
    unfold closeMark
    dsimp only
    rw [if_pos hkept]
    exact takeReport_wf hset.1 hset.2 fun _ => husable
  · unfold closeMark
    dsimp only
    rw [if_neg hkept]
    obtain ⟨hservo, hanchor⟩ := refChanged_servoed hset r (s.mon r).state (changeCause (s.mon r).state c.reason)
    refine takeReport_wf hservo hanchor fun hnone => ?_
    exact absurd ((if_neg hkept).symm.trans hnone) nofun

theorem State.closeNoLabel_wf (hs : s.DisciplineWf) (r : Ref) (p : PendingMark) : (s.closeNoLabel r p).DisciplineWf :=
  closeMark_wf (setMon_wf hs r (s.mon r).dropMark rfl) r _

/-! ### The commands of the marks -/

theorem markEdge_wf (hs : s.DisciplineWf) (r : Ref) : (markEdge r s).DisciplineWf := by
  have hcaptured : (s.setMon r ((s.mon r).capture s.tick)).DisciplineWf := State.setMon_wf hs r _ rfl
  unfold markEdge
  dsimp only
  split
  · split
    · exact State.setMon_wf (State.closeNoLabel_wf hcaptured r _) r _ rfl
    · exact State.setMon_wf hcaptured r _ rfl
  · exact hs

theorem timeMessage_wf (hs : s.DisciplineWf) (r : Ref) (bytes : List Byte) : (timeMessage r bytes s).DisciplineWf := by
  unfold timeMessage
  split
  · split
    · exact hs
    · exact State.setMon_wf hs r _ rfl
    · next msg _ =>
      cases hp : (s.mon r).pendingMark with
      | none =>
        unfold State.messageArrived
        simp only [hp]
        exact State.setMon_wf hs r _ rfl
      | some p =>
        rw [State.messageArrived_of_pending hp]
        exact State.closeMark_wf (State.setMon_wf hs r _ ((s.mon r).received.judge_rest msg p.verdict).1) r _
  · exact hs

theorem messageWaitExpiry_wf (hs : s.DisciplineWf) (r : Ref) : (messageWaitExpiry r s).DisciplineWf := by
  unfold messageWaitExpiry
  split
  · split
    · exact State.closeNoLabel_wf hs r _
    · exact hs
  · exact hs

theorem missingMarkExpiry_wf (hs : s.DisciplineWf) (r : Ref) : (missingMarkExpiry r s).DisciplineWf := by
  unfold missingMarkExpiry
  split
  · exact State.closeMark_wf (State.setMon_wf hs r ((s.mon r).missEdge s.tick) rfl) r _
  · exact hs

/-! ### CLOCK_SET (R49) and REF_CONFIG (R170) -/

theorem State.clockSetApplied_wf (hs : s.DisciplineWf) (hmode : s.du.mode = .unset ∨ s.du.mode = .holdover)
    (v d : Nat) (o : Int) (b a : Nat) : (s.clockSetApplied v d o b a).DisciplineWf := by
  obtain ⟨husable, _, hservo⟩ := disciplineWf_iff.mp hs
  have htwin := s.clockMoved_twinned v
  have hdu := s.clockEntered_du v d o hmode
  rw [clockSetApplied_eq]
  refine clockRecord_wf (disciplineWf_iff.mpr ⟨fun r hr => ?_, ?_, hservo.entered ?_ ?_ ?_ ?_ ?_⟩) _
  · have hmon : (s.clockEntered v d o).mon r = s.mon r := by
      have hrecorded := clockRecord_same (s.clockEntered v d o) (.set b a v d s.du.mode) (.mon r) (by simp)
      rw [← clockSetApplied_eq] at hrecorded
      exact hrecorded.symm.trans (s.clockSetApplied_same v d o b a (.mon r) (by simp [disciplineBlocks]))
    rw [hmon]
    rw [hdu] at hr
    exact husable r (htwin.selection.symm.trans hr)
  · unfold Anchored
    rw [hdu]
    exact ⟨nofun, nofun⟩
  · rw [hdu]
    exact nofun
  · rw [hdu]
    exact nofun
  · rw [hdu]
    exact htwin.integral
  · rw [hdu]
    show (if s.du.mode = .unset then 0 else s.du.rate) = s.du.rate
    split
    · next hunset => exact (hservo.unset hunset).2.2.symm
    · rfl
  · rw [clockEntered_tb, clockMoved_tb, TimeBase.stepBy_eq]

end

theorem clockSet_wf (payload : List Byte) {s : State} (hs : s.DisciplineWf) : (clockSet payload s).state.DisciplineWf := by
  unfold clockSet
  dsimp only
  split
  · next htakes =>
    have hmode : s.du.mode = .unset ∨ s.du.mode = .holdover := by
      cases hm : s.du.mode with
      | unset => exact .inl rfl
      | holdover => exact .inr rfl
      | locked => rw [State.takesClockSet_of_refused (.inl hm)] at htakes; cases htakes
      | slewing => rw [State.takesClockSet_of_refused (.inr (.inl hm))] at htakes; cases htakes
    split
    · exact State.clockSetApplied_wf hs hmode _ _ _ _ _
    · exact hs
  · exact hs

theorem State.setEnable_wf {s : State} (hs : s.DisciplineWf) (r : Ref) (enable : Bool) :
    (s.setEnable r enable).DisciplineWf := by
  have hset := setMon_servoed hs r ((s.mon r).setEnable enable s.tick)
  unfold setEnable
  dsimp only
  split
  · next hkept => exact setMon_wf hs r _ (by rwa [State.setMon_mon] at hkept)
  · obtain ⟨hservo, hanchor⟩ := refChanged_servoed hset r (s.mon r).state (if enable then .enable else .disable)
    exact evaluateReport_wf hservo hanchor _ _ _ _

theorem State.setPreferred_wf {s : State} (hs : s.DisciplineWf) (p : Ref) : (s.setPreferred p).DisciplineWf := by
  unfold setPreferred
  split
  · exact hs
  · exact evaluateSelection_wf (setDu_wf hs (x := { s.du with preferred := p }) ⟨rfl, rfl, rfl, rfl, rfl⟩) _

theorem State.configureRef_wf {s : State} (hs : s.DisciplineWf) (r : Ref) (enable : Bool) (ceiling : Nat) (delay : Int)
    (p : Ref) : (s.configureRef r enable ceiling delay p).DisciplineWf := by
  unfold configureRef
  dsimp only
  have hset := setEnable_wf hs r enable
  generalize s.setEnable r enable = u at hset ⊢
  have hceiling : (u.setMon r { u.mon r with ceiling := ceiling }).DisciplineWf := setMon_wf hset r _ rfl
  generalize u.setMon r { u.mon r with ceiling := ceiling } = v at hceiling ⊢
  have hstaged : v.Steady { v with tb := v.tb.stageDelay r delay } :=
    ⟨.refl _, TimeBase.stageDelay_rate _ _ _, fun q => by cases q <;> rfl⟩
  exact setPreferred_wf (hstaged.disciplineWf id hceiling) p

theorem refConfig_wf (payload : List Byte) {s : State} (hs : s.DisciplineWf) : (refConfig payload s).state.DisciplineWf := by
  unfold refConfig
  split
  · next r enable preferred _ _ _ =>
    dsimp only
    have hset := State.configureRef_wf hs r enable (clampCeiling (field payload 2 4)).value
      (clampDelay (fieldInt payload 6 4)).value preferred
    generalize s.configureRef r enable (clampCeiling (field payload 2 4)).value
      (clampDelay (fieldInt payload 6 4)).value preferred = u at hset ⊢
    exact State.disciplineWf_of_same (u.configChange_same _ _ _ _) (by simp) hset
  · exact hs

end Sys2Proof.Machine
end


section
/-! The form of DU over every command, and the parts of O60 together. -/

namespace Sys2Proof.Machine

theorem takeRequest_disciplineWf {kind : Nat} {act : List Byte → State → Acted}
    (h : ∀ p (x : State), x.DisciplineWf → (act p x).state.DisciplineWf) {s : State} (hs : s.DisciplineWf) :
    (takeRequest kind act s).DisciplineWf := by
  unfold takeRequest
  split
  · exact hs
  · next q _ =>
    exact State.disciplineWf_of_same (State.answer_same _ _ _) (by simp)
      (h q.payload _ (State.disciplineWf_of_same s.beginService_same (by simp) hs))

/-- R39 to R51: every action keeps the form of DU. -/
theorem actOf_disciplineWf (c : Instr) {s : State} (hs : s.DisciplineWf) : (actOf c s).DisciplineWf := by
  by_cases hc : steers c = false
  · exact (actOf_steady hc s).wf hs (actOf_anyPortOpen c)
  · cases c with
    | markEdge r => exact markEdge_wf hs r
    | timeMessage r bytes => exact timeMessage_wf hs r bytes
    | messageWaitExpiry r => exact messageWaitExpiry_wf hs r
    | missingMarkExpiry r => exact missingMarkExpiry_wf hs r
    | clockSet => exact takeRequest_disciplineWf (fun p _ hx => clockSet_wf p hx) hs
    | refConfig => exact takeRequest_disciplineWf (fun p _ hx => refConfig_wf p hx) hs
    | _ => exact absurd rfl hc

/-! ### A reset and its end -/

/-- R61: DU in UNSET without a selection and without an anchor, I and R at 0, and no port open. -/
theorem State.disciplineWf_of_fresh {s : State} {p : Ref} (hdu : s.du = { preferred := p }) (hrate : s.tb.rate = 0)
    (hports : ∀ p, (s.port p).openForClock = false) : s.DisciplineWf := by
  unfold DisciplineWf
  rw [hdu, hrate]
  exact ⟨nofun, ⟨fun _ => rfl, fun _ => rfl⟩, fun _ => ⟨anyPortOpen_eq_false_iff.mpr hports, rfl, rfl⟩, by simp⟩

theorem startUpFrom_disciplineWf (cause : ResetCause) (s : State) : (startUpFrom cause s).DisciplineWf := by
  refine State.disciplineWf_of_same (startUpFrom_same cause s) (by simp)
    (State.disciplineWf_of_fresh (s := startBlocks cause s) rfl rfl fun p => ?_)
  simp [State.port, startBlocks, blocksSet, Port.openForClock]

theorem resetHeld_disciplineWf (cause : ResetCause) (s : State) : (resetHeld cause s).DisciplineWf := by
  refine State.disciplineWf_of_fresh rfl rfl fun p => ?_
  simp [State.port, resetHeld, Port.openForClock]

/-! ### The four parts over the step -/

/-- Settles O60, each part an invariant of its own. -/
theorem disciplineTwinGroupsAndControlKeepTheirForm : Obligations.DisciplineTwinGroupsAndControlKeepTheirForm := by
  intro s t _ hdu htlu hgroups hclu hstep
  refine ⟨?_, ?_, ?_, ?_⟩
  · exact step_keeps (P := State.DisciplineWf) (fun _ _ h => h) (fun k x _ => resetHeld_disciplineWf k x)
      (fun k x _ => startUpFrom_disciplineWf k x) (fun c _ h => actOf_disciplineWf c h) hdu hstep
  · exact step_keeps (P := State.TwinWf) (fun _ _ h => h) (fun k x _ => resetHeld_twinWf k x)
      (fun k x _ => startUpFrom_twinWf k x) (fun c _ h => actOf_twinWf c h) htlu hstep
  · exact step_keeps (P := State.GroupsWf) (fun _ _ h => h) (fun k x _ => resetHeld_groups k x)
      (fun k x _ => startUpFrom_groups k x) (fun c _ h => actOf_groups c h) hgroups hstep
  · refine step_keeps (P := fun x => x.clu.Wf) (fun _ _ h => h) (fun k x _ => ?_)
      (fun k x _ => startUpFrom_clu_wf k x) (fun c _ h => actOf_clu c h) hclu hstep
    exact ⟨Nat.zero_le _, Nat.zero_le _, Nat.zero_le _, rfl⟩

end Sys2Proof.Machine
end
